-- ==== Sys2Proof/Word.lean ====
section
/-! DEFINITION. The plain types of the part: bytes, 32-bit words, port and lane numbers, command records. -/

namespace Sys2Proof

/-- A byte of a record, of a fingerprint or of a stream. -/
abbrev Byte := BitVec 8

/-- A 32-bit word of the window hash (R32), the digest (R40) or the check word (R41). -/
abbrev Word32 := BitVec 32

/-- A port number, 0 to 3 (R171). -/
abbrev PortNo := Fin 4

/-- A lane number, 0 to 63 (R47). -/
abbrev LaneNo := Fin 64

/-- A command record: one write of 64 bytes (R195). -/
abbrev CommandRecord := Vector Byte 64

end Sys2Proof
end

