-- ==== Sys2Proof/Syntax.lean ====
section
/-! DEFINITION. The commands of the DI-464: one constructor for each row of spec/opcode_table.json.

The parameters of a controller's command stand in its 64-byte record, which COMMAND_WRITE carries and which waits in the
port's command queue (R172, R195); the row that carries a command out names the port alone. A row in whose step stacked DRAM
may be read carries the errors that have arisen in the DRAM by then (R188 to R190). -/

namespace Sys2Proof

/-- A place of stacked DRAM that a read may find in error: a bucket of the chunk index, or a place of a lane's journal
counted from its oldest entry (R188 to R190). -/
inductive DramPlace where
  | bucket (number : Nat)
  | journal (lane : LaneNo) (place : Nat)
  deriving DecidableEq, Repr

/-- What the memory controller's ECC finds at a place: a single-bit error, which it corrects (R188), or an error it cannot
correct (R189, R190). -/
inductive EccError where
  | single
  | uncorrectable
  deriving DecidableEq, Repr

/-- An error standing in stacked DRAM. -/
structure DramError where
  place : DramPlace
  error : EccError
  deriving DecidableEq, Repr

/-- The DMA access that the link reports as failed (R157). -/
inductive DmaAccess where
  | extentRead
  | ringWrite
  deriving DecidableEq, Repr

/-- Which RELEASE makes its next decrement: the command in hand of a port, or one whose port entered fail-safe while it was
at work (R158), by its place in the list of those. -/
inductive ReleaseRef where
  | inHand (port : PortNo)
  | stray (place : Nat)
  deriving DecidableEq, Repr

/-- The 55 rows of the table of operations and events. -/
inductive Instr where
  | powerOn
  | initialisationEnd
  | commandWrite (port : PortNo) (record : CommandRecord)
  | consumerIndexWrite (port : PortNo) (value : Nat) (errs : List DramError)
  | commandRemovedUnattached (port : PortNo)
  | unknownCommandKind (port : PortNo)
  | attach (port : PortNo)
  | detach (port : PortNo) (errs : List DramError)
  | openLane (port : PortNo)
  | feed (port : PortNo)
  | mark (port : PortNo)
  | setLaneWeight (port : PortNo)
  | laneStatus (port : PortNo)
  | abortLane (port : PortNo)
  | adoptLane (port : PortNo)
  | readJournal (port : PortNo) (errs : List DramError)
  | settle (port : PortNo) (errs : List DramError)
  | release (port : PortNo)
  | releaseDecrement (work : ReleaseRef) (errs : List DramError)
  | insert (port : PortNo) (errs : List DramError)
  | queryByFingerprint (port : PortNo) (errs : List DramError)
  | queryByChunkId (port : PortNo) (errs : List DramError)
  | epochAdvance (port : PortNo) (errs : List DramError)
  | epochFreeze (port : PortNo)
  | epochThaw (port : PortNo) (errs : List DramError)
  | holdPlace (port : PortNo)
  | holdLift (port : PortNo)
  | holdList (port : PortNo)
  | sweepStart (port : PortNo)
  | sweepStop (port : PortNo)
  | propose (port : PortNo) (errs : List DramError)
  | consent (port : PortNo) (errs : List DramError)
  | withdraw (port : PortNo)
  | readAttention (port : PortNo)
  | deviceStatus (port : PortNo)
  | linkReset (port : PortNo) (errs : List DramError)
  | dmaFailure (port : PortNo) (access : DmaAccess) (errs : List DramError)
  | watchdogExpiry (port : PortNo) (errs : List DramError)
  | settleDeadlineExpiry (container : Nat) (errs : List DramError)
  | orphanLimitExpiry (lane : LaneNo)
  | epochTimerExpiry (errs : List DramError)
  | consentDeadlineExpiry
  | sweepEndRequest (errs : List DramError)
  | startRequest
  | bucketExamination (errs : List DramError)
  | engineGrant
  | byteTaken (lane : LaneNo) (byte : Byte)
  | cutReached (lane : LaneNo)
  | tagReached (lane : LaneNo)
  | checkpointReached (lane : LaneNo)
  | endReached (lane : LaneNo)
  | lookup (lane : LaneNo) (errs : List DramError)
  | waiterCompletion (container : Nat) (errs : List DramError)
  | abortWithdrawal (lane : LaneNo) (errs : List DramError)
  | walkStep (lane : LaneNo) (errs : List DramError)
  deriving DecidableEq, Repr

end Sys2Proof
end

