-- ==== Sys2Proof/Decode.lean ====
section
/-! DEFINITION. The command that a word spells by the table's bits. spec/opcode_table.json gives no row any bits
(spec/98_reader.md: rows with fixed bits 0, rows with fields 0), so no word spells a command. The 64-byte command records of
R195 are read in Machine/Operands.lean. -/

namespace Sys2Proof

/-- No row of the table gives bits: every word spells no command. -/
def decodeTableWord (_nbits _w : Nat) : Option Instr := none

end Sys2Proof
end

