-- ==== Sys2Proof/Config.lean ====
section
/-! DEFINITION. The part's fixed capacities and limits (00_scope, "Capacities at a glance", and the rules named). -/

namespace Sys2Proof.Config

/-- Command queue slots of a port (R172). -/
def queueSlots : Nat := 64
/-- Items of a lane's queue (R53). -/
def itemSlots : Nat := 32
/-- Buckets of the chunk index (R1). -/
def buckets : Nat := 4194304
/-- Slots in all, the largest occupancy (R25). -/
def slotsInAll : Nat := 67108864
/-- Generations of a slot run from 0 to this less one (R1). -/
def generations : Nat := 16384
/-- The largest count of an entry (R7). -/
def maxCount : Nat := 16777215
/-- Bytes of a container (R77). -/
def containerSize : Nat := 4194304
/-- The largest chunk, in bytes (R28). -/
def maxChunk : Nat := 262144
/-- Containers the settlement table holds (R79). -/
def tableSlots : Nat := 256
/-- Entries of a lane's journal (R98). -/
def journalSlots : Nat := 262144
/-- The high-water mark of a journal (R99). -/
def journalHigh : Nat := 229376
/-- Numbers on a recently-withdrawn list (R92). -/
def recentSlots : Nat := 16
/-- Notices a container notice queue holds (R93). -/
def noticeSlots : Nat := 768
/-- Notices at which a port takes no new container (R75). -/
def noticeBacklog : Nat := 256
/-- Buckets on the poison list (R189). -/
def poisonSlots : Nat := 64
/-- The largest 32-bit value, at which the epoch and the device counters stop (R117, R14, R181, R188). -/
def max32 : Nat := 4294967295
/-- The multiplier M of the window hash (R28). -/
def hashM : Word32 := 263
/-- Bytes of quota for each unit of weight (R61). -/
def quotaUnit : Nat := 65536
/-- The withdrawn-since-commit count stops here (R102). -/
def max16 : Nat := 65535

end Sys2Proof.Config
end

