-- ==== Sys2Proof/Machine/Bytes.lean ====
section
/-! DEFINITION. Bytes of records: little-endian integers, sets as bit masks, and records laid out by offset
(11_record_formats). -/

namespace Sys2Proof.Machine

open Sys2Proof

/-- The low `width` bytes of a number, least significant first (11_record_formats: integers are little-endian). -/
def leBytes (width value : Nat) : List Byte := (List.range width).map fun i => BitVec.ofNat 8 (value / 256 ^ i)

/-- The number that bytes hold, least significant first. -/
def ofLeBytes : List Byte → Nat
  | [] => 0
  | b :: rest => b.toNat + 256 * ofLeBytes rest

/-- The bytes at `offset`, replaced in a record by `bytes`. -/
def overlay (record : List Byte) (offset : Nat) (bytes : List Byte) : List Byte :=
  record.take offset ++ bytes ++ record.drop (offset + bytes.length)

/-- A record of 128 bytes with the given bytes at the given offsets and zero elsewhere (R196). -/
def layOut (fields : List (Nat × List Byte)) : List Byte :=
  (fields.foldl (fun r f => overlay r f.1 f.2) (List.replicate 128 0)).take 128

/-- A set of numbers as a bit mask: bit n stands for member n (11_record_formats). -/
def maskOf (members : List Nat) : Nat := members.foldl (fun m n => m ||| 2 ^ n) 0

/-- A Bool as the number 1 or 0. -/
def bit (b : Bool) : Nat := if b then 1 else 0

/-- A counter that stops at a largest value. -/
def countTo (limit value : Nat) : Nat := if value < limit then value + 1 else limit

/-- `value` raised by `n`, stopping at `limit`. -/
def addTo (limit n value : Nat) : Nat := min limit (value + n)

/-- A list without repeats with `x` joined. -/
def joinSet {α : Type} [DecidableEq α] (xs : List α) (x : α) : List α := if x ∈ xs then xs else xs ++ [x]

end Sys2Proof.Machine
end

