-- ==== Sys2Proof/Machine/Digest.lean ====
section
/-! DEFINITION. The two functions computed over every chunk's bytes, each kept as a state that takes one byte at a time
(R31 step 4): the SHA-256 digest (R40) and the CRC-32C check word (R41). -/

namespace Sys2Proof.Machine

/-! ### SHA-256: its constants, which are the first bits of the roots of the primes (notes/assumptions/30.md) -/

/-- The first 64 primes: the numbers from 2 to 311 that no smaller prime below 19 divides, 19 squared being above them all. -/
def shaPrimes : List Nat :=
  (List.range 312).filter fun k => decide (2 ≤ k) && [2, 3, 5, 7, 11, 13, 17].all fun d => decide (k ≤ d) || decide (k % d ≠ 0)

/-- The greatest number at or above `low`, found over its low `bits` bits, whose `degree`-th power does not exceed `target`. -/
def rootFrom (degree target : Nat) : (bits : Nat) → (low : Nat) → Nat
  | 0, low => low
  | bits + 1, low => rootFrom degree target bits (if (low + 2 ^ bits) ^ degree ≤ target then low + 2 ^ bits else low)

/-- The first 32 bits after the point of the `degree`-th root of `p`. -/
def rootFraction (degree p : Nat) : Word32 := BitVec.ofNat 32 (rootFrom degree (p * 2 ^ (32 * degree)) 37 0)

/-- The constants of the 64 rounds: from the cube roots. -/
def shaRoundConstants : List Word32 := shaPrimes.map (rootFraction 3)

/-! ### SHA-256: the compression of a block -/

/-- A shift register of four words. -/
structure Quad where
  first : Word32
  second : Word32
  third : Word32
  last : Word32
  deriving DecidableEq, Repr

/-- A word shifted in; the last word leaves. -/
def Quad.shift (q : Quad) (x : Word32) : Quad := { first := x, second := q.first, third := q.second, last := q.third }

/-- Two registers added word by word. -/
def Quad.add (q r : Quad) : Quad :=
  { first := q.first + r.first, second := q.second + r.second, third := q.third + r.third, last := q.last + r.last }

/-- The words of a register, the first one first. -/
def Quad.words (q : Quad) : List Word32 := [q.first, q.second, q.third, q.last]

/-- The eight words of the hash value, and of a compression at work: an upper and a lower register. -/
structure HashValue where
  upper : Quad
  lower : Quad
  deriving DecidableEq, Repr

/-- The register that holds the square roots' bits of four primes. -/
def rootQuad (p q r s : Nat) : Quad :=
  { first := rootFraction 2 p, second := rootFraction 2 q, third := rootFraction 2 r, last := rootFraction 2 s }

/-- The hash value before the first block: from the square roots of the first eight primes. -/
def HashValue.initial : HashValue := { upper := rootQuad 2 3 5 7, lower := rootQuad 11 13 17 19 }

/-- A word's rotations to the right by each of the amounts, all added without carry. -/
def turned (amounts : List Nat) (x : Word32) : Word32 := amounts.foldl (fun sum k => sum ^^^ x.rotateRight k) 0

/-- For each bit the second register bit where the first is 1, else the third. -/
def Quad.pick (q : Quad) : Word32 := q.third ^^^ (q.first &&& (q.second ^^^ q.third))

/-- For each bit the value that at least two of the first three words have. -/
def Quad.vote (q : Quad) : Word32 := (q.first &&& q.second) ||| (q.third &&& (q.first ||| q.second))

/-- One round, with the sum of its constant and its schedule word. -/
def HashValue.round (h : HashValue) (x : Word32) : HashValue :=
  let carried := h.lower.last + x + turned [6, 11, 25] h.lower.first + h.lower.pick
  { upper := h.upper.shift (carried + turned [2, 13, 22] h.upper.first + h.upper.vote)
    lower := h.lower.shift (h.upper.last + carried) }

/-- The words of a block of bytes, four to a word, the most significant byte first. -/
def blockWords : List Byte → List Word32
  | a :: b :: c :: d :: rest => BitVec.ofNat 32 (ofLeBytes [d, c, b, a]) :: blockWords rest
  | _ => []

/-- The message schedule lengthened by `n` words, its newest word standing first. -/
def lengthen : (n : Nat) → (newestFirst : List Word32) → List Word32
  | 0, ws => ws
  | n + 1, ws =>
    let back (k : Nat) := ws.getD (k - 1) 0
    let low := turned [7, 18] (back 15) ^^^ (back 15 >>> 3)
    let high := turned [17, 19] (back 2) ^^^ (back 2 >>> 10)
    lengthen n ((back 16 + back 7 + low + high) :: ws)

/-- A block of 64 bytes compressed into the hash value. -/
def HashValue.absorb (h : HashValue) (block : List Byte) : HashValue :=
  let schedule := (lengthen 48 (blockWords block).reverse).reverse
  let mixed := (List.zipWith (· + ·) shaRoundConstants schedule).foldl HashValue.round h
  { upper := h.upper.add mixed.upper, lower := h.lower.add mixed.lower }

/-! ### The digest state -/

/-- The digest state over the bytes taken so far: the hash value, and the bytes of the block not yet full (fewer than 64, oldest
first). -/
structure DigestState where
  hash : HashValue
  block : List Byte
  deriving DecidableEq, Repr

/-- The digest state before the first byte (R30). -/
def DigestState.start : DigestState := { hash := HashValue.initial, block := [] }

/-- The digest state takes one byte (R31 step 4); a full block is compressed at once. -/
def DigestState.take (s : DigestState) (b : Byte) : DigestState :=
  if s.block.length + 1 < 64 then { s with block := s.block ++ [b] }
  else { hash := s.hash.absorb (s.block ++ [b]), block := [] }

/-- What follows a message of `len` bytes whose last block holds `used` bytes: #80, zeros up to eight bytes before the end of a
block, and the length in bits, most significant byte first. -/
def messageEnd (used len : Nat) : List Byte :=
  [0x80] ++ List.replicate ((119 - used) % 64) 0 ++ (leBytes 8 (8 * len)).reverse

/-- The fingerprint: the digest completed over the chunk's `len` bytes, 32 bytes in digest byte order (R40). -/
def DigestState.finish (s : DigestState) (len : Nat) : List Byte :=
  let done := ((messageEnd s.block.length len).foldl DigestState.take s).hash
  (done.upper.words ++ done.lower.words).flatMap fun w => (leBytes 4 w.toNat).reverse

/-! ### CRC-32C -/

/-- The CRC-32C register before the first byte (R41). -/
def crcStart : Word32 := 0xffffffff

/-- One bit step of the reflected CRC-32C register (R41). -/
def crcBit (r : Word32) : Word32 := if r.getLsbD 0 then (r >>> 1) ^^^ 0x82f63b78 else r >>> 1

/-- The check state takes one byte, least significant bit first (R41). -/
def crcTake (r : Word32) (b : Byte) : Word32 :=
  crcBit (crcBit (crcBit (crcBit (crcBit (crcBit (crcBit (crcBit (r ^^^ b.setWidth 32))))))))

/-- The check word: the register complemented at the end (R41). -/
def crcFinish (r : Word32) : Word32 := ~~~r

end Sys2Proof.Machine
end

