-- ==== Sys2Proof/Machine/State.lean ====
section
/-! DEFINITION. The state of the DI-464 as plain data, and its value right after power is applied (R187). -/

namespace Sys2Proof.Machine

open Sys2Proof

/-! ### Codes: named values, in the order of 11_record_formats "Codes" -/

inductive Outcome where
  | ok | accepted | badParam | refusedState | notOwner | unknown | busy | full | late | tooEarly | exists_ | stale
  | notRequired | poisoned
  deriving DecidableEq, Repr

/-- The result of one decrement (R18). -/
inductive DecResult where
  | released | pinned | stale | underflow | poisoned
  deriving DecidableEq, Repr

inductive VerdictKind where
  | new | dup | newUnindexed
  deriving DecidableEq, Repr

inductive UnindexedReason where
  | none | passthrough | poisoned | collision | bucketFull
  deriving DecidableEq, Repr

/-- The cause of a chunk's end (R36). -/
inductive Cut where
  | content | limit | item
  deriving DecidableEq, Repr

inductive LaneClass where
  | cold | mixed | hot
  deriving DecidableEq, Repr

inductive LaneState where
  | free | active | checkpointing | closing | aborting | orphaned
  deriving DecidableEq, Repr

inductive SealReason where
  | full | checkpoint | demand
  deriving DecidableEq, Repr

inductive WithdrawCause where
  | expired | aborted | passthrough
  deriving DecidableEq, Repr

inductive AbortCause where
  | command | abandon | orphanExpired | sequenceExhausted
  deriving DecidableEq, Repr

inductive CutSource where
  | content | fixed | supplied
  deriving DecidableEq, Repr

inductive FailAction where
  | suspend | abandon
  deriving DecidableEq, Repr

inductive Coalescing where
  | auto | off
  deriving DecidableEq, Repr

inductive WatchMode where
  | none | rising | falling | both
  deriving DecidableEq, Repr

inductive SweepMode where
  | onePass | continuous
  deriving DecidableEq, Repr

inductive ScanState where
  | idle | scanning
  deriving DecidableEq, Repr

inductive ProposalOutcome where
  | applied | rejected | withdrawn | lapsed | voided
  deriving DecidableEq, Repr

inductive DeviceState where
  | rebuild | service | passthrough
  deriving DecidableEq, Repr

inductive PortState where
  | detached | attached | failsafe
  deriving DecidableEq, Repr

inductive Disposition where
  | advanced | atLimit | held | absorbed
  deriving DecidableEq, Repr

/-- A timer: STOPPED (`none`), or RUNNING with the ms remaining. -/
abbrev Timer := Option Nat

/-! ### The chunk index -/

/-- An entry's state, with the field present in that state alone (R5): the owner lane while PENDING, the zero epoch while
ZERO. -/
inductive EntryState where
  | pending (owner : LaneNo)
  | live
  | zero (epoch : Nat)
  | pinned
  deriving DecidableEq, Repr

/-- The record of one chunk (R5). -/
structure Entry where
  fingerprint : List Byte
  check : Word32
  state : EntryState
  count : Nat
  container : Nat
  offset : Nat
  length : Nat
  birth : Nat
  lastRef : Nat
  deriving DecidableEq, Repr

/-- A slot: FREE or holding an entry, at a generation (R1). -/
structure Slot where
  generation : Nat
  entry : Option Entry
  deriving DecidableEq, Repr

/-- A bucket of 16 slots (R1). -/
abbrev Bucket := Vector Slot 16

/-- A bucket no entry has ever stood in: every slot FREE at generation 0 (R1). -/
def Bucket.untouched : Bucket := Vector.replicate 16 { generation := 0, entry := none }

/-- A slot at a generation: the name by which members, waiters and removals refer to an entry (R3, R80). -/
structure SlotRef where
  bucket : Nat
  slot : Fin 16
  generation : Nat
  deriving DecidableEq, Repr

/-! ### Cutting -/

/-- A profile: window W, divisor exponent k, minimum m, maximum X, seed s (R28). -/
structure Profile where
  window : Nat
  exponent : Nat
  minimum : Nat
  maximum : Nat
  seed : Nat
  deriving DecidableEq, Repr

/-- The default profile, slot 0 at power-on (R28). -/
def Profile.default : Profile := { window := 48, exponent := 13, minimum := 2048, maximum := 65536, seed := 0 }

/-- A profile slot (R140): the roll factor P stays with the slot while it is ACTIVE or RETIRING. -/
inductive ProfileSlot where
  | empty
  | active (profile : Profile) (roll : Word32) (uses : Nat)
  | retiring (profile : Profile) (roll : Word32) (uses : Nat)
  deriving DecidableEq, Repr

/-- The partial chunk of a lane (R30). -/
structure Partial where
  length : Nat
  window : List Byte
  hash : Option Word32
  digest : DigestState
  check : Word32
  deriving DecidableEq, Repr

/-- The empty partial chunk (R30). -/
def Partial.empty : Partial :=
  { length := 0, window := [], hash := none, digest := DigestState.start, check := crcStart }

/-- A chunk that has ended and has not had its result, with its wait history (R42, R48). -/
structure Chunk where
  length : Nat
  first : BitVec 64
  fingerprint : List Byte
  check : Word32
  cut : Cut
  waited : Bool
  deriving DecidableEq, Repr

/-! ### Lanes -/

/-- An item of a lane's queue (R52, R53). -/
inductive Item where
  | data (address : Nat) (length : Nat) (consumed : Nat)
  | cut
  | tag (value : Nat)
  | checkpoint
  | finish
  deriving DecidableEq, Repr

/-- A pending tag with its overrun mark (R56). -/
structure Tag where
  value : Nat
  overrun : Bool
  deriving DecidableEq, Repr

/-- A VERDICT record (R68). -/
structure Verdict where
  lane : LaneNo
  seq : Nat
  kind : VerdictKind
  resurrected : Bool
  waited : Bool
  reason : UnindexedReason
  cut : Cut
  offset : BitVec 64
  length : Nat
  chunkId : Option Nat
  container : Nat
  place : Nat
  fingerprint : List Byte
  check : Word32
  tag : Option Tag
  cls : LaneClass
  deriving DecidableEq, Repr

/-- A run under construction: the verdict of its first element, the chunk ID and length of each element, and the closed mark
(R48, R72, R73). -/
structure Run where
  first : Verdict
  elems : List (Nat × Nat)
  closed : Bool
  deriving DecidableEq, Repr

/-- The fields of a LANE record from byte 32 on, by its kind (11_record_formats). -/
inductive LaneBody where
  | adopted (partialLength unresolvedLength : Nat) (unresolvedFirst : BitVec 64) (journalCount containerCount : Nat)
  | checkpoint (refs unindexed settled withdrawn withdrawnSince : Nat)
  | closed (refs unindexed settled withdrawn withdrawnSince : Nat)
  | aborted (withdrawn released pinned stale underflow poisoned skipped : Nat)
  deriving DecidableEq, Repr

/-- A LANE record (R105, R106, R113, R168). -/
structure LaneRecord where
  lane : LaneNo
  forced : Bool
  unresolved : Bool
  detail : Nat
  stateCode : Nat
  offset : BitVec 64
  nextSeq : Nat
  tag : Option Tag
  body : LaneBody
  deriving DecidableEq, Repr

/-- What stands in the place of a lane's held verdict: a VERDICT, or an ADOPTED record (R65, R168). -/
inductive Held where
  | verdict (v : Verdict)
  | adopted (r : LaneRecord)
  deriving DecidableEq, Repr

/-- What a journal entry names (R98). -/
inductive JournalRef where
  | ref (chunkId : Nat)
  | unindexed (container offset : Nat)
  deriving DecidableEq, Repr

/-- A journal entry (R98). -/
structure JournalEntry where
  seq : Nat
  what : JournalRef
  length : Nat
  deriving DecidableEq, Repr

/-- The set of stall causes (R63). -/
structure Stalls where
  ringFull : Bool
  waiting : Bool
  noContainer : Bool
  journalFull : Bool
  starved : Bool
  deriving DecidableEq, Repr

/-- No stall cause. -/
def Stalls.clear : Stalls :=
  { ringFull := false, waiting := false, noContainer := false, journalFull := false, starved := false }

/-- A grant of a digest engine: its quota and the bytes taken under it (R61). -/
structure Grant where
  engine : Fin 8
  quota : Nat
  taken : Nat
  deriving DecidableEq, Repr

/-- What an aborting lane records: the cause and the state at the abort (R109), the containers withdrawn (R110), the walk's six
counts (R111), whether the walk has ended (R113), and whether its owner port has failed since, so that its records will be
discarded (R160). -/
structure AbortRecord where
  cause : AbortCause
  stateAt : LaneState
  withdrawn : Nat
  released : Nat
  pinned : Nat
  stale : Nat
  underflow : Nat
  poisoned : Nat
  skipped : Nat
  walkEnded : Bool
  discard : Bool
  deriving DecidableEq, Repr

/-- The lane record (R48), with the journal and the lists the other blocks keep for the lane. -/
structure Lane where
  state : LaneState
  owner : Option PortNo
  former : Option PortNo
  resume : Option LaneState
  label : Nat
  slot : Fin 4
  cutSource : CutSource
  action : FailAction
  coalescing : Coalescing
  weight : Nat
  staged : Option Nat
  offset : BitVec 64
  nextSeq : Option Nat
  part : Partial
  chunk : Option Chunk
  items : List Item
  tag : Option Tag
  keptTag : Option Tag
  run : Option Run
  held : Option Held
  cls : LaneClass
  candidate : Option LaneClass
  agreement : Nat
  windowChunks : Nat
  windowDups : Nat
  waitTarget : Option Nat
  stalls : Stalls
  grant : Option Grant
  openC : Option Nat
  unsettled : List Nat
  journal : List JournalEntry
  ckSettled : Nat
  ckWithdrawn : Nat
  withdrawnSince : Nat
  abort : Option AbortRecord
  deriving DecidableEq, Repr

/-- The record of a FREE lane: its number alone (R48), every field at an idle value. -/
def Lane.free : Lane where
  state := .free
  owner := none
  former := none
  resume := none
  label := 0
  slot := 0
  cutSource := .content
  action := .suspend
  coalescing := .auto
  weight := 1
  staged := none
  offset := 0
  nextSeq := some 1
  part := Partial.empty
  chunk := none
  items := []
  tag := none
  keptTag := none
  run := none
  held := none
  cls := .cold
  candidate := none
  agreement := 0
  windowChunks := 0
  windowDups := 0
  waitTarget := none
  stalls := Stalls.clear
  grant := none
  openC := none
  unsettled := []
  journal := []
  ckSettled := 0
  ckWithdrawn := 0
  withdrawnSince := 0
  abort := none

/-! ### Containers -/

/-- OPEN, or SEALED with the seal reason and the settle deadline (R79, R83). -/
inductive ContainerState where
  | opened
  | sealed (reason : SealReason) (deadline : Timer)
  deriving DecidableEq, Repr

/-- A container in the settlement table (R79). -/
structure Container where
  number : Nat
  ownerLane : LaneNo
  ownerPort : PortNo
  state : ContainerState
  fill : Nat
  members : List SlotRef
  waiters : List (LaneNo × SlotRef)
  deriving DecidableEq, Repr

/-- The waiter list of a settled container, kept for the completions of its waiters (R85 step 3, R86), with what the SETTLE
completion will report. `stray` is set when the sending port has entered fail-safe since (R158). -/
structure Settling where
  container : Nat
  sender : PortNo
  stray : Bool
  tag : Nat
  members : List SlotRef
  settled : Nat
  zeros : Nat
  dups : Nat
  repeats : Nat
  waiters : List (LaneNo × SlotRef)
  deriving DecidableEq, Repr

/-- The waiters of one withdrawal, or one waiter of a settled container, that still have their turn to repeat their lookups, the
first in the list first (R91). `settled` names the settled container whose next waiter is held until then (R86). -/
structure Turns where
  waiters : List LaneNo
  settled : Option Nat
  deriving DecidableEq, Repr

/-- Which of the two kinds a CONTAINER notice is (R83, R93). -/
inductive NoticeKind where
  | sealed (reason : SealReason) (settleLimit : Nat)
  | withdrawn (cause : WithdrawCause) (waiters : Nat)
  deriving DecidableEq, Repr

/-- A CONTAINER notice, ready to write (R93). -/
structure Notice where
  kind : NoticeKind
  lane : LaneNo
  container : Nat
  fill : Nat
  members : Nat
  deriving DecidableEq, Repr

/-! ### Epochs, holds, reclaim -/

/-- The epoch trigger set (R142). -/
structure Triggers where
  command : Bool
  timer : Bool
  sweepEnd : Bool
  deriving DecidableEq, Repr

/-- The policy record (R142): grace in epochs, timer interval, settle limit, orphan limit and consent window in s, quiet
interval in ms, passthrough threshold in buckets. -/
structure Policy where
  grace : Nat
  interval : Nat
  triggers : Triggers
  settleLimit : Nat
  quiet : Nat
  orphanLimit : Nat
  consentWindow : Nat
  threshold : Nat
  deriving DecidableEq, Repr

/-- The power-on policy (R142). -/
def Policy.default : Policy where
  grace := 2
  interval := 0
  triggers := { command := true, timer := false, sweepEnd := false }
  settleLimit := 30
  quiet := 2000
  orphanLimit := 300
  consentWindow := 10
  threshold := 8

/-- A hold (R125); its number is its place. -/
structure Hold where
  placer : PortNo
  first : Nat
  last : Nat
  label : Nat
  deriving DecidableEq, Repr

/-- A RECLAIM record (R134) with the port it is destined for. -/
structure Reclaim where
  port : PortNo
  chunkId : Nat
  container : Nat
  offset : Nat
  length : Nat
  fingerprint : List Byte
  deriving DecidableEq, Repr

/-- The reclaim scanner (R130). `finishing` is set while bucket 4,194,303 has been examined and its records have not all left
the reclaim queue (R136). -/
structure Scanner where
  state : ScanState
  cursor : Nat
  mode : SweepMode
  requester : Option PortNo
  queue : List Reclaim
  finishing : Bool
  deriving DecidableEq, Repr

/-- The scanner at power-on and after a device reset (R130). -/
def Scanner.reset : Scanner :=
  { state := .idle, cursor := 0, mode := .onePass, requester := none, queue := [], finishing := false }

/-! ### Consent -/

/-- A proposal's kind with its target and payload (R145). -/
inductive ProposalBody where
  | profileInstall (slot : Fin 4) (profile : Profile)
  | profileRetire (slot : Fin 4)
  | policy (policy : Policy)
  | serviceStart
  | deviceReset
  deriving DecidableEq, Repr

/-- The open proposal (R145). -/
structure Proposal where
  body : ProposalBody
  proposer : PortNo
  required : List PortNo
  received : List PortNo
  deadline : Timer
  deriving DecidableEq, Repr

/-- How a proposal ended: the last-ended record (R145) and the consent field of a summary (R152). -/
structure Ending where
  body : ProposalBody
  outcome : ProposalOutcome
  deriving DecidableEq, Repr

/-! ### Ports -/

/-- A mark of the attention summary: clear, set, or set with its again-mark (R182). -/
inductive Mark where
  | clear | set | again
  deriving DecidableEq, Repr

/-- The flags of the attention summary, in the order of the table of R182. -/
inductive Flag where
  | occupancy | journalHigh | settleExpired | peerFailsafe | laneOrphaned | orphanExpired | poison | passthrough
  | consentOpen | consentEnded | epochAdvanced | sweepEnded | containersExhausted | queueOverrun | deviceReset
  deriving DecidableEq, Repr

/-- The attention summary (R182): a mark for each flag, the port set, the lane sets and the consent field. Sets are lists
without repeats. -/
structure Summary where
  marks : Vector Mark 15
  peers : List PortNo
  journalLanes : List LaneNo
  orphanedLanes : List LaneNo
  expiredLanes : List LaneNo
  ending : Option Ending
  deriving DecidableEq, Repr

/-- The empty summary. -/
def Summary.empty : Summary :=
  { marks := Vector.replicate 15 .clear, peers := [], journalLanes := [], orphanedLanes := [], expiredLanes := [],
    ending := none }

/-- A result field of a completion at its natural width (R196): a number of `width` bytes, or bytes as they stand. -/
inductive Field where
  | num (width : Nat) (value : Nat)
  | raw (bytes : List Byte)
  deriving DecidableEq, Repr

/-- A COMPLETION (R177): the command kind, the echoed tag, the outcome and the result fields in the order listed. -/
structure Completion where
  kind : Nat
  tag : Nat
  outcome : Outcome
  fields : List Field
  deriving DecidableEq, Repr

/-- A RELEASE at work: the IDs still to be decremented and the results so far (R114). -/
structure ReleaseWork where
  tag : Nat
  ids : List Nat
  results : List DecResult
  deriving DecidableEq, Repr

/-- What the command in hand stands at (R173): a RELEASE with decrements to take, a SETTLE whose waiters are being completed,
or a completion waiting for ring space (`detach` when its writing makes the port DETACHED, R176). -/
inductive Hand where
  | release (work : ReleaseWork)
  | settle (container : Nat)
  | completion (c : Completion) (detach : Bool)
  deriving DecidableEq, Repr

/-- The writers of a port's ring (R179). -/
inductive Writer where
  | command
  | lane (lane : LaneNo)
  | notices
  | reclaim
  | attention
  deriving DecidableEq, Repr

/-- The ring given at ATTACH: its address and its size in records (R175). -/
structure Ring where
  address : Nat
  size : Nat
  deriving DecidableEq, Repr

/-- A port unit (R171). -/
structure Port where
  state : PortState
  queue : List CommandRecord
  hand : Option Hand
  ring : Option Ring
  producer : Nat
  consumer : Nat
  pass : Bool
  waiting : List Writer
  attnHeld : Bool
  summary : Summary
  watchdog : Timer
  period : Nat
  watchThreshold : Nat
  watchMode : WatchMode
  freeze : Bool
  recent : List Nat
  notices : List Notice
  failSafeTime : Option Nat
  deriving DecidableEq, Repr

/-- A port unit at power-on (R171, R155, R27, R187). -/
def Port.reset : Port where
  state := .detached
  queue := []
  hand := none
  ring := none
  producer := 0
  consumer := 0
  pass := true
  waiting := []
  attnHeld := false
  summary := Summary.empty
  watchdog := none
  period := 0
  watchThreshold := 0
  watchMode := .none
  freeze := false
  recent := []
  notices := []
  failSafeTime := none

/-- The state of the part. -/
structure State where
  /-- The commands that wait to be taken, first in first out. -/
  pending : List Instr
  /-- The initialisation of the stacked DRAM is running (R187). -/
  initialising : Bool
  /-- The ms since power-on. -/
  now : Nat
  device : DeviceState
  ports : Vector Port 4
  lanes : Vector Lane 64
  lastGranted : LaneNo
  orphanTimers : Vector Timer 64
  expired : Vector Bool 64
  /-- The buckets that differ from `Bucket.untouched`, by rising number. -/
  index : List (Nat × Bucket)
  occupancy : Nat
  collisions : Nat
  poisonList : List Nat
  poisonCount : Nat
  correctable : Nat
  /-- The errors standing in stacked DRAM (R188 to R190). -/
  damage : List DramError
  counter : Nat
  table : List Container
  settlings : List Settling
  /-- Lanes whose lookups must be repeated in order (R86, R91). -/
  turns : List Turns
  strayReleases : List ReleaseWork
  epoch : Nat
  advancePending : Bool
  absorbed : Nat
  epochTimer : Timer
  policy : Policy
  stagedPolicy : Option Policy
  /-- Pass-end requests made and not yet taken at the epoch unit (R136). -/
  sweepEndRequests : Nat
  /-- Start requests made and not yet taken at the scanner (R121, R137). -/
  startRequests : Nat
  holds : Vector (Option Hold) 16
  scanner : Scanner
  slots : Vector ProfileSlot 4
  proposal : Option Proposal
  lastEnded : Option Ending
  discarded : Nat
  /-- Per port, the records the part has written into the controller's memory, by rising address. -/
  memory : Vector (List (Nat × List Byte)) 4
  deriving DecidableEq, Repr

/-- The profile slots at power-on (R29): slot 0 ACTIVE with the default profile, whose roll factor is 263^47 mod 2^32 (R28). -/
def ProfileSlot.powerOn : Vector ProfileSlot 4 :=
  #v[.active Profile.default (BitVec.ofNat 32 (263 ^ 47)) 0, .empty, .empty, .empty]

/-- The part right after power is applied: the initialisation of the stacked DRAM has begun, and every block holds its
power-on value (the table of R187). -/
def State.reset : State where
  pending := []
  initialising := true
  now := 0
  device := .rebuild
  ports := Vector.replicate 4 Port.reset
  lanes := Vector.replicate 64 Lane.free
  lastGranted := 63
  orphanTimers := Vector.replicate 64 none
  expired := Vector.replicate 64 false
  index := []
  occupancy := 0
  collisions := 0
  poisonList := []
  poisonCount := 0
  correctable := 0
  damage := []
  counter := 1
  table := []
  settlings := []
  turns := []
  strayReleases := []
  epoch := 1
  advancePending := false
  absorbed := 0
  epochTimer := none
  policy := Policy.default
  stagedPolicy := none
  sweepEndRequests := 0
  startRequests := 0
  holds := Vector.replicate 16 none
  scanner := Scanner.reset
  slots := ProfileSlot.powerOn
  proposal := none
  lastEnded := none
  discarded := 0
  memory := Vector.replicate 4 []

/-- The reasons for which the part stops with a fault: none. Every refusal the spec describes is an outcome of a completion
(R177), so no meaning raises a fault. -/
inductive Fault where
  deriving DecidableEq, Repr

/-- Why a command has no meaning. -/
inductive Refusal where
  /-- Raised by a refused arm of exec for a command not modelled yet; no arm is refused now. Safe. -/
  | notModelled (mnemonic : String)
  deriving DecidableEq, Repr

end Sys2Proof.Machine
end

