-- ==== Sys2Proof/Machine/Index.lean ====
section
/-! DEFINITION. One bucket of the chunk index: chunk IDs (R3, R4), the search for a fingerprint, the count arithmetic of an
entry (R16 to R18), creation (R8) and removal (R9), and the hold cover test (R129). -/

namespace Sys2Proof.Machine

open Sys2Proof

/-- The bucket of a fingerprint: f0 × 16,384 + f1 × 64 + floor(f2 ÷ 4) (R2). -/
def bucketOf (fingerprint : List Byte) : Nat :=
  (fingerprint.getD 0 0).toNat * 16384 + (fingerprint.getD 1 0).toNat * 64 + (fingerprint.getD 2 0).toNat / 4

/-- The chunk ID of a slot at a generation (R3). -/
def chunkId (r : SlotRef) : Nat := r.bucket * 262144 + r.slot.val * 16384 + r.generation

/-- The chunk ID of the entry in a slot of a bucket (R3). -/
def idIn (number : Nat) (b : Bucket) (i : Fin 16) : Nat :=
  chunkId { bucket := number, slot := i, generation := b[i].generation }

/-- The slot and generation that a 40-bit number names (R3). -/
def decodeId (id : Nat) : SlotRef :=
  { bucket := id / 262144, slot := ⟨id % 262144 / 16384, by omega⟩, generation := id % 16384 }

/-- The slot's entry, when the slot holds the entry of that generation: `none` where an ID of that generation is stale (R4). -/
def entryAt (b : Bucket) (slot : Fin 16) (generation : Nat) : Option Entry :=
  if b[slot].generation = generation then b[slot].entry else none

/-- The lowest-numbered slot whose entry has the fingerprint, with the entry. -/
def findFingerprint (b : Bucket) (fp : List Byte) : Option (Fin 16 × Entry) :=
  (List.finRange 16).findSome? fun i =>
    match b[i].entry with
    | some e => if e.fingerprint = fp then some (i, e) else none
    | none => none

/-- The lowest-numbered FREE slot of a bucket (R8). -/
def freeSlot? (b : Bucket) : Option (Fin 16) := (List.finRange 16).find? fun i => b[i].entry.isNone

/-- The bucket with an entry put into a slot, whose generation is kept (R8). -/
def putEntry (b : Bucket) (i : Fin 16) (e : Entry) : Bucket := b.set i { generation := b[i].generation, entry := some e }

/-- The next generation: 16,383 is followed by 0 (R1). -/
def nextGeneration (g : Nat) : Nat := if g + 1 = Config.generations then 0 else g + 1

/-- The bucket with a slot freed and its generation raised (R9). -/
def clearSlot (b : Bucket) (i : Fin 16) : Bucket := b.set i { generation := nextGeneration b[i].generation, entry := none }

/-- An increment of `n` references at epoch `e` (R16): the entry after it. -/
def Entry.increment (x : Entry) (n e : Nat) : Entry :=
  match x.state with
  | .live =>
    if x.count + n < Config.maxCount then { x with count := x.count + n, lastRef := e }
    else { x with count := Config.maxCount, state := .pinned, lastRef := e }
  | .pinned => { x with lastRef := e }
  | .zero _ =>
    if n < Config.maxCount then { x with count := n, state := .live, lastRef := e }
    else { x with count := Config.maxCount, state := .pinned, lastRef := e }
  | .pending _ => { x with count := min Config.maxCount (x.count + n), lastRef := e }

/-- Whether an increment of the entry is a resurrection (R16). -/
def Entry.isZero (x : Entry) : Bool :=
  match x.state with
  | .zero _ => true
  | _ => false

/-- A decrement of one reference at epoch `e`, on an entry that is not stale (R18): the result and the entry after it. -/
def Entry.decrement (x : Entry) (e : Nat) : DecResult × Entry :=
  match x.state with
  | .pinned => (.pinned, x)
  | .live =>
    if 2 ≤ x.count then (.released, { x with count := x.count - 1 })
    else (.released, { x with count := 0, state := .zero e })
  | .pending _ => if 1 ≤ x.count then (.released, { x with count := x.count - 1 }) else (.underflow, x)
  | .zero _ => (.underflow, x)

/-- The settled state of a PENDING member, by its count (R17). -/
def Entry.settle (x : Entry) (e : Nat) : Entry :=
  { x with state := if x.count = 0 then .zero e else if x.count < Config.maxCount then .live else .pinned }

/-- A hold covers an entry: birth ≤ to and last-reference ≥ from (R129). -/
def Hold.covers (h : Hold) (x : Entry) : Bool := decide (x.birth ≤ h.last) && decide (h.first ≤ x.lastRef)

/-- Some hold of the table covers the entry (R129). -/
def covered (holds : Vector (Option Hold) 16) (x : Entry) : Bool :=
  holds.toList.any fun h => match h with | some h => h.covers x | none => false

/-- The scanner removes the entry: ZERO, its zero epoch at least the grace below the epoch, and no hold covers it (R133). -/
def Entry.reclaimable (x : Entry) (epoch grace : Nat) (holds : Vector (Option Hold) 16) : Bool :=
  match x.state with
  | .zero z => decide (grace ≤ epoch - z) && !covered holds x
  | _ => false

/-- A length rounded up to a multiple of 64 (R77). -/
def roundUp64 (n : Nat) : Nat := (n + 63) / 64 * 64

end Sys2Proof.Machine
end

