-- ==== Sys2Proof/Machine/Operands.lean ====
section
/-! DEFINITION. The fields of the 64-byte command record (R195 and the table before it), and the code tables by which a coded
byte is read: a byte that names no value reads as `none`. -/

namespace Sys2Proof.Machine

open Sys2Proof

/-- The byte at an offset. -/
def byteAt (r : CommandRecord) (offset : Nat) : Nat := (r.toList.getD offset 0).toNat

/-- The little-endian number of `width` bytes at an offset. -/
def numAt (r : CommandRecord) (offset width : Nat) : Nat := ofLeBytes ((r.toList.drop offset).take width)

/-- The command kind: byte 0. -/
def recKind (r : CommandRecord) : Nat := byteAt r 0
/-- The tag: bytes 2 and 3. -/
def recTag (r : CommandRecord) : Nat := numAt r 2 2
/-- The lane, or the hold or start number: byte 4. -/
def recLane (r : CommandRecord) : Nat := byteAt r 4
/-- The fingerprint of an INSERT or a QUERY: bytes 24 to 55. -/
def recFingerprint (r : CommandRecord) : List Byte := (r.toList.drop 24).take 32
/-- The chunk ID of a QUERY: bytes 8 to 12. -/
def recChunkId (r : CommandRecord) : Nat := numAt r 8 5
/-- The chunk IDs of a RELEASE: ID i at 4 + 5 × i, as many as byte 1 says. -/
def recReleaseIds (r : CommandRecord) : List Nat := (List.range (byteAt r 1)).map fun i => numAt r (4 + 5 * i) 5

/-- A number as a lane number, 0 to 63. -/
def laneOf? (n : Nat) : Option LaneNo := if h : n < 64 then some ⟨n, h⟩ else none
/-- A number as a profile slot number, 0 to 3. -/
def slotOf? (n : Nat) : Option (Fin 4) := if h : n < 4 then some ⟨n, h⟩ else none
/-- A number as a hold number, 0 to 15. -/
def holdOf? (n : Nat) : Option (Fin 16) := if h : n < 16 then some ⟨n, h⟩ else none

def cutSourceOf? : Nat → Option CutSource
  | 0 => some .content
  | 1 => some .fixed
  | 2 => some .supplied
  | _ => none

def failActionOf? : Nat → Option FailAction
  | 0 => some .suspend
  | 1 => some .abandon
  | _ => none

def coalescingOf? : Nat → Option Coalescing
  | 0 => some .auto
  | 1 => some .off
  | _ => none

def watchModeOf? : Nat → Option WatchMode
  | 0 => some .none
  | 1 => some .rising
  | 2 => some .falling
  | 3 => some .both
  | _ => none

def sweepModeOf? : Nat → Option SweepMode
  | 0 => some .onePass
  | 1 => some .continuous
  | _ => none

/-- The origin of a SWEEP_START: whether it is START (0) rather than RESUME (1). -/
def originIsStart? : Nat → Option Bool
  | 0 => some true
  | 1 => some false
  | _ => none

/-- The item of a MARK: kinds CUT, TAG with its value, CHECKPOINT, END; a kind of 4 or more names none (R195). -/
def markItem? (kind value : Nat) : Option Item :=
  match kind with
  | 0 => some .cut
  | 1 => some (.tag value)
  | 2 => some .checkpoint
  | 3 => some .finish
  | _ => none

/-- The trigger set: COMMAND, TIMER, SWEEP_END at bits 0 to 2; a bit above bit 2 names no member (R195). -/
def triggersOf? (mask : Nat) : Option Triggers :=
  if mask < 8 then some { command := mask.testBit 0, timer := mask.testBit 1, sweepEnd := mask.testBit 2 } else none

/-- The profile payload: 8 W, 9 k, 12 m, 16 X, 20 s. -/
def recProfile (r : CommandRecord) : Profile :=
  { window := byteAt r 8, exponent := byteAt r 9, minimum := numAt r 12 4, maximum := numAt r 16 4, seed := numAt r 20 4 }

/-- The policy payload: 8 grace, 9 trigger set, 10 consent window, 11 passthrough threshold, 12 timer interval, 16 settle limit,
18 quiet interval, 20 orphan limit. -/
def recPolicy? (r : CommandRecord) : Option Policy :=
  (triggersOf? (byteAt r 9)).map fun t =>
    { grace := byteAt r 8, interval := numAt r 12 4, triggers := t, settleLimit := numAt r 16 2, quiet := numAt r 18 2,
      orphanLimit := numAt r 20 2, consentWindow := byteAt r 10, threshold := byteAt r 11 }

/-- The kind, target and payload of a PROPOSE or CONSENT: `none` when the kind is none of the five, a required target is above
3, or a trigger set has a bit above bit 2 (R146, R148, R195). Bytes of a target or payload the kind has not are ignored. -/
def recProposal? (r : CommandRecord) : Option ProposalBody :=
  match byteAt r 4 with
  | 0 => (slotOf? (byteAt r 5)).map fun t => .profileInstall t (recProfile r)
  | 1 => (slotOf? (byteAt r 5)).map .profileRetire
  | 2 => (recPolicy? r).map .policy
  | 3 => some .serviceStart
  | 4 => some .deviceReset
  | _ => none

/-- The command kinds of the part, #01 to #1B (11_record_formats). -/
def kindKnown (k : Nat) : Bool := decide (1 ≤ k) && decide (k ≤ 0x1B)

end Sys2Proof.Machine
end

