-- ==== Sys2Proof/Machine/Flags.lean ====
section
/-! DEFINITION. The attention summary: setting a flag or its again-mark (R182), and its 32 bytes (11_record_formats). -/

namespace Sys2Proof.Machine

open Sys2Proof

/-- The place of a flag in the table of R182, counting OCCUPANCY as 0. -/
def Flag.place : Flag → Fin 15
  | .occupancy => 0
  | .journalHigh => 1
  | .settleExpired => 2
  | .peerFailsafe => 3
  | .laneOrphaned => 4
  | .orphanExpired => 5
  | .poison => 6
  | .passthrough => 7
  | .consentOpen => 8
  | .consentEnded => 9
  | .epochAdvanced => 10
  | .sweepEnded => 11
  | .containersExhausted => 12
  | .queueOverrun => 13
  | .deviceReset => 14

/-- Setting a mark that is clear sets it with its again-mark clear; setting one already set sets its again-mark (R182). -/
def Mark.raise : Mark → Mark
  | .clear => .set
  | .set => .again
  | .again => .again

/-- The mark of a flag. -/
def Summary.mark (s : Summary) (f : Flag) : Mark := s.marks[f.place]

/-- The summary with a flag set, or its again-mark (R182). -/
def Summary.raise (s : Summary) (f : Flag) : Summary := { s with marks := s.marks.set f.place s.marks[f.place].raise }

/-- No flag of the summary is set. -/
def Summary.isEmpty (s : Summary) : Bool := s.marks.toList.all fun m => decide (m = .clear)

/-- What the event that sets a flag names, which joins the flag's set or replaces the consent field (R182). -/
inductive Carry where
  | none
  | port (p : PortNo)
  | lanes (ns : List LaneNo)
  | ending (e : Ending)
  deriving DecidableEq, Repr

/-- The sets and the field of a summary after an event that sets `f` and names `c` (R182). -/
def Summary.carry (s : Summary) (f : Flag) (c : Carry) : Summary :=
  match f, c with
  | .peerFailsafe, .port p => { s with peers := joinSet s.peers p }
  | .journalHigh, .lanes ns => { s with journalLanes := ns.foldl joinSet s.journalLanes }
  | .laneOrphaned, .lanes ns => { s with orphanedLanes := ns.foldl joinSet s.orphanedLanes }
  | .orphanExpired, .lanes ns => { s with expiredLanes := ns.foldl joinSet s.expiredLanes }
  | .consentEnded, .ending e => { s with ending := some e }
  | _, _ => s

/-- The kind code of a proposal (11_record_formats). -/
def ProposalBody.code : ProposalBody → Nat
  | .profileInstall _ _ => 0
  | .profileRetire _ => 1
  | .policy _ => 2
  | .serviceStart => 3
  | .deviceReset => 4

/-- The target byte of a proposal: the slot, or #FF where the kind has none (R196). -/
def ProposalBody.target : ProposalBody → Nat
  | .profileInstall t _ => t.val
  | .profileRetire t => t.val
  | .policy _ | .serviceStart | .deviceReset => 0xFF

def ProposalOutcome.code : ProposalOutcome → Nat
  | .applied => 0
  | .rejected => 1
  | .withdrawn => 2
  | .lapsed => 3
  | .voided => 4

/-- The bit mask of the marks that `keep` holds of, bit n for the n-th flag. -/
def markMask (s : Summary) (keep : Mark → Bool) : Nat :=
  maskOf ((List.finRange 15).filterMap fun i => if keep s.marks[i] then some i.val else none)

/-- The 32 bytes of the summary (11_record_formats): the flags, the again-marks, the port set, the consent field, the three
lane sets. An absent consent field is written as R196 states: kind and outcome 0, target #FF. -/
def summaryBytes (s : Summary) : List Byte :=
  leBytes 2 (markMask s fun m => decide (m ≠ .clear)) ++ leBytes 2 (markMask s fun m => decide (m = .again)) ++
  leBytes 1 (maskOf (s.peers.map Fin.val)) ++
  (match s.ending with
    | some e => leBytes 1 e.body.code ++ leBytes 1 e.body.target ++ leBytes 1 e.outcome.code
    | none => leBytes 1 0 ++ leBytes 1 0xFF ++ leBytes 1 0) ++
  leBytes 8 (maskOf (s.journalLanes.map Fin.val)) ++ leBytes 8 (maskOf (s.orphanedLanes.map Fin.val)) ++
  leBytes 8 (maskOf (s.expiredLanes.map Fin.val))

end Sys2Proof.Machine
end

