-- ==== Sys2Proof/Machine/Records.lean ====
section
/-! DEFINITION. The 128-byte response record (R196 and the tables before it) and the 16-byte journal entry. -/

namespace Sys2Proof.Machine

open Sys2Proof

def Outcome.code : Outcome → Nat
  | .ok => 0
  | .accepted => 1
  | .badParam => 2
  | .refusedState => 3
  | .notOwner => 4
  | .unknown => 5
  | .busy => 6
  | .full => 7
  | .late => 8
  | .tooEarly => 9
  | .exists_ => 10
  | .stale => 11
  | .notRequired => 12
  | .poisoned => 13

def DecResult.code : DecResult → Nat
  | .released => 0
  | .pinned => 1
  | .stale => 2
  | .underflow => 3
  | .poisoned => 4

def VerdictKind.code : VerdictKind → Nat
  | .new => 0
  | .dup => 1
  | .newUnindexed => 2

def UnindexedReason.code : UnindexedReason → Nat
  | .none => 0
  | .passthrough => 1
  | .poisoned => 2
  | .collision => 3
  | .bucketFull => 4

def Cut.code : Cut → Nat
  | .content => 0
  | .limit => 1
  | .item => 2

def LaneClass.code : LaneClass → Nat
  | .cold => 0
  | .mixed => 1
  | .hot => 2

def EntryState.code : EntryState → Nat
  | .pending _ => 0
  | .live => 1
  | .zero _ => 2
  | .pinned => 3

def LaneState.code : LaneState → Nat
  | .free => 0
  | .active => 1
  | .checkpointing => 2
  | .closing => 3
  | .aborting => 4
  | .orphaned => 5

def SealReason.code : SealReason → Nat
  | .full => 0
  | .checkpoint => 1
  | .demand => 2

def WithdrawCause.code : WithdrawCause → Nat
  | .expired => 0
  | .aborted => 1
  | .passthrough => 2

def AbortCause.code : AbortCause → Nat
  | .command => 0
  | .abandon => 1
  | .orphanExpired => 2
  | .sequenceExhausted => 3

def CutSource.code : CutSource → Nat
  | .content => 0
  | .fixed => 1
  | .supplied => 2

def FailAction.code : FailAction → Nat
  | .suspend => 0
  | .abandon => 1

def Coalescing.code : Coalescing → Nat
  | .auto => 0
  | .off => 1

/-- The item kinds: those of a mark, and DATA as 4. -/
def Item.code : Item → Nat
  | .cut => 0
  | .tag _ => 1
  | .checkpoint => 2
  | .finish => 3
  | .data _ _ _ => 4

def ScanState.code : ScanState → Nat
  | .idle => 0
  | .scanning => 1

def DeviceState.code : DeviceState → Nat
  | .rebuild => 0
  | .service => 1
  | .passthrough => 2

def PortState.code : PortState → Nat
  | .detached => 0
  | .attached => 1
  | .failsafe => 2

def Disposition.code : Disposition → Nat
  | .advanced => 0
  | .atLimit => 1
  | .held => 2
  | .absorbed => 3

/-- The stall-cause set: RING_FULL, WAITING, NO_CONTAINER, JOURNAL_FULL, STARVED at bits 0 to 4. -/
def Stalls.code (s : Stalls) : Nat :=
  bit s.ringFull + 2 * bit s.waiting + 4 * bit s.noContainer + 8 * bit s.journalFull + 16 * bit s.starved

/-- A response record before it is laid out. -/
inductive Response where
  | completion (c : Completion)
  | verdict (v : Verdict)
  | run (r : Run)
  | lane (r : LaneRecord)
  | container (n : Notice)
  | reclaim (r : Reclaim)
  | attention (s : Summary)
  deriving DecidableEq, Repr

/-- The bytes of a result field (R196). -/
def Field.bytes : Field → List Byte
  | .num w v => leBytes w v
  | .raw bs => bs

/-- The result fields, packed without gaps (R196). -/
def fieldBytes (fs : List Field) : List Byte := fs.flatMap Field.bytes

/-- The 16 bytes of a journal entry (11_record_formats "The journal entry"). -/
def journalBytes (e : JournalEntry) : List Byte :=
  leBytes 4 e.seq ++
  (match e.what with
    | .ref id => leBytes 1 0 ++ leBytes 3 e.length ++ leBytes 5 id ++ leBytes 3 0
    | .unindexed c o => leBytes 1 1 ++ leBytes 3 e.length ++ leBytes 4 c ++ leBytes 2 (o / 64) ++ leBytes 2 0)

/-- A DAMAGED journal entry: kind code 2 and all other bytes zero (R190). -/
def damagedBytes : List Byte := leBytes 4 0 ++ leBytes 1 2 ++ leBytes 11 0

/-- The result fields of a RELEASE completion: the ID count at byte 12, result i at byte 13 + i (R196). -/
def releaseFields (results : List DecResult) : List Field :=
  .num 1 results.length :: results.map fun r => .num 1 r.code

/-- The flags byte of a VERDICT: RESURRECTED, WAITED, tag present, tag overrun at bits 0 to 3. -/
def Verdict.flags (v : Verdict) : Nat :=
  bit v.resurrected + 2 * bit v.waited + 4 * bit v.tag.isSome + 8 * bit ((v.tag.map Tag.overrun).getD false)

/-- The value of a tag field: zero where the tag is absent (R196). -/
def tagValue (t : Option Tag) : Nat := (t.map Tag.value).getD 0

/-- The flags byte of a LANE record: FORCED, tag present, tag overrun, unresolved chunk present at bits 0 to 3. -/
def LaneRecord.flags (r : LaneRecord) : Nat :=
  bit r.forced + 2 * bit r.tag.isSome + 4 * bit ((r.tag.map Tag.overrun).getD false) + 8 * bit r.unresolved

/-- The LANE kinds ADOPTED #01, CHECKPOINT #02, CLOSED #03, ABORTED #04. -/
def LaneBody.code : LaneBody → Nat
  | .adopted _ _ _ _ _ => 1
  | .checkpoint _ _ _ _ _ => 2
  | .closed _ _ _ _ _ => 3
  | .aborted _ _ _ _ _ _ _ => 4

/-- The fields of a LANE record from byte 32 on. -/
def LaneBody.fields : LaneBody → List (Nat × List Byte)
  | .adopted pl ul uf jc cc =>
    [(32, leBytes 4 pl), (36, leBytes 4 ul), (40, leBytes 8 uf.toNat), (48, leBytes 4 jc), (52, leBytes 2 cc)]
  | .checkpoint r u s w ws | .closed r u s w ws =>
    [(32, leBytes 4 r), (36, leBytes 4 u), (40, leBytes 2 s), (42, leBytes 2 w), (44, leBytes 2 ws)]
  | .aborted w r p st u po sk =>
    [(32, leBytes 2 w), (36, leBytes 4 r), (40, leBytes 4 p), (44, leBytes 4 st), (48, leBytes 4 u), (52, leBytes 4 po),
     (56, leBytes 4 sk)]

/-- The elements of a VERDICT_RUN: chunk ID (5) and length (3), eight bytes each. -/
def runElements (r : Run) : List Byte := r.elems.flatMap fun e => leBytes 5 e.1 ++ leBytes 3 e.2

/-- The response kind, byte 0. A closed run of one element is written as a single VERDICT (R73). -/
def Response.kind : Response → Nat
  | .completion _ => 1
  | .verdict _ => 2
  | .run r => if r.elems.length = 1 then 2 else 3
  | .lane _ => 4
  | .container _ => 5
  | .reclaim _ => 6
  | .attention _ => 7

/-- The body of a VERDICT record. -/
def Verdict.fields (v : Verdict) : List (Nat × List Byte) :=
  [(8, leBytes 1 v.lane.val), (9, leBytes 1 v.kind.code), (10, leBytes 1 v.flags), (11, leBytes 1 v.reason.code),
   (12, leBytes 1 v.cut.code), (13, leBytes 1 v.cls.code), (16, leBytes 4 v.seq), (20, leBytes 4 v.length),
   (24, leBytes 8 v.offset.toNat), (32, leBytes 5 (v.chunkId.getD 0)), (40, leBytes 4 v.container), (44, leBytes 4 v.place),
   (48, leBytes 4 v.check.toNat), (52, leBytes 4 (tagValue v.tag)), (56, v.fingerprint)]

/-- The body of a response record, from byte 8 on (11_record_formats). -/
def Response.body : Response → List (Nat × List Byte)
  | .completion c => [(8, leBytes 1 c.kind), (9, leBytes 1 c.outcome.code), (12, fieldBytes c.fields)]
  | .verdict v => v.fields
  | .run r =>
    if r.elems.length = 1 then r.first.fields
    else [(8, leBytes 1 r.first.lane.val), (9, leBytes 1 r.elems.length), (10, leBytes 1 LaneClass.hot.code),
      (12, leBytes 4 r.first.seq), (16, leBytes 8 r.first.offset.toNat), (24, runElements r)]
  | .lane r =>
    [(8, leBytes 1 r.lane.val), (9, leBytes 1 r.body.code), (10, leBytes 1 r.flags), (11, leBytes 1 r.detail),
     (12, leBytes 1 r.stateCode), (16, leBytes 8 r.offset.toNat), (24, leBytes 4 r.nextSeq), (28, leBytes 4 (tagValue r.tag))] ++
    r.body.fields
  | .container n =>
    match n.kind with
    | .sealed reason limit =>
      [(8, leBytes 1 1), (9, leBytes 1 reason.code), (10, leBytes 1 n.lane.val), (12, leBytes 4 n.container),
       (16, leBytes 4 n.fill), (20, leBytes 4 n.members), (24, leBytes 2 limit)]
    | .withdrawn cause waiters =>
      [(8, leBytes 1 2), (9, leBytes 1 cause.code), (10, leBytes 1 n.lane.val), (12, leBytes 4 n.container),
       (16, leBytes 4 n.fill), (20, leBytes 4 n.members), (24, leBytes 1 waiters)]
  | .reclaim r =>
    [(8, leBytes 5 r.chunkId), (16, leBytes 4 r.container), (20, leBytes 4 r.offset), (24, leBytes 4 r.length),
     (32, r.fingerprint)]
  | .attention s => [(8, summaryBytes s)]

/-- The tag bytes 2 and 3: echoed in a COMPLETION, zero otherwise. -/
def Response.tag : Response → Nat
  | .completion c => c.tag
  | .verdict _ | .run _ | .lane _ | .container _ | .reclaim _ | .attention _ => 0

/-- The 128 bytes of a response record in the ring of `port` under a pass mark (R178, R196). -/
def Response.bytes (r : Response) (port : PortNo) (pass : Bool) : List Byte :=
  layOut ([(0, leBytes 1 r.kind), (1, leBytes 1 (bit pass)), (2, leBytes 2 r.tag), (4, leBytes 1 port.val)] ++ r.body)

end Sys2Proof.Machine
end

