-- ==== Sys2Proof/Machine/Sparse.lean ====
section
/-! DEFINITION. Sparse tables: a list of (key, value) pairs in ONE canonical form, keys strictly rising and no value equal to
what an unlisted key reads as. The chunk index and the rings' records are held in it. -/

namespace Sys2Proof.Machine

variable {α : Type} [DecidableEq α]

/-- What key `k` reads as; `d` where the table lists nothing. -/
def sparseGet (d : α) : List (Nat × α) → Nat → α
  | [], _ => d
  | (k', v) :: rest, k => if k = k' then v else sparseGet d rest k

/-- The table with key `k` reading as `v`: writing what an unlisted key reads as removes the pair. -/
def sparsePut (d : α) : List (Nat × α) → Nat → α → List (Nat × α)
  | [], k, v => if v = d then [] else [(k, v)]
  | (k', v') :: rest, k, v =>
    if k < k' then (if v = d then (k', v') :: rest else (k, v) :: (k', v') :: rest)
    else if k = k' then (if v = d then rest else (k, v) :: rest)
    else (k', v') :: sparsePut d rest k v

/-- Every key of the table is above `b`, the keys rise strictly, and no value is `d`. -/
def sparseWfFrom (d : α) (b : Option Nat) : List (Nat × α) → Bool
  | [] => true
  | (k, v) :: rest => (match b with | none => true | some n => decide (n < k)) && decide (v ≠ d) && sparseWfFrom d (some k) rest

/-- The table is in canonical form. -/
def sparseWf (d : α) (t : List (Nat × α)) : Bool := sparseWfFrom d none t

/-- The table with every value changed by `f`, which is given the key: pairs that come to read as unlisted are removed. -/
def sparseMap (d : α) (f : Nat → α → α) : List (Nat × α) → List (Nat × α)
  | [] => []
  | (k, v) :: rest => if f k v = d then sparseMap d f rest else (k, f k v) :: sparseMap d f rest

end Sys2Proof.Machine
end

