-- ==== Sys2Proof/Machine/Ops.lean ====
section
/-! DEFINITION. The shared operations on State: ports and lanes, the ring (R178, R179), discarded records (R181), flags (R182,
R183), completions (R173, R177), reads of stacked DRAM (R188, R189, R190), occupancy (R25, R26), creation and removal of
entries (R8, R9). -/

namespace Sys2Proof.Machine

open Sys2Proof

/-! ### Ports and lanes -/

/-- The port unit of a port. -/
def State.port (s : State) (p : PortNo) : Port := s.ports[p]

def State.setPort (s : State) (p : PortNo) (q : Port) : State := { s with ports := s.ports.set p q }

def State.modPort (s : State) (p : PortNo) (f : Port → Port) : State := s.setPort p (f (s.port p))

/-- The lane record of a lane. -/
def State.lane (s : State) (n : LaneNo) : Lane := s.lanes[n]

def State.setLane (s : State) (n : LaneNo) (l : Lane) : State := { s with lanes := s.lanes.set n l }

def State.modLane (s : State) (n : LaneNo) (f : Lane → Lane) : State := s.setLane n (f (s.lane n))

/-- The lane is ORPHANED (R47). -/
def State.isOrphaned (s : State) (n : LaneNo) : Bool := decide ((s.lane n).state = .orphaned)

/-- The port is ATTACHED (R171). -/
def State.attached (s : State) (p : PortNo) : Bool := decide ((s.port p).state = .attached)

/-- The four ports, in ascending order. -/
def allPorts : List PortNo := List.finRange 4

/-- The 64 lanes, in ascending order. -/
def allLanes : List LaneNo := List.finRange 64

/-! ### Records, rings and writers -/

/-- The discarded-record counter rises by `n`, stopping at its largest value (R181). -/
def State.discard (s : State) (n : Nat) : State := { s with discarded := addTo Config.max32 n s.discarded }

/-- The free positions of a port's ring: ring size - 1 - outstanding, outstanding = (producer - consumer) mod ring size
(R178). -/
def Port.free (q : Port) : Nat :=
  match q.ring with
  | none => 0
  | some r => r.size - 1 - (q.producer + r.size - q.consumer) % r.size

/-- A writer with a record to write finds a free position: the port is ATTACHED, no writer waits and a position is free
(R179). -/
def State.canWrite (s : State) (p : PortNo) : Bool :=
  s.attached p && (s.port p).waiting.isEmpty && decide (0 < (s.port p).free)

/-- The address of a ring position; the part's DMA addresses are 64 bits wide (R175, R178). -/
def ringAddress (r : Ring) (position : Nat) : Nat := (r.address + 128 * position) % 2 ^ 64

/-- A record is written at the producer index, under the pass mark; the producer index then rises by 1, and the pass mark
changes when it returns to 0 (R178). -/
def State.ringPut (s : State) (p : PortNo) (r : Response) : State :=
  match (s.port p).ring with
  | none => s
  | some g =>
    let q := s.port p
    let wraps := decide (q.producer + 1 = g.size)
    { s with memory := s.memory.set p (sparsePut [] s.memory[p] (ringAddress g q.producer) (r.bytes p q.pass)) }.setPort p
      { q with producer := if wraps then 0 else q.producer + 1, pass := if wraps then !q.pass else q.pass }

/-- The record the part last wrote at a position of the port's ring; empty where it wrote none. -/
def State.ringRecord (s : State) (p : PortNo) (position : Nat) : List Byte :=
  match (s.port p).ring with
  | none => []
  | some g => sparseGet [] s.memory[p] (ringAddress g position)

/-- A writer joins the tail of the port's list of waiting writers, on which it stands at most once (R179). -/
def State.join (s : State) (p : PortNo) (w : Writer) : State :=
  s.modPort p fun q => { q with waiting := joinSet q.waiting w }

/-- The lane joins its owner port's list of waiting writers. -/
def State.laneJoin (s : State) (n : LaneNo) : State :=
  match (s.lane n).owner with
  | some p => s.join p (.lane n)
  | none => s

/-- An event sets a flag at a port (R182, R183): nothing at a port not ATTACHED; a flag set in an empty summary makes one
ATTENTION record, unless one is held already. DESIGN CHOICE: the record is made at the first flag of a step and, when it is written
then, shows the summary without the flags set later in that step (notes/assumptions/32.md). -/
def State.setFlag (s : State) (p : PortNo) (f : Flag) (c : Carry) : State :=
  if s.attached p then
    let makes := (s.port p).summary.isEmpty && !(s.port p).attnHeld
    let t := s.modPort p fun q => { q with summary := (q.summary.raise f).carry f c }
    if makes then
      if t.canWrite p then t.ringPut p (.attention (t.port p).summary)
      else (t.modPort p fun q => { q with attnHeld := true }).join p .attention
    else t
  else s

/-- A flag set at each of the ports, in the order given. -/
def State.setFlags (s : State) (ps : List PortNo) (f : Flag) (c : Carry) : State :=
  ps.foldl (fun t p => t.setFlag p f c) s

/-- A flag set at every attached port (R182). -/
def State.setFlagAll (s : State) (f : Flag) (c : Carry) : State := s.setFlags allPorts f c

/-- The completion of a port's command in hand (R173, R177): written at once when a position is free and no writer waits,
otherwise kept in hand while the command processor waits (R179, R180); discarded and counted when the port is not ATTACHED
(R181). -/
def State.complete (s : State) (p : PortNo) (c : Completion) : State :=
  if s.attached p then
    if s.canWrite p then (s.ringPut p (.completion c)).modPort p fun q => { q with hand := none }
    else (s.modPort p fun q => { q with hand := some (.completion c false) }).join p .command
  else (s.modPort p fun q => { q with hand := none }).discard 1

/-- The completion that answers the command of record `r`: its kind and its tag echoed (R177). -/
def State.reply (s : State) (p : PortNo) (r : CommandRecord) (o : Outcome) (fs : List Field) : State :=
  s.complete p { kind := recKind r, tag := recTag r, outcome := o, fields := fs }

/-! ### Stacked DRAM -/

/-- Errors arise in stacked DRAM; they stand there until they are corrected or their place is written anew. -/
def State.arise (s : State) (errs : List DramError) : State := { s with damage := s.damage ++ errs }

/-- An error of the given sort stands at the place. -/
def State.hasError (s : State) (at_ : DramPlace) (e : EccError) : Bool :=
  s.damage.any fun d => decide (d.place = at_) && decide (d.error = e)

/-- The memory controller corrects the single-bit error at a place, writes the data back and counts it (R188). -/
def State.correct (s : State) (at_ : DramPlace) : State :=
  { s with correctable := countTo Config.max32 s.correctable
           damage := s.damage.filter fun d => !(decide (d.place = at_) && decide (d.error = .single)) }

/-- The bucket's slots are struck from the member lists of the settlement table (R11, R189 step 3). -/
def State.strike (s : State) (b : Nat) : State :=
  { s with table := s.table.map fun c => { c with members := c.members.filter fun m => decide (m.bucket ≠ b) } }

/-- Steps 1 to 5 of poisoning a bucket (R189). -/
def State.poison (s : State) (b : Nat) : State :=
  let t := { s with
    poisonList := if b ∉ s.poisonList ∧ s.poisonList.length < Config.poisonSlots then s.poisonList ++ [b] else s.poisonList
    poisonCount := countTo Config.max32 s.poisonCount }
  (t.strike b).setFlagAll .poison .none

/-- A read of a bucket (R11, R188, R189): whether the bucket is poisoned, and the state after the read. A bucket on the poison
list is not read. Entry into PASSTHROUGH (R189 step 6) is the reading operation's to take. -/
def State.readBucket (s : State) (b : Nat) : Bool × State :=
  if b ∈ s.poisonList then (true, s)
  else if s.hasError (.bucket b) .uncorrectable then (true, s.poison b)
  else if s.hasError (.bucket b) .single then (false, s.correct (.bucket b))
  else (false, s)

/-- A read of a journal place (R188, R190): whether the entry is damaged, and the state after the read. -/
def State.readJournalPlace (s : State) (n : LaneNo) (k : Nat) : Bool × State :=
  if s.hasError (.journal n k) .uncorrectable then (true, s)
  else if s.hasError (.journal n k) .single then (false, s.correct (.journal n k))
  else (false, s)

/-- A journal place is written: no error stands there any more (R190). -/
def State.writeJournalPlace (s : State) (n : LaneNo) (k : Nat) : State :=
  { s with damage := s.damage.filter fun d => decide (d.place ≠ .journal n k) }

/-! ### The chunk index -/

/-- The bucket of a number. -/
def State.bucket (s : State) (b : Nat) : Bucket := sparseGet Bucket.untouched s.index b

def State.setBucket (s : State) (b : Nat) (v : Bucket) : State := { s with index := sparsePut Bucket.untouched s.index b v }

/-- The entry a chunk ID or member names: `none` when it is stale (R4). -/
def State.entry? (s : State) (r : SlotRef) : Option Entry := entryAt (s.bucket r.bucket) r.slot r.generation

/-- The crossing a change of occupancy from `a` to `b` makes of a threshold is one the mode watches (R26). -/
def watched (mode : WatchMode) (threshold a b : Nat) : Bool :=
  let rising := decide (a < threshold) && decide (threshold ≤ b)
  let falling := decide (threshold ≤ a) && decide (b < threshold)
  match mode with
  | .none => false
  | .rising => rising
  | .falling => falling
  | .both => rising || falling

/-- A change of occupancy to `b`, judged by every attached port's watch (R25, R26). -/
def State.changeOccupancy (s : State) (b : Nat) : State :=
  allPorts.foldl
    (fun t p => if watched (t.port p).watchMode (t.port p).watchThreshold s.occupancy b then t.setFlag p .occupancy .none else t)
    { s with occupancy := b }

/-- An entry is created in a FREE slot; occupancy rises by 1 (R8). -/
def State.createEntry (s : State) (b : Nat) (i : Fin 16) (x : Entry) : State :=
  (s.setBucket b (putEntry (s.bucket b) i x)).changeOccupancy (s.occupancy + 1)

/-- An entry is replaced in its slot. -/
def State.updateEntry (s : State) (b : Nat) (i : Fin 16) (x : Entry) : State := s.setBucket b (putEntry (s.bucket b) i x)

/-- An entry is removed from its slot, whose generation rises; occupancy falls by 1 (R9). -/
def State.removeEntry (s : State) (b : Nat) (i : Fin 16) : State :=
  (s.setBucket b (clearSlot (s.bucket b) i)).changeOccupancy (s.occupancy - 1)

/-- The collision counter rises by 1, stopping at its largest value (R14). -/
def State.collide (s : State) : State := { s with collisions := countTo Config.max32 s.collisions }

/-- A decrement of one reference, aimed at a chunk ID (R18): the result and the state after it. -/
def State.decrement (s : State) (id : Nat) : DecResult × State :=
  let r := decodeId id
  match s.readBucket r.bucket with
  | (true, t) => (.poisoned, t)
  | (false, t) =>
    match t.entry? r with
    | none => (.stale, t)
    | some x =>
      let y := x.decrement t.epoch
      (y.1, t.updateEntry r.bucket r.slot y.2)

end Sys2Proof.Machine
end

