-- ==== Sys2Proof/Machine/Containers.lean ====
section
/-! DEFINITION. Containers: notices (R93), when a container can be taken and the retest of waiting lanes (R75, R76), sealing
(R82, R83), placement (R77, R78), and a container leaving the table (R79, R85, R90, R102). -/

namespace Sys2Proof.Machine

open Sys2Proof

/-- The container is OPEN. -/
def Container.isOpen (c : Container) : Bool :=
  match c.state with
  | .opened => true
  | .sealed _ _ => false

/-- The container of a number, while it is in the settlement table. -/
def State.container? (s : State) (number : Nat) : Option Container := s.table.find? fun c => decide (c.number = number)

/-- The record of a container in the table is changed. -/
def State.modContainer (s : State) (number : Nat) (f : Container → Container) : State :=
  { s with table := s.table.map fun c => if c.number = number then f c else c }

/-- A container can be taken for a lane with the given owner port (R75). -/
def State.canTake (s : State) (owner : Option PortNo) : Bool :=
  decide (s.counter ≤ Config.max32) && decide (s.table.length < Config.tableSlots) &&
  (match owner with
    | none => false
    | some p => decide ((s.port p).notices.length < Config.noticeBacklog))

/-- NO_CONTAINER is removed from every lane for which a container can be taken (R76). -/
def State.retest (s : State) : State :=
  { s with lanes := s.lanes.map fun l =>
      if l.stalls.noContainer && s.canTake l.owner then { l with stalls := { l.stalls with noContainer := false } } else l }

/-- The container notice queue writes its oldest notice, which then leaves the queue (R93); the lanes waiting for a container
are retested (R76). -/
def State.writeNotice (s : State) (p : PortNo) : State :=
  match (s.port p).notices with
  | [] => s
  | n :: rest => ((s.ringPut p (.container n)).modPort p fun q => { q with notices := rest }).retest

/-- A CONTAINER notice is made for a port (R93): discarded and counted when the port is not ATTACHED or its queue holds 768;
otherwise it joins the queue, which is one writer of the port's ring. -/
def State.makeNotice (s : State) (p : PortNo) (n : Notice) : State :=
  if s.attached p && decide ((s.port p).notices.length < Config.noticeSlots) then
    let t := s.modPort p fun q => { q with notices := q.notices ++ [n] }
    if t.canWrite p then t.writeNotice p else t.join p .notices
  else s.discard 1

/-- A container is sealed (R83): its settle deadline starts with the settle limit in force, its lane's open container becomes
absent, and a SEALED notice is made for its owner port. A SEALED container is not sealed again (R82). -/
def State.sealContainer (s : State) (number : Nat) (reason : SealReason) : State :=
  match s.container? number with
  | none => s
  | some c =>
    match c.state with
    | .sealed _ _ => s
    | .opened =>
      let t := s.modContainer number fun c => { c with state := .sealed reason (some (s.policy.settleLimit * 1000)) }
      let u := t.modLane c.ownerLane fun l => { l with openC := if l.openC = some number then none else l.openC }
      u.makeNotice c.ownerPort
        { kind := .sealed reason s.policy.settleLimit, lane := c.ownerLane, container := number, fill := c.fill,
          members := c.members.length }

/-- The lane's open container is sealed with reason CHECKPOINT, when it has one (R102, R101). -/
def State.sealOpen (s : State) (n : LaneNo) : State :=
  match (s.lane n).openC with
  | some number => s.sealContainer number .checkpoint
  | none => s

/-- A container is taken for lane `n` of port `p`, with the first `fill` bytes already laid (R75, R77): it receives the
counter's value as its number. -/
def State.takeContainer (s : State) (n : LaneNo) (p : PortNo) (fill : Nat) : State :=
  let c : Container :=
    { number := s.counter, ownerLane := n, ownerPort := p, state := .opened, fill := fill, members := [], waiters := [] }
  let t : State := { s with counter := s.counter + 1, table := s.table ++ [c] }
  t.modLane n fun l => { l with openC := some s.counter, unsettled := l.unsettled ++ [s.counter] }

/-- A chunk of `len` bytes that needs a new container (R75): the place at offset 0 of the container taken, or none when none
can be taken; CONTAINERS_EXHAUSTED is set when no number remains. DESIGN CHOICE: its ATTENTION record comes before the run that the
stall closes (notes/assumptions/33.md). -/
def State.placeInNew (s : State) (n : LaneNo) (len : Nat) : Option (Nat × Nat) × State :=
  match (s.lane n).owner with
  | some p =>
    if s.canTake (some p) then (some (s.counter, 0), s.takeContainer n p (roundUp64 len))
    else (none, if s.counter ≤ Config.max32 then s else s.setFlagAll .containersExhausted .none)
  | none => (none, s)

/-- A chunk of `len` bytes is given a place for lane `n` (R77, R78): at the fill of the open container when it fits; otherwise
the open container is sealed FULL, which stands even when no new container can be taken. -/
def State.place (s : State) (n : LaneNo) (len : Nat) : Option (Nat × Nat) × State :=
  match (s.lane n).openC.bind s.container? with
  | none => s.placeInNew n len
  | some c =>
    if c.fill + len ≤ Config.containerSize then
      (some (c.number, c.fill), s.modContainer c.number fun c => { c with fill := c.fill + roundUp64 len })
    else (s.sealContainer c.number .full).placeInNew n len

/-- The lane counts the containers that leave its list (R101, R102, R107): it is CHECKPOINTING or CLOSING, or ORPHANED with
that resume state, or in a journal-full commit. -/
def Lane.countsContainers (l : Lane) : Bool :=
  match l.state with
  | .checkpointing | .closing => true
  | .orphaned => decide (l.resume = some .checkpointing) || decide (l.resume = some .closing)
  | .active => l.stalls.journalFull
  | .free | .aborting => false

/-- A container leaves its owner lane's list, by settlement or by withdrawal, with the counts this raises (R85 step 2, R90
step 2, R102, R110). DESIGN CHOICE: a container of an ABORTING lane withdrawn by the entry into PASSTHROUGH counts as withdrawn in
the ABORTED record (notes/assumptions/35.md). -/
def Lane.loseContainer (l : Lane) (number : Nat) (settled : Bool) : Lane :=
  { l with
      unsettled := l.unsettled.filter fun k => decide (k ≠ number)
      openC := if l.openC = some number then none else l.openC
      ckSettled := if l.countsContainers && settled then l.ckSettled + 1 else l.ckSettled
      ckWithdrawn := if l.countsContainers && !settled then l.ckWithdrawn + 1 else l.ckWithdrawn
      withdrawnSince := if settled then l.withdrawnSince else countTo Config.max16 l.withdrawnSince
      abort := if settled then l.abort else l.abort.map fun a => { a with withdrawn := a.withdrawn + 1 } }

/-- A container leaves the settlement table. -/
def State.loseContainer (s : State) (c : Container) (settled : Bool) : State :=
  let t : State := { s with table := s.table.filter fun d => decide (d.number ≠ c.number) }
  t.modLane c.ownerLane fun l => l.loseContainer c.number settled

/-- A number joins a port's recently-withdrawn list as its newest; when the list held 16, the oldest is dropped (R92). -/
def State.listWithdrawn (s : State) (p : PortNo) (number : Nat) : State :=
  s.modPort p fun q =>
    { q with recent := (if q.recent.length < Config.recentSlots then q.recent else q.recent.drop 1) ++ [number] }

end Sys2Proof.Machine
end

