-- ==== Sys2Proof/Machine/Cutting.lean ====
section
/-! DEFINITION. Cutting: profiles and the roll factor (R28), the window hash (R32, R33), the boundary test (R34, R35) and the
partial chunk taking one byte (R31 steps 1 to 4). -/

namespace Sys2Proof.Machine

open Sys2Proof

/-- Every field of the profile lies in its range (R28). -/
def Profile.valid (p : Profile) : Bool :=
  decide (4 ≤ p.window) && decide (p.window ≤ 64) && decide (4 ≤ p.exponent) && decide (p.exponent ≤ 20) &&
  decide (max p.window 8 ≤ p.minimum) && decide (p.minimum ≤ 65536) &&
  decide (p.minimum ≤ p.maximum) && decide (p.maximum ≤ Config.maxChunk) && decide (p.seed ≤ Config.max32)

/-- Every field of the policy lies in its range (R142). -/
def Policy.valid (p : Policy) : Bool :=
  decide (p.grace ≤ 255) && decide (p.interval ≤ 86400) && decide (1 ≤ p.settleLimit) && decide (p.settleLimit ≤ 600) &&
  decide (50 ≤ p.quiet) && decide (p.quiet ≤ 10000) && decide (1 ≤ p.orphanLimit) && decide (p.orphanLimit ≤ 3600) &&
  decide (1 ≤ p.consentWindow) && decide (p.consentWindow ≤ 60) && decide (1 ≤ p.threshold) && decide (p.threshold ≤ 64)

/-- M to a power, modulo 2^32. -/
def powM : Nat → Word32
  | 0 => 1
  | n + 1 => powM n * Config.hashM

/-- The roll factor P = M^(W-1) mod 2^32 (R28). -/
def rollFactor (p : Profile) : Word32 := powM (p.window - 1)

/-- The profile of a slot that is ACTIVE or RETIRING, with its roll factor (R140). -/
def ProfileSlot.profile? : ProfileSlot → Option (Profile × Word32)
  | .empty => none
  | .active p r _ => some (p, r)
  | .retiring p r _ => some (p, r)

/-- The window hash computed directly over the window's bytes, oldest first: the newest byte has weight 1, each older byte M
times the weight of the next (R32). -/
def directHash (window : List Byte) : Word32 :=
  window.foldl (fun h b => h * Config.hashM + b.setWidth 32) 0

/-- The rolled window hash: ((H - b_out × P) × M + b_in) mod 2^32 (R33). -/
def rolledHash (h roll : Word32) (out new : Byte) : Word32 :=
  (h - out.setWidth 32 * roll) * Config.hashM + new.setWidth 32

/-- Steps 1 to 4 of taking a byte (R31): length, window, window hash, digest and check state. -/
def Partial.take (p : Partial) (prof : Profile) (roll : Word32) (source : CutSource) (b : Byte) : Partial :=
  let length := p.length + 1
  let full := decide (prof.window ≤ p.window.length)
  let window := (if full then p.window.drop 1 else p.window) ++ [b]
  let hash :=
    match source with
    | .content =>
      if length < prof.window then none
      else if length = prof.window then some (directHash window)
      else match p.hash with
        | some h => some (rolledHash h roll (p.window.headD 0) b)
        | none => some (directHash window)
    | .fixed | .supplied => none
  { length := length, window := window, hash := hash, digest := p.digest.take b, check := crcTake p.check b }

/-- The content test: L ≥ m, and the low k bits of H(L) + s are all ones (R34). -/
def contentTest (prof : Profile) (p : Partial) : Bool :=
  match p.hash with
  | none => false
  | some h =>
    decide (prof.minimum ≤ p.length) &&
    decide ((h + BitVec.ofNat 32 prof.seed).toNat % 2 ^ prof.exponent = 2 ^ prof.exponent - 1)

/-- The boundary test after a byte is taken (R34, R35): the cut that ends the chunk, if any. -/
def boundary (prof : Profile) (source : CutSource) (p : Partial) : Option Cut :=
  match source with
  | .content => if contentTest prof p then some .content else if p.length = prof.maximum then some .limit else none
  | .fixed | .supplied => if p.length = prof.maximum then some .limit else none

/-- The chunk that ends with the partial chunk, at the lane's stream offset `offset` (R42). -/
def Partial.chunk (p : Partial) (offset : BitVec 64) (cut : Cut) : Chunk :=
  { length := p.length, first := offset - BitVec.ofNat 64 p.length, fingerprint := p.digest.finish p.length,
    check := crcFinish p.check, cut := cut, waited := false }

end Sys2Proof.Machine
end

