-- ==== Sys2Proof/Machine/LaneOps.lean ====
section
/-! DEFINITION. A lane at work: stall causes (R63, R64), runs and verdicts (R65, R68 to R73), the class window (R70, R71), a
chunk's disposal (R66 steps 3 to 6), journal-full commits (R101), the LANE records a lane writes (R104, R106, R113, R168), and
the end of a grant (R62). -/

namespace Sys2Proof.Machine

open Sys2Proof

/-! ### Stall causes, runs and held verdicts -/

/-- Some stall cause is present (R63). -/
def Stalls.any (s : Stalls) : Bool := s.ringFull || s.waiting || s.noContainer || s.journalFull || s.starved

/-- The lane's owner port, when a record of the lane finds a free position in its ring (R179). -/
def State.mayWrite (s : State) (n : LaneNo) : Option PortNo :=
  match (s.lane n).owner with
  | some p => if s.canWrite p then some p else none
  | none => none

/-- The run under construction is closed (R73): written when a position is free, otherwise kept, marked closed, under
RING_FULL (R65). -/
def State.closeRun (s : State) (n : LaneNo) : State :=
  match (s.lane n).run with
  | none => s
  | some r =>
    if r.closed then s
    else
      match s.mayWrite n with
      | some p => (s.ringPut p (.run r)).modLane n fun l => { l with run := none }
      | none =>
        (s.modLane n fun l =>
          { l with run := some { r with closed := true }, stalls := { l.stalls with ringFull := true }, grant := none }).laneJoin n

/-- The lane gains a stall cause (R63): its grant ends and its run is closed in the same step. -/
def State.stall (s : State) (n : LaneNo) (cause : Stalls → Stalls) : State :=
  (s.modLane n fun l => { l with stalls := cause l.stalls, grant := none }).closeRun n

/-- A single VERDICT is to be written (R65): written when a position is free and nothing earlier of the lane waits, otherwise
the held verdict under RING_FULL. -/
def State.writeVerdict (s : State) (n : LaneNo) (v : Verdict) : State :=
  match s.mayWrite n, (s.lane n).run, (s.lane n).held with
  | some p, none, none => s.ringPut p (.verdict v)
  | _, _, _ =>
    (s.modLane n fun l =>
      { l with held := some (.verdict v), stalls := { l.stalls with ringFull := true }, grant := none }).laneJoin n

/-- STARVED is gained by an ACTIVE lane whose queue is empty, once its ended chunk, if any, has been disposed of and its
ADOPTED record, if any, has been written (R64, R168; notes/assumptions/8.md). -/
def State.starveCheck (s : State) (n : LaneNo) : State :=
  let l := s.lane n
  let adoptedHeld := match l.held with | some (.adopted _) => true | _ => false
  if l.state = .active ∧ l.items = [] ∧ l.chunk = none ∧ l.stalls.starved = false ∧ adoptedHeld = false then
    s.stall n fun c => { c with starved := true }
  else s

/-- The head of the queue lets a lane keep its engine: a DATA, CUT or TAG item (R60). -/
def headKeepsGrant : List Item → Bool
  | .data _ _ _ :: _ | .cut :: _ | .tag _ :: _ => true
  | .checkpoint :: _ | .finish :: _ | [] => false

/-- The grant ends when the lane has left ACTIVE, stalls, has no DATA, CUT or TAG at its head, or has used its quota with no
ended chunk still to be disposed of (R60, R62). -/
def State.grantCheck (s : State) (n : LaneNo) : State :=
  s.modLane n fun l =>
    match l.grant with
    | none => l
    | some g =>
      if l.state = .active ∧ l.stalls.any = false ∧ headKeepsGrant l.items = true ∧ ¬(g.quota ≤ g.taken ∧ l.chunk = none) then l
      else { l with grant := none }

/-! ### Class -/

/-- The class of a window with `d` duplicates (R70). -/
def windowClass (d : Nat) : LaneClass := if d < 64 then .cold else if d < 192 then .mixed else .hot

/-- A window class is judged (R71). -/
def Lane.judge (l : Lane) (w : LaneClass) : Lane :=
  if w = l.cls then { l with agreement := 0, candidate := none }
  else if l.candidate = some w then
    if l.agreement + 1 = 3 then { l with cls := w, agreement := 0, candidate := none }
    else { l with agreement := l.agreement + 1 }
  else { l with candidate := some w, agreement := 1 }

/-- A verdict is counted in the class window; the 256th chunk of a window has it judged and begins a new one (R70). -/
def Lane.count (l : Lane) (dup : Bool) : Lane :=
  let dups := l.windowDups + bit dup
  if l.windowChunks + 1 = 256 then { l with windowChunks := 0, windowDups := 0 }.judge (windowClass dups)
  else { l with windowChunks := l.windowChunks + 1, windowDups := dups }

/-! ### From result to verdict -/

/-- The result of a chunk (R13). -/
structure Result where
  kind : VerdictKind
  chunkId : Option Nat
  container : Nat
  place : Nat
  resurrected : Bool
  reason : UnindexedReason
  deriving DecidableEq, Repr

/-- The verdict joins the run under construction (R72). -/
def Lane.joinsRun (l : Lane) (v : Verdict) : Bool :=
  decide (l.coalescing = .auto) && decide (l.cls = .hot) && decide (v.kind = .dup) && !v.resurrected && !v.waited &&
  v.tag.isNone && (match l.run with | some r => !r.closed | none => true)

/-- The verdict becomes the next element of the run; the twelfth element closes it (R72, R73). -/
def State.addToRun (s : State) (n : LaneNo) (v : Verdict) : State :=
  let e := (v.chunkId.getD 0, v.length)
  let r : Run :=
    match (s.lane n).run with
    | some r => { r with elems := r.elems ++ [e] }
    | none => { first := v, elems := [e], closed := false }
  let t := s.modLane n fun l => { l with run := some r }
  if r.elems.length = 12 then t.closeRun n else t

/-- The report of a verdict (R66 step 6): it joins the run, or the run is closed and it is written as a VERDICT (R72). -/
def State.report (s : State) (n : LaneNo) (v : Verdict) : State :=
  if (s.lane n).joinsRun v then s.addToRun n v else (s.closeRun n).writeVerdict n v

/-- The verdict of a chunk (R68). -/
def verdictOf (n : LaneNo) (l : Lane) (seq : Nat) (c : Chunk) (r : Result) : Verdict :=
  { lane := n, seq := seq, kind := r.kind, resurrected := r.resurrected, waited := c.waited, reason := r.reason, cut := c.cut,
    offset := c.first, length := c.length, chunkId := r.chunkId, container := r.container, place := r.place,
    fingerprint := c.fingerprint, check := c.check, tag := l.tag, cls := l.cls }

/-- The journal entry of a chunk (R66 step 4, R98). -/
def journalEntry (seq : Nat) (c : Chunk) (r : Result) : JournalEntry :=
  { seq := seq, what := match r.chunkId with | some id => .ref id | none => .unindexed r.container r.place, length := c.length }

/-- Step 3 and 4 of R66: the next sequence number is taken and the entry appended, with JOURNAL_HIGH at 229,376 entries
(R67, R99). -/
def State.journalChunk (s : State) (n : LaneNo) (seq : Nat) (c : Chunk) (r : Result) : State :=
  let k := (s.lane n).journal.length
  let t := (s.writeJournalPlace n k).modLane n fun l =>
    { l with nextSeq := if seq = Config.max32 then none else some (seq + 1), journal := l.journal ++ [journalEntry seq c r] }
  if k + 1 = Config.journalHigh then
    match (t.lane n).owner with
    | some p => t.setFlag p .journalHigh (.lanes [n])
    | none => t
  else t

/-- Step 5 of R66: the verdict is counted; a lane whose class leaves HOT has its run closed (R70, R71). -/
def State.countVerdict (s : State) (n : LaneNo) (dup : Bool) : State :=
  let before := (s.lane n).cls
  let t := s.modLane n fun l => l.count dup
  if before = .hot ∧ (t.lane n).cls ≠ .hot then t.closeRun n else t

/-- Steps 3 to 6 of R66 for chunk `c` with result `r`: sequence, journal entry, class and report, the pending tag delivered with
the verdict (R69). The lane then has no unresolved chunk. -/
def State.dispose (s : State) (n : LaneNo) (c : Chunk) (r : Result) : State :=
  let seq := (s.lane n).nextSeq.getD 0
  let t := (s.journalChunk n seq c r).countVerdict n (decide (r.kind = .dup))
  let v := verdictOf n (t.lane n) seq c r
  let u := (t.modLane n fun l => { l with tag := none, chunk := none }).report n v
  (u.starveCheck n).grantCheck n

/-! ### The LANE records -/

/-- The REF entries of a journal (R105). -/
def refCount (j : List JournalEntry) : Nat := (j.filter fun e => match e.what with | .ref _ => true | .unindexed _ _ => false).length

/-- The LANE record a lane is due to write. -/
inductive Due where
  | checkpoint | forced | closed | aborted
  deriving DecidableEq, Repr

/-- The lane holds a closed run (R65). -/
def Lane.hasClosedRun (l : Lane) : Bool := match l.run with | some r => r.closed | none => false

/-- The LANE record whose conditions hold (R104, R106, R101, R113): no run and no held verdict remains, and the lane's list is
empty or its walk has ended. -/
def Lane.due (l : Lane) : Option Due :=
  if l.run.isSome || l.held.isSome then none
  else
    match l.state with
    | .checkpointing => if l.unsettled = [] then some .checkpoint else none
    | .closing => if l.unsettled = [] then some .closed else none
    | .active => if l.stalls.journalFull = true ∧ l.unsettled = [] then some .forced else none
    | .aborting => if (l.abort.map AbortRecord.walkEnded).getD false then some .aborted else none
    | .free | .orphaned => none

/-- The lane has a record to write (R179). While it is ABORTING its closed run and held verdict wait for the end of the walk
(R113; notes/assumptions/10.md). -/
def Lane.hasRecord (l : Lane) : Bool :=
  match l.state with
  | .aborting => (l.abort.map AbortRecord.walkEnded).getD false
  | .orphaned | .free => false
  | .active | .checkpointing | .closing => l.hasClosedRun || l.held.isSome || l.due.isSome

/-- The CHECKPOINT or CLOSED record (R105, R106). -/
def Lane.commitRecord (l : Lane) (n : LaneNo) (d : Due) : LaneRecord :=
  let refs := refCount l.journal
  let rest := l.journal.length - refs
  { lane := n, forced := decide (d = .forced), unresolved := false, detail := 0, stateCode := 0, offset := l.offset,
    nextSeq := l.nextSeq.getD 0, tag := if d = .forced then none else l.keptTag,
    body := match d with
      | .closed => .closed refs rest l.ckSettled l.ckWithdrawn l.withdrawnSince
      | _ => .checkpoint refs rest l.ckSettled l.ckWithdrawn l.withdrawnSince }

/-- The ABORTED record (R113). -/
def Lane.abortedRecord (l : Lane) (n : LaneNo) (a : AbortRecord) : LaneRecord :=
  { lane := n, forced := false, unresolved := false, detail := a.cause.code, stateCode := a.stateAt.code, offset := l.offset,
    nextSeq := l.nextSeq.getD 0, tag := none,
    body := .aborted a.withdrawn a.released a.pinned a.stale a.underflow a.poisoned a.skipped }

/-- The ADOPTED record (R168). -/
def Lane.adoptedRecord (l : Lane) (n : LaneNo) (former : PortNo) (resume : LaneState) : LaneRecord :=
  { lane := n, forced := false, unresolved := l.chunk.isSome, detail := former.val, stateCode := resume.code,
    offset := l.offset, nextSeq := l.nextSeq.getD 0, tag := l.tag,
    body := .adopted l.part.length ((l.chunk.map Chunk.length).getD 0) ((l.chunk.map Chunk.first).getD 0) l.journal.length
      l.unsettled.length }

/-- The lane-use count of a slot falls by 1; a RETIRING slot whose count so reaches 0 becomes EMPTY (R141). -/
def ProfileSlot.giveUp : ProfileSlot → ProfileSlot
  | .empty => .empty
  | .active p r u => .active p r (u - 1)
  | .retiring p r u => if u ≤ 1 then .empty else .retiring p r (u - 1)

/-- The lane becomes FREE, and its profile slot's use falls by 1 (R106, R113, R141). -/
def State.freeLane (s : State) (n : LaneNo) : State :=
  let i := (s.lane n).slot
  { s with slots := s.slots.set i s.slots[i].giveUp }.setLane n Lane.free

/-- The lane gains JOURNAL_FULL and begins a journal-full commit (R100, R101): its open container is sealed and its checkpoint
counters are set to 0. -/
def State.gainJournalFull (s : State) (n : LaneNo) : State :=
  let t := s.stall n fun c => { c with journalFull := true }
  (t.modLane n fun l => { l with ckSettled := 0, ckWithdrawn := 0 }).sealOpen n

/-- A due LANE record is written at a granted position, with all that is taken in the same step (R104, R101, R106, R113). -/
def State.writeDue (s : State) (n : LaneNo) (p : PortNo) (d : Due) : State :=
  let l := s.lane n
  match d with
  | .checkpoint =>
    ((s.ringPut p (.lane (l.commitRecord n d))).modLane n fun l =>
      { l with journal := [], withdrawnSince := 0, state := .active, keptTag := none }).starveCheck n
  | .forced =>
    (s.ringPut p (.lane (l.commitRecord n d))).modLane n fun l =>
      { l with journal := [], withdrawnSince := 0, stalls := { l.stalls with journalFull := false } }
  | .closed => (s.ringPut p (.lane (l.commitRecord n d))).freeLane n
  | .aborted =>
    match l.abort with
    | some a => (s.ringPut p (.lane (l.abortedRecord n a))).freeLane n
    | none => s

/-- RING_FULL is removed when neither a closed run nor a held record remains (R65). -/
def Lane.clearRingFull (l : Lane) : Lane :=
  if l.hasClosedRun || l.held.isSome then l else { l with stalls := { l.stalls with ringFull := false } }

/-- What follows in the step in which the ADOPTED record is written (R168), but for records the lane then writes. -/
def State.resumeAdopted (s : State) (n : LaneNo) : State :=
  let l := s.lane n
  if l.state = .active then
    if l.chunk.isSome then (if Config.journalSlots ≤ l.journal.length then s.gainJournalFull n else s) else s.starveCheck n
  else s

/-- The lane writes one record at a granted position: its closed run, then its held verdict or ADOPTED record, then the LANE
record that is due (R65, R113, R179). -/
def State.laneWrite (s : State) (n : LaneNo) (p : PortNo) : State :=
  let l := s.lane n
  match l.run, l.held with
  | some r, _ =>
    if r.closed then (s.ringPut p (.run r)).modLane n fun l => { l with run := none }.clearRingFull else s
  | none, some (.verdict v) => (s.ringPut p (.verdict v)).modLane n fun l => { l with held := none }.clearRingFull
  | none, some (.adopted r) =>
    ((s.ringPut p (.lane r)).modLane n fun l => { l with held := none }.clearRingFull).resumeAdopted n
  | none, none =>
    match l.due with
    | some d => s.writeDue n p d
    | none => s

/-- RING_FULL is gained by a lane whose closed run or held record waits for the ring (R63, R65). -/
def Lane.gainRingFull (l : Lane) : Lane :=
  if l.hasClosedRun || l.held.isSome then { l with stalls := { l.stalls with ringFull := true } } else l

/-- The lane, as a writer with records to write (R179): it writes while a position is free and no writer waits, and otherwise
joins the list, under RING_FULL while a closed run or held record waits (R180). At most four records follow one another: a closed
run, a held record, and the LANE records it lets through. -/
def State.kick (s : State) (n : LaneNo) (fuel : Nat := 4) : State :=
  match fuel with
  | 0 => s
  | k + 1 =>
    match (s.lane n).owner with
    | none => s
    | some p =>
      if (s.lane n).hasRecord && s.attached p && !decide (Writer.lane n ∈ (s.port p).waiting) then
        if s.canWrite p then (s.laneWrite n p).kick n k else (s.modLane n Lane.gainRingFull).join p (.lane n)
      else s

/-- Step 1 of R66 at a chunk's end or at its disposal, when the journal is full: JOURNAL_FULL and the commit that begins. -/
def State.journalFullStall (s : State) (n : LaneNo) : State := (s.gainJournalFull n).kick n

end Sys2Proof.Machine
end

