-- ==== Sys2Proof/Machine/Settlement.lean ====
section
/-! DEFINITION. The ends of a container and of a wait: waiter lists and turns (R91, R94, R95), settlement (R85), withdrawal (R90),
the entry into ABORTING and the end of the walk (R109, R113), and the entry into PASSTHROUGH (R191, R96). -/

namespace Sys2Proof.Machine

open Sys2Proof

/-! ### Waiting lanes -/

/-- A waiter that still holds RING_FULL when its turn comes is passed over (R91); a list whose turns are done is dropped. -/
def State.settleTurns (s : State) : State :=
  { s with turns :=
      (s.turns.map fun q => { q with waiters := q.waiters.dropWhile fun n => (s.lane n).stalls.ringFull }).filter fun q =>
        !q.waiters.isEmpty }

/-- The lane's turn is done, or the lane has left its list (R91, R95). -/
def State.leaveTurn (s : State) (n : LaneNo) : State :=
  let t : State := { s with turns := s.turns.map fun q => { q with waiters := q.waiters.filter fun m => decide (m ≠ n) } }
  t.settleTurns

/-- No waiter stands before the lane in a list of repeated lookups (R91). -/
def State.hasTurn (s : State) (n : LaneNo) : Bool :=
  s.turns.all fun q => decide (n ∉ q.waiters) || decide (q.waiters.head? = some n)

/-- WAITING is removed from the lanes, which repeat their lookups in the order given (R90 step 5, R91): the waiters of a withdrawn
container, or one waiter of the container `settled` (R86). -/
def State.releaseWaiters (s : State) (ws : List LaneNo) (settled : Option Nat := none) : State :=
  let t := ws.foldl
    (fun t n => t.modLane n fun l => { l with waitTarget := none, stalls := { l.stalls with waiting := false } }) s
  let u : State := { t with turns := t.turns ++ [{ waiters := ws, settled := settled }] }
  u.settleTurns

/-- The lane waits on the member `r` of a container (R94, R15): it becomes the newest waiter, gains WAITING, and an OPEN
container is sealed on demand. -/
def State.waitOn (s : State) (n : LaneNo) (number : Nat) (r : SlotRef) : State :=
  let t := s.modContainer number fun c => { c with waiters := c.waiters ++ [(n, r)] }
  let u := t.modLane n fun l => { l with waitTarget := some number, chunk := l.chunk.map fun c => { c with waited := true } }
  (u.stall n fun c => { c with waiting := true }).sealContainer number .demand

/-- The SETTLE completion (R85): container, members settled, those that became ZERO, waiters completed as DUP, waiters sent to
repeat their lookups. -/
def Settling.completion (g : Settling) : Completion :=
  { kind := 0x0B, tag := g.tag, outcome := .ok,
    fields := [.num 4 g.container, .num 4 g.settled, .num 4 g.zeros, .num 2 g.dups, .num 2 g.repeats] }

/-- A settlement whose waiters have all been completed or have left is done: its completion is made, or discarded and counted
when its port has entered fail-safe since (R85, R158). -/
def State.finishSettling (s : State) (g : Settling) : State :=
  let t : State := { s with settlings := s.settlings.filter fun h => decide (h.container ≠ g.container) }
  if g.stray then t.discard 1 else t.complete g.sender g.completion

/-- Every settlement without waiters is done. -/
def State.finishSettlings (s : State) : State :=
  (s.settlings.filter fun g => g.waiters.isEmpty).foldl State.finishSettling s

/-- The lane leaves every waiter list (R95). -/
def State.leaveWaiters (s : State) (n : LaneNo) : State :=
  let t : State := { s with
    table := s.table.map fun c => { c with waiters := c.waiters.filter fun w => decide (w.1 ≠ n) }
    settlings := s.settlings.map fun g => { g with waiters := g.waiters.filter fun w => decide (w.1 ≠ n) } }
  (t.leaveTurn n).finishSettlings

/-! ### Aborts -/

/-- An ABORTING lane's records are discarded and counted, and the lane becomes FREE (R113). -/
def State.discardAborted (s : State) (n : LaneNo) : State :=
  let l := s.lane n
  (s.discard (bit l.run.isSome + bit l.held.isSome + 1)).freeLane n

/-- The walk has ended (R113): the lane writes its records when its owner port is ATTACHED and has not failed since the abort
began; otherwise they are discarded and the lane is FREE. -/
def State.walkEnd (s : State) (n : LaneNo) : State :=
  let l := s.lane n
  match l.owner, l.abort with
  | some p, some a =>
    if s.attached p && !a.discard then
      (s.modLane n fun l => { l with abort := some { a with walkEnded := true } }).kick n
    else s.discardAborted n
  | _, _ => s.discardAborted n

/-- The walk ends when the withdrawal phase is over and the journal is empty (R110, R111). -/
def State.walkCheck (s : State) (n : LaneNo) : State :=
  let l := s.lane n
  if l.state = .aborting ∧ l.unsettled = [] ∧ l.journal = [] ∧ (l.abort.map AbortRecord.walkEnded).getD false = false then
    s.walkEnd n
  else s

/-- The lane goes on with what it can do now: write a due record, or end its walk. -/
def State.progress (s : State) (n : LaneNo) : State := (s.kick n).walkCheck n

/-- The lane record at its entry into ABORTING (R109). DESIGN CHOICE: an ADOPTED record that still waits, in the place of the held
verdict (R168), is kept with it and written after the walk, before the ABORTED record (notes/assumptions/38.md). -/
def Lane.enterAborting (l : Lane) (cause : AbortCause) : Lane :=
  { l with
      state := .aborting
      grant := none
      items := []
      part := Partial.empty
      chunk := none
      waitTarget := none
      run := l.run.map fun r => { r with closed := true }
      stalls := { Stalls.clear with ringFull := l.stalls.ringFull }
      tag := none
      keptTag := none
      staged := none
      resume := none
      ckSettled := 0
      ckWithdrawn := 0
      abort := some { cause := cause, stateAt := l.state, withdrawn := 0, released := 0, pinned := 0, stale := 0,
                      underflow := 0, poisoned := 0, skipped := 0, walkEnded := false, discard := false } }

/-- The lane's writer leaves the waiting lists of the ports. -/
def State.leaveWriters (s : State) (w : Writer) : State :=
  { s with ports := s.ports.map fun q => { q with waiting := q.waiting.filter fun v => decide (v ≠ w) } }

/-- A lane enters ABORTING (R109). -/
def State.abortLane (s : State) (n : LaneNo) (cause : AbortCause) : State :=
  let t := (s.leaveWaiters n).leaveWriters (.lane n)
  let u := t.modLane n fun l => l.enterAborting cause
  let v : State := { u with orphanTimers := u.orphanTimers.set n none }
  v.walkCheck n

/-! ### Settlement and withdrawal -/

/-- The member still stands on the list of the container. -/
def State.isMember (s : State) (number : Nat) (r : SlotRef) : Bool :=
  match s.container? number with
  | some c => decide (r ∈ c.members)
  | none => false

/-- One member takes its settled state (R17, R85 step 1): members settled, those that became ZERO, and the state. A member
struck from the list, or whose read poisons its bucket, takes none. -/
def settleMember (number : Nat) (acc : Nat × Nat × State) (r : SlotRef) : Nat × Nat × State :=
  let (k, z, s) := acc
  if s.isMember number r then
    match s.readBucket r.bucket with
    | (true, t) => (k, z, t)
    | (false, t) =>
      match t.entry? r with
      | none => (k, z, t)
      | some x => (k + 1, z + bit (decide (x.count = 0)), t.updateEntry r.bucket r.slot (x.settle t.epoch))
  else (k, z, s)

/-- One member is removed from the index (R90 step 1): the number removed, and the state. -/
def withdrawMember (number : Nat) (acc : Nat × State) (r : SlotRef) : Nat × State :=
  let (k, s) := acc
  if s.isMember number r then
    match s.readBucket r.bucket with
    | (true, t) => (k, t)
    | (false, t) => if (t.entry? r).isSome then (k + 1, t.removeEntry r.bucket r.slot) else (k, t)
  else (k, s)

/-- Steps 1 to 4 of the withdrawal of a container (R90): its waiters, and the state. -/
def State.withdrawContainer (s : State) (number : Nat) (cause : WithdrawCause) : List LaneNo × State :=
  match s.container? number with
  | none => ([], s)
  | some c =>
    let (k, t) := c.members.foldl (withdrawMember number) (0, s)
    let u := (t.loseContainer c false).listWithdrawn c.ownerPort number
    let v := u.makeNotice c.ownerPort
      { kind := .withdrawn cause c.waiters.length, lane := c.ownerLane, container := number, fill := c.fill, members := k }
    (c.waiters.map Prod.fst, v)

/-- A container is withdrawn (R90): after step 5 the lanes holding NO_CONTAINER are retested (R76), and its owner lane goes on. -/
def State.withdrawOne (s : State) (number : Nat) (cause : WithdrawCause) : State :=
  match s.container? number with
  | none => s
  | some c =>
    let (ws, t) := s.withdrawContainer number cause
    (t.releaseWaiters ws).retest.progress c.ownerLane

/-- The scanner stops: IDLE, cursor kept, requesting port absent (R132, R135). -/
def Scanner.stop (c : Scanner) : Scanner := { c with state := .idle, requester := none, finishing := false }

/-- A number into a list in ascending order. -/
def insertAscending (k : Nat) : List Nat → List Nat
  | [] => [k]
  | m :: rest => if k ≤ m then k :: m :: rest else m :: insertAscending k rest

/-- The numbers of the containers in the table, ascending. -/
def State.containerNumbers (s : State) : List Nat := (s.table.map Container.number).foldr insertAscending []

/-- Entry into PASSTHROUGH (R191, R96): the scanner stops, the flag is set, every container in the table is withdrawn in
ascending number, and then their waiters repeat their lookups and the lanes holding NO_CONTAINER are retested. -/
def State.enterPassthrough (s : State) : State :=
  let t : State := { s with device := .passthrough, scanner := s.scanner.stop }
  let u := t.setFlagAll .passthrough .none
  let (ws, v) := u.containerNumbers.foldl
    (fun (acc : List LaneNo × State) number =>
      let (ws, t) := acc.2.withdrawContainer number .passthrough
      (acc.1 ++ ws, t))
    (([], u) : List LaneNo × State)
  allLanes.foldl State.progress (v.releaseWaiters ws).retest

/-- Step 6 of a poisoning (R189), taken when the operation that began at `before` has poisoned a bucket: the count stands at or
above the threshold and the device is not in PASSTHROUGH. -/
def State.passCheck (s before : State) : State :=
  if before.poisonCount < s.poisonCount ∧ s.policy.threshold ≤ s.poisonCount ∧ s.device ≠ .passthrough then s.enterPassthrough
  else s

end Sys2Proof.Machine
end

