-- ==== Sys2Proof/Machine/Device.lean ====
section
/-! DEFINITION. What reaches the whole part: epoch advances and freezes (R117 to R124), a policy becoming active (R144), the
device reset (R193), proposals that apply and end (R150 to R154), and the end of a reclaim pass (R136). -/

namespace Sys2Proof.Machine

open Sys2Proof

/-! ### Epochs and policies -/

/-- The epoch timer is started with the interval in force, or stopped by an interval of 0 (R120). -/
def State.startEpochTimer (s : State) : State :=
  { s with epochTimer := if s.policy.interval = 0 then none else some (s.policy.interval * 1000) }

/-- A policy becomes active (R144): the timer is started or stopped by it, and a threshold at or below the count standing takes
the device into PASSTHROUGH. -/
def State.activatePolicy (s : State) (p : Policy) : State :=
  let t : State := { s with policy := p, stagedPolicy := none }
  let u := t.startEpochTimer
  if p.threshold ≤ u.poisonCount ∧ u.device ≠ .passthrough then u.enterPassthrough else u

/-- An advance is taken at the epoch unit (R121). -/
def State.advance (s : State) : State :=
  let t : State := { s with epoch := countTo Config.max32 s.epoch }
  let u := match t.stagedPolicy with | some p => t.activatePolicy p | none => t
  let v := (u.setFlagAll .epochAdvanced .none).startEpochTimer
  { v with startRequests := v.startRequests + 1 }

/-- The ports that hold a freeze (R122). -/
def State.frozen (s : State) : List PortNo := allPorts.filter fun p => (s.port p).freeze

/-- A request for an advance is taken (R118, R123): as an advance, or, while a freeze is held, held or absorbed. -/
def State.requestAdvance (s : State) : Disposition × State :=
  if s.frozen = [] then (if s.epoch = Config.max32 then .atLimit else .advanced, s.advance)
  else if s.advancePending then (.absorbed, { s with absorbed := countTo Config.max32 s.absorbed })
  else (.held, { s with advancePending := true })

/-- A port's freeze flag is cleared by a thaw or a fail-safe entry; when none remains and an advance is held, it is taken in
the same step (R124). -/
def State.clearFreeze (s : State) (p : PortNo) : State :=
  let t := s.modPort p fun q => { q with freeze := false }
  if (s.port p).freeze = true ∧ t.frozen = [] ∧ t.advancePending = true then
    State.advance { t with advancePending := false }
  else t

/-- The fields of the epoch commands' completions (R119), without the disposition: epoch, pending-advance flag, frozen ports,
absorbed count. -/
def State.epochFields (s : State) : List Field :=
  [.num 4 s.epoch, .num 1 (bit s.advancePending), .num 1 (maskOf (s.frozen.map Fin.val)), .num 4 s.absorbed]

/-! ### Profile slots -/

/-- The lane-use count at a device reset: 0, which empties a RETIRING slot (R141, R193 step 5). -/
def ProfileSlot.clearUses : ProfileSlot → ProfileSlot
  | .empty => .empty
  | .active p r _ => .active p r 0
  | .retiring _ _ _ => .empty

/-- Retirement: RETIRING, or EMPTY at once when the lane-use count is 0 (R153, R140). -/
def ProfileSlot.retire : ProfileSlot → ProfileSlot
  | .empty => .empty
  | .active p r u | .retiring p r u => if u = 0 then .empty else .retiring p r u

/-- The lane-use count rises by 1 (R141). -/
def ProfileSlot.takeUse : ProfileSlot → ProfileSlot
  | .empty => .empty
  | .active p r u => .active p r (u + 1)
  | .retiring p r u => .retiring p r (u + 1)

/-- The slot is ACTIVE (R140). -/
def ProfileSlot.isActive : ProfileSlot → Bool
  | .active _ _ _ => true
  | .empty | .retiring _ _ _ => false

/-- The slot is EMPTY (R140). -/
def ProfileSlot.isEmpty : ProfileSlot → Bool
  | .empty => true
  | .active _ _ _ | .retiring _ _ _ => false

/-! ### Device reset -/

/-- A bucket written anew at a device reset (R1, R193 step 4): every slot FREE, its generation raised where it held an entry; in
a bucket on the poison list, or whose read at the reset meets an uncorrectable error, every slot at generation 0. -/
def resetBucket (lost : Bool) (b : Bucket) : Bucket :=
  if lost then Bucket.untouched
  else b.map fun t =>
    { generation := if t.entry.isSome then nextGeneration t.generation else t.generation, entry := none }

/-- The place is a bucket's. -/
def isBucketPlace : DramPlace → Bool
  | .bucket _ => true
  | .journal _ _ => false

/-- The writers that a device reset removes from a port's list without counting (R171, R193): lanes, the notice queue, the
reclaim queue. -/
def Writer.dropsAtReset : Writer → Bool
  | .lane _ | .notices | .reclaim => true
  | .command | .attention => false

/-- Steps 1 to 3 of a device reset (R193): lanes, journals, the settlement table and the notice queues. -/
def State.resetLanes (s : State) : State :=
  let t : State := { s with
    lanes := Vector.replicate 64 Lane.free
    lastGranted := 63
    orphanTimers := Vector.replicate 64 none
    expired := Vector.replicate 64 false
    table := []
    turns := []
    settlings := s.settlings.map fun g => { g with waiters := [] }
    ports := s.ports.map fun q => { q with notices := [], waiting := q.waiting.filter fun w => !w.dropsAtReset } }
  t.finishSettlings

/-- Step 4 of a device reset (R193): the chunk index, the poison list and occupancy. -/
def State.resetIndex (s : State) : State :=
  let lost (b : Nat) : Bool := decide (b ∈ s.poisonList) || s.hasError (.bucket b) .uncorrectable
  let t : State := { s with
    index := sparseMap Bucket.untouched (fun b v => resetBucket (lost b) v) s.index
    poisonList := []
    poisonCount := 0
    damage := s.damage.filter fun d => !isBucketPlace d.place }
  t.changeOccupancy 0

/-- A device reset (R193), but for the ending of its proposal. OCCUPANCY of a falling crossing is set before DEVICE_RESET, so an
ATTENTION record written at it shows it alone (notes/assumptions/32.md). -/
def State.deviceReset (s : State) : State :=
  let t := s.resetLanes.resetIndex
  let u : State := { t with slots := t.slots.map ProfileSlot.clearUses, scanner := Scanner.reset, device := .rebuild }
  u.setFlagAll .deviceReset .none

/-! ### Proposals -/

/-- What a proposal does when it applies (R153, R154), and the outcome with which it ends. -/
def State.applyBody (s : State) (b : ProposalBody) : ProposalOutcome × State :=
  match b with
  | .profileInstall i p => (.applied, { s with slots := s.slots.set i (.active p (rollFactor p) 0) })
  | .profileRetire i => (.applied, { s with slots := s.slots.set i s.slots[i].retire })
  | .policy p =>
    match s.device with
    | .rebuild => (.applied, s.activatePolicy p)
    | .service | .passthrough => (.applied, { s with stagedPolicy := some p })
  | .serviceStart =>
    match s.device with
    | .rebuild => (.applied, { s with device := .service })
    | .service | .passthrough => (.voided, s)
  | .deviceReset => (.applied, s.deviceReset)

/-- The open proposal ends with an outcome (R152): the last-ended record, and CONSENT_ENDED with the consent field at the
proposer and the required ports. -/
def State.endProposal (s : State) (o : ProposalOutcome) : State :=
  match s.proposal with
  | none => s
  | some p =>
    let e : Ending := { body := p.body, outcome := o }
    let t : State := { s with proposal := none, lastEnded := some e }
    t.setFlags (p.proposer :: p.required) .consentEnded (.ending e)

/-- The open proposal applies, and ends in the same step (R148, R152). DESIGN CHOICE: the flags of its application, such as
PASSTHROUGH of a policy applied in REBUILD, are set before CONSENT_ENDED (notes/assumptions/33.md). -/
def State.applyProposal (s : State) : State :=
  match s.proposal with
  | none => s
  | some p =>
    let (o, t) := s.applyBody p.body
    t.endProposal o

/-- Every required port has consented: the received set equals the required set (R148, R150). -/
def Proposal.complete (p : Proposal) : Bool := p.required.all fun q => decide (q ∈ p.received)

/-- The open proposal at a port's fail-safe entry or detachment (R150, R176). -/
def State.leaveProposal (s : State) (q : PortNo) : State :=
  match s.proposal with
  | none => s
  | some p =>
    if p.proposer = q then s.endProposal .withdrawn
    else if q ∈ p.required then
      let p' : Proposal := { p with
        required := p.required.filter fun r => decide (r ≠ q), received := p.received.filter fun r => decide (r ≠ q) }
      let t : State := { s with proposal := some p' }
      if p'.complete then t.applyProposal else t
    else s

/-! ### The reclaim queue -/

/-- The end of a pass (R136): SWEEP_ENDED at the requesting port, cursor 0, IDLE, and the pass-end request when SWEEP_END is in
the trigger set. -/
def State.passEnd (s : State) : State :=
  let t := match s.scanner.requester with | some p => s.setFlag p .sweepEnded .none | none => s
  { t with
      scanner := { t.scanner with cursor := 0, state := .idle, finishing := false }
      sweepEndRequests := if t.policy.triggers.sweepEnd then t.sweepEndRequests + 1 else t.sweepEndRequests }

/-- A pass whose last bucket has been examined ends once the reclaim queue is empty (R136). -/
def State.passEndCheck (s : State) : State :=
  if s.scanner.finishing = true ∧ s.scanner.queue = [] then s.passEnd else s

/-- The reclaim queue writes its oldest record destined for the port (R134). -/
def State.writeReclaim (s : State) (p : PortNo) : State :=
  match s.scanner.queue.find? fun r => decide (r.port = p) with
  | none => s
  | some r =>
    let t := s.ringPut p (.reclaim r)
    { t with scanner := { t.scanner with queue := t.scanner.queue.erase r } }

/-- The reclaim queue holds a record for the port. -/
def State.hasReclaim (s : State) (p : PortNo) : Bool := s.scanner.queue.any fun r => decide (r.port = p)

/-- The reclaim queue as a writer of a port's ring (R134, R179): it writes while a position is free and no writer waits, and
otherwise joins the list. An examination makes at most 16 records. -/
def State.kickReclaim (s : State) (p : PortNo) (fuel : Nat := 16) : State :=
  match fuel with
  | 0 => s
  | k + 1 =>
    if s.hasReclaim p && !decide (Writer.reclaim ∈ (s.port p).waiting) then
      if s.canWrite p then (s.writeReclaim p).kickReclaim p k else s.join p .reclaim
    else s

/-- The records of the reclaim queue destined for a port are discarded and counted (R130, R134, R158). -/
def State.discardReclaims (s : State) (p : PortNo) : State :=
  let t : State := { s with scanner := { s.scanner with queue := s.scanner.queue.filter fun r => decide (r.port ≠ p) } }
  t.discard (s.scanner.queue.filter fun r => decide (r.port = p)).length

/-- The scanner at its requesting port's fail-safe entry or detachment (R135, R159 step 3). -/
def State.stopScannerOf (s : State) (p : PortNo) : State :=
  if s.scanner.requester = some p then { s with scanner := s.scanner.stop } else s

end Sys2Proof.Machine
end

