-- ==== Sys2Proof/Machine/Liveness.lean ====
section
/-! DEFINITION. Port failure and detachment (R158 to R162, R176), and the grants of a ring's writer arbiter (R179). -/

namespace Sys2Proof.Machine

open Sys2Proof

/-- The records that wait in a port unit for its ring, apart from those of lanes and of the reclaim queue: a completion in hand,
the notices, the ATTENTION record (R158 step 4, R176). -/
def Port.waitingRecords (q : Port) : Nat :=
  (match q.hand with | some (.completion _ _) => 1 | _ => 0) + q.notices.length + bit q.attnHeld

/-- A command at work at its port's fail-safe entry goes on to its end, and its completion will be discarded (R158). -/
def State.strayHand (s : State) (p : PortNo) : State :=
  match (s.port p).hand with
  | some (.release w) => { s with strayReleases := s.strayReleases ++ [w] }
  | some (.settle c) =>
    { s with settlings := s.settlings.map fun g =>
        if g.container = c ∧ g.sender = p then { g with stray := true } else g }
  | some (.completion _ _) | none => s

/-- The port unit at fail-safe entry (R158): its watchdog stops, its fail-safe time is recorded, its queue and summary are
emptied, and nothing waits for its ring. -/
def Port.fail (q : Port) (now : Nat) : Port :=
  { q with state := .failsafe, watchdog := none, failSafeTime := some now, queue := [], hand := none,
           summary := Summary.empty, attnHeld := false, notices := [], waiting := [] }

/-- The lane record at orphaning (R161). -/
def Lane.orphan (l : Lane) : Lane :=
  { l with
      state := .orphaned
      resume := some l.state
      former := l.owner
      owner := none
      grant := none
      items := []
      waitTarget := none
      run := none
      held := none
      stalls := Stalls.clear }

/-- A lane of a failed port becomes ORPHANED (R161): its run and held record are discarded and counted, and its orphan timer
starts with the orphan limit of the active policy (R163). -/
def State.orphanLane (s : State) (n : LaneNo) : State :=
  let l := s.lane n
  let t := (s.discard (bit l.run.isSome + bit l.held.isSome)).leaveWaiters n
  let u := t.modLane n Lane.orphan
  { u with orphanTimers := u.orphanTimers.set n (some (u.policy.orphanLimit * 1000)) }

/-- A lane of a failed port that is ABORTING goes on with its abort, its records to be discarded; when they already wait for the
ring, they are discarded now and the lane becomes FREE (R160, R113). -/
def State.failAborting (s : State) (n : LaneNo) : State :=
  let l := s.lane n
  if (l.abort.map AbortRecord.walkEnded).getD false then s.discardAborted n
  else s.modLane n fun l => { l with abort := l.abort.map fun a => { a with discard := true } }

/-- A lane in service that its port's failure aborts (R160, R162): its run and held verdict are discarded and counted in the step
(R158 step 4, R181; notes/assumptions/11.md), and its ABORTED record will be. -/
def State.abandonLane (s : State) (n : LaneNo) : State :=
  let l := s.lane n
  let t := (s.discard (bit l.run.isSome + bit l.held.isSome)).modLane n fun l => { l with run := none, held := none }.clearRingFull
  (t.abortLane n .abandon).failAborting n

/-- A lane whose owner port enters fail-safe, by its state (R160). -/
def State.failLane (s : State) (p : PortNo) (n : LaneNo) : State :=
  let l := s.lane n
  if l.owner = some p then
    match l.state with
    | .active | .checkpointing | .closing =>
      match l.action with
      | .suspend => s.orphanLane n
      | .abandon => s.abandonLane n
    | .aborting => s.failAborting n
    | .free | .orphaned => s
  else s

/-- The lanes a fail-safe entry of the port orphans (R160): owned by it, in service, with fail-safe action SUSPEND. -/
def State.lanesToOrphan (s : State) (p : PortNo) : List LaneNo :=
  allLanes.filter fun n =>
    let l := s.lane n
    decide (l.owner = some p) && decide (l.action = .suspend) &&
    (match l.state with | .active | .checkpointing | .closing => true | .free | .aborting | .orphaned => false)

/-- The effects of fail-safe entry at the port itself (R158). -/
def State.failPort (s : State) (p : PortNo) : State :=
  let k := (s.port p).waitingRecords
  ((((s.strayHand p).modPort p fun q => q.fail s.now).discard k).discardReclaims p)

/-- The flags of a fail-safe entry at the other ports (R159 step 1): PEER_FAILSAFE first, so an ATTENTION record written at it does
not show LANE_ORPHANED (notes/assumptions/32.md). -/
def State.failFlags (s : State) (p : PortNo) (orphans : List LaneNo) : State :=
  let others := allPorts.filter fun q => decide (q ≠ p)
  let t := s.setFlags others .peerFailsafe (.port p)
  if orphans = [] then t else t.setFlags others .laneOrphaned (.lanes orphans)

/-- Fail-safe entry of a port, for reason WATCHDOG or LINK_RESET (R158 to R160). -/
def State.failSafe (s : State) (p : PortNo) : State :=
  let orphans := s.lanesToOrphan p
  let t := allLanes.foldl (fun t n => t.failLane p n) (s.failPort p)
  (((t.failFlags p orphans).clearFreeze p).stopScannerOf p).leaveProposal p

/-- The port unit when it becomes DETACHED (R176). -/
def Port.detach (q : Port) : Port :=
  { q with state := .detached, watchdog := none, queue := [], hand := none, summary := Summary.empty, attnHeld := false,
           notices := [], waiting := [] }

/-- The step in which the DETACH completion has been written (R176): the port becomes DETACHED, other records waiting for its
ring are discarded and counted, the scanner and the open proposal lose the port. -/
def State.detachPort (s : State) (p : PortNo) : State :=
  let k := (s.port p).waitingRecords
  ((((s.modPort p Port.detach).discard k).discardReclaims p).stopScannerOf p).leaveProposal p

/-- The completion of a DETACH that passed: the port becomes DETACHED in the step in which it is written (R176). -/
def State.completeDetach (s : State) (p : PortNo) (c : Completion) : State :=
  if s.canWrite p then ((s.ringPut p (.completion c)).modPort p fun q => { q with hand := none }).detachPort p
  else (s.modPort p fun q => { q with hand := some (.completion c true) }).join p .command

/-- The command processor writes the completion in hand at its grant. -/
def State.writeCompletion (s : State) (p : PortNo) : State :=
  match (s.port p).hand with
  | some (.completion c detach) =>
    let t := (s.ringPut p (.completion c)).modPort p fun q => { q with hand := none }
    if detach then t.detachPort p else t
  | some (.release _) | some (.settle _) | none => s

/-- A writer granted a position writes one record (R179). -/
def State.writeAs (s : State) (p : PortNo) (w : Writer) : State :=
  match w with
  | .command => s.writeCompletion p
  | .lane n => s.laneWrite n p
  | .notices => s.writeNotice p
  | .reclaim => (s.writeReclaim p).passEndCheck
  | .attention => (s.ringPut p (.attention (s.port p).summary)).modPort p fun q => { q with attnHeld := false }

/-- The writer has a further record for the port. -/
def State.hasMore (s : State) (p : PortNo) (w : Writer) : Bool :=
  match w with
  | .command => false
  | .lane n => decide ((s.lane n).owner = some p) && (s.lane n).hasRecord
  | .notices => !(s.port p).notices.isEmpty
  | .reclaim => s.hasReclaim p
  | .attention => (s.port p).attnHeld

/-- The grants of the writer arbiter (R179): while the list is not empty and a position is free, the writer at the head writes
one record and leaves the list, joining the tail again when it has a further record. -/
def State.drain (s : State) (p : PortNo) : Nat → State
  | 0 => s
  | k + 1 =>
    match (s.port p).waiting with
    | [] => s
    | w :: rest =>
      if s.attached p && decide (0 < (s.port p).free) then
        let t := (s.modPort p fun q => { q with waiting := rest }).writeAs p w
        (if t.attached p && t.hasMore p w then t.join p w else t).drain p k
      else s

end Sys2Proof.Machine
end

