-- ==== Sys2Proof/Machine/Taking.lean ====
section
/-! DEFINITION. How a port takes a command from its queue (R173, R174), and an event that is not taken. -/

namespace Sys2Proof.Machine

open Sys2Proof

/-- The answer of a step. -/
abbrev StepOutcome := Host.Outcome State Fault Refusal

/-- The oldest command of the port's queue, when the port takes commands and has none in hand: the initialisation has ended
(R187). -/
def State.front? (s : State) (p : PortNo) : Option CommandRecord :=
  if s.initialising = true ∨ (s.port p).hand.isSome = true then none else (s.port p).queue.head?

/-- The oldest command leaves the queue (R173). -/
def State.popQueue (s : State) (p : PortNo) : State := s.modPort p fun q => { q with queue := q.queue.drop 1 }

/-- An ATTACHED port takes the command at the front of its queue when its kind is `kind`, and `body` carries it out (R173). When
the port has no such command to take, the event is not taken and the state stands as it was (notes/assumptions/1.md). -/
def State.onCommand (s : State) (p : PortNo) (kind : Nat) (body : CommandRecord → State → State) : StepOutcome :=
  match s.front? p with
  | some r => if s.attached p && decide (recKind r = kind) then .next (body r (s.popQueue p)) else .next s
  | none => .next s

/-- An event whose conditions hold is taken; otherwise the state stands as it was (notes/assumptions/1.md). -/
def State.onEvent (s : State) (enabled : Bool) (t : State) : StepOutcome := if enabled then .next t else .next s

/-- A refused command: the outcome, with no result fields (R196) and no other change of state. -/
def State.refuse (s : State) (p : PortNo) (r : CommandRecord) (o : Outcome) : State := s.reply p r o []

/-- The checks of a command, in their order: the outcome of the first that fails (R177 and the commands' own rules). -/
def firstFailing : List (Bool × Outcome) → Option Outcome
  | [] => none
  | (passes, o) :: rest => if passes then firstFailing rest else some o

end Sys2Proof.Machine
end

