-- ==== Sys2Proof/Machine/LaneEvents.lean ====
section
/-! DEFINITION. A lane works through its queue: engine grants, bytes, CUT, TAG, CHECKPOINT and END items. -/

namespace Sys2Proof.Machine

open Sys2Proof

/-! ### Engines -/

/-- The head of a queue is a DATA item. -/
def headIsData : List Item → Bool
  | .data _ _ _ :: _ => true
  | .cut :: _ | .tag _ :: _ | .checkpoint :: _ | .finish :: _ | [] => false

/-- The lane is ready for a grant (R60). -/
def Lane.ready (l : Lane) : Bool :=
  decide (l.state = .active) && l.grant.isNone && !l.stalls.any && l.chunk.isNone && headIsData l.items

/-- The lowest-numbered FREE engine (R61). -/
def State.freeEngine? (s : State) : Option (Fin 8) :=
  (List.finRange 8).find? fun e => allLanes.all fun n => decide ((s.lane n).grant.map Grant.engine ≠ some e)

/-- The lanes in ascending order after the last lane granted, going from 63 back to 0 (R61). -/
def lanesAfter (last : LaneNo) : List LaneNo := (List.finRange 64).map fun k => last + 1 + k

/-- The first ready lane after the last lane granted (R61). -/
def State.nextReady? (s : State) : Option LaneNo := (lanesAfter s.lastGranted).find? fun n => (s.lane n).ready

/-- The lane record at the start of a grant (R61): the staged weight becomes active, and the quota follows it. -/
def Lane.granted (l : Lane) (e : Fin 8) : Lane :=
  let w := l.staged.getD l.weight
  { l with weight := w, staged := none, grant := some { engine := e, quota := w * Config.quotaUnit, taken := 0 } }

/-- ENGINE_GRANT (R61). -/
def execEngineGrant (s : State) : StepOutcome :=
  match s.freeEngine?, s.nextReady? with
  | some e, some n => .next { s.modLane n fun l => l.granted e with lastGranted := n }
  | _, _ => .next s

/-! ### Chunk ends -/

/-- A chunk that has ended or is unresolved has its result sought: exhaustion of the sequence aborts the lane (R67), a full
journal stalls it (R66 step 1); DESIGN CHOICE: where both hold the exhaustion goes first (notes/assumptions/9.md). `some` is the
state after either; otherwise the lookup is next. -/
def State.seekStops (s : State) (n : LaneNo) : Option State :=
  let l := s.lane n
  if l.nextSeq = none then some (s.abortLane n .sequenceExhausted)
  else if Config.journalSlots ≤ l.journal.length then some (s.journalFullStall n)
  else none

/-- The partial chunk ends with the given cut and is handed to the lane (R42); its result is sought from step 1 of R66. -/
def State.endChunk (s : State) (n : LaneNo) (cut : Cut) : State :=
  let t := s.modLane n fun l => { l with chunk := some (l.part.chunk l.offset cut), part := Partial.empty }
  (t.seekStops n).getD t

/-- After an item or a byte: STARVED when the queue has run dry (R64), and the end of the grant where it ends (R62). -/
def State.afterItem (s : State) (n : LaneNo) : State := (s.starveCheck n).grantCheck n

/-! ### Bytes -/

/-- The lane record after a byte (R31 steps 1 to 5): the partial chunk, the stream offset, the DATA item at the head, which leaves
when its bytes are all taken (R55), and the grant's count. -/
def Lane.takeByte (l : Lane) (prof : Profile) (roll : Word32) (g : Grant) (item : Nat × Nat × Nat) (rest : List Item)
    (b : Byte) : Lane :=
  { l with
      part := l.part.take prof roll l.cutSource b
      offset := l.offset + 1
      items := if item.2.2 + 1 = item.2.1 then rest else .data item.1 item.2.1 (item.2.2 + 1) :: rest
      grant := some { g with taken := g.taken + 1 } }

/-- A byte is taken for lane `n` (R31), with the boundary test of step 6. -/
def State.takeByte (s : State) (n : LaneNo) (prof : Profile) (roll : Word32) (g : Grant) (item : Nat × Nat × Nat)
    (rest : List Item) (b : Byte) : State :=
  let l := (s.lane n).takeByte prof roll g item rest b
  let t := s.setLane n l
  match boundary prof l.cutSource l.part with
  | some cut => (t.endChunk n cut).afterItem n
  | none => t.afterItem n

/-- The lane reaches the item at its head (R54), but for the engine a DATA item needs. -/
def Lane.reaches (l : Lane) : Bool := decide (l.state = .active) && !l.stalls.any && l.chunk.isNone

/-- BYTE_TAKEN (R31, R55): the engine granted to lane `n` takes the byte `b` read from controller memory. -/
def execByteTaken (n : LaneNo) (b : Byte) (s : State) : StepOutcome :=
  let l := s.lane n
  match l.grant, l.items, s.slots[l.slot].profile? with
  | some g, .data address length consumed :: rest, some (prof, roll) =>
    s.onEvent (l.reaches && decide (consumed < length)) (s.takeByte n prof roll g (address, length, consumed) rest b)
  | _, _, _ => .next s

/-! ### CUT, TAG, CHECKPOINT, END -/

/-- CUT_REACHED (R37): a partial chunk of one byte or more ends with cut ITEM; the item leaves the queue. -/
def execCutReached (n : LaneNo) (s : State) : StepOutcome :=
  let l := s.lane n
  match l.items with
  | .cut :: rest =>
    s.onEvent l.reaches <|
      let t := s.modLane n fun l => { l with items := rest }
      (if l.part.length = 0 then t else t.endChunk n .item).afterItem n
  | _ => .next s

/-- TAG_REACHED (R56): the run is closed, then the pending tag takes the value, with the overrun mark when it replaces one. -/
def execTagReached (n : LaneNo) (s : State) : StepOutcome :=
  let l := s.lane n
  match l.items with
  | .tag v :: rest =>
    s.onEvent l.reaches <|
      ((s.closeRun n).modLane n fun l =>
        { l with tag := some { value := v, overrun := l.tag.isSome }, items := rest }).afterItem n
  | _ => .next s

/-- The lane enters CHECKPOINTING or CLOSING (R57, R102): the run is closed, the item leaves the queue, the pending tag is kept for
the LANE record, the checkpoint counters are 0 and the open container is sealed. The wait may end at once (R103). -/
def State.enterCommit (s : State) (n : LaneNo) (state : LaneState) (rest : List Item) : State :=
  let t := (s.closeRun n).modLane n fun l =>
    { l with state := state, items := rest, stalls := { l.stalls with starved := false }, grant := none, keptTag := l.tag,
             tag := none, ckSettled := 0, ckWithdrawn := 0 }
  (t.sealOpen n).progress n

/-- A CHECKPOINT or END item is reached (R57, R38): a partial chunk ends first, and the item then stays at the head until the
chunk has been disposed of (notes/assumptions/7.md). -/
def State.commitItem (s : State) (n : LaneNo) (state : LaneState) (rest : List Item) : State :=
  if (s.lane n).part.length = 0 then s.enterCommit n state rest else (s.endChunk n .item).afterItem n

/-- CHECKPOINT_REACHED (R57). -/
def execCheckpointReached (n : LaneNo) (s : State) : StepOutcome :=
  match (s.lane n).items with
  | .checkpoint :: rest => s.onEvent (s.lane n).reaches (s.commitItem n .checkpointing rest)
  | _ => .next s

/-- END_REACHED (R57). -/
def execEndReached (n : LaneNo) (s : State) : StepOutcome :=
  match (s.lane n).items with
  | .finish :: rest => s.onEvent (s.lane n).reaches (s.commitItem n .closing rest)
  | _ => .next s

end Sys2Proof.Machine
end

