-- ==== Sys2Proof/Machine/ChunkEvents.lean ====
section
/-! DEFINITION. Lookups, waiter completions, and the two phases of an abort. -/

namespace Sys2Proof.Machine

open Sys2Proof

/-! ### Lookups -/

/-- The result of a chunk with an entry (R13). -/
def Entry.result (x : Entry) (kind : VerdictKind) (id : Nat) (resurrected : Bool) : Result :=
  { kind := kind, chunkId := some id, container := x.container, place := x.offset, resurrected := resurrected, reason := .none }

/-- A lookup that needs a place and gets none is not taken: the lane stalls with NO_CONTAINER (R13). -/
def State.noPlace (s : State) (n : LaneNo) : State := s.stall n fun c => { c with noContainer := true }

/-- NEW_UNINDEXED (R12): the chunk is placed, gets no entry, and is disposed of; a collision is counted with it (R14). -/
def State.lookupUnindexed (s : State) (n : LaneNo) (c : Chunk) (reason : UnindexedReason) : State :=
  match s.place n c.length with
  | (none, t) => t.noPlace n
  | (some (number, offset), t) =>
    (if reason = .collision then t.collide else t).dispose n c
      { kind := .newUnindexed, chunkId := none, container := number, place := offset, resurrected := false, reason := reason }

/-- The PENDING entry a NEW lookup creates (R8, R12). -/
def newEntry (n : LaneNo) (c : Chunk) (epoch number offset : Nat) : Entry :=
  { fingerprint := c.fingerprint, check := c.check, state := .pending n, count := 1, container := number, offset := offset,
    length := c.length, birth := epoch, lastRef := epoch }

/-- NEW (R12, R80): the chunk is placed, its PENDING entry created in slot `i` and put on the container's member list. -/
def State.lookupNew (s : State) (n : LaneNo) (c : Chunk) (b : Nat) (i : Fin 16) : State :=
  match s.place n c.length with
  | (none, t) => t.noPlace n
  | (some (number, offset), t) =>
    let ref : SlotRef := { bucket := b, slot := i, generation := (t.bucket b)[i].generation }
    let x := newEntry n c t.epoch number offset
    let u := (t.createEntry b i x).modContainer number fun k => { k with members := k.members ++ [ref] }
    u.dispose n c (x.result .new (chunkId ref) false)

/-- DUP (R12, R16): an increment of 1, flagged RESURRECTED when the entry was ZERO. -/
def State.lookupDup (s : State) (n : LaneNo) (c : Chunk) (b : Nat) (i : Fin 16) (x : Entry) : State :=
  (s.updateEntry b i (x.increment 1 s.epoch)).dispose n c (x.result .dup (idIn b (s.bucket b) i) x.isZero)

/-- A lookup that finds the entry `x` in slot `i` of bucket `b` (R12, R14, R15). -/
def State.lookupFound (s : State) (n : LaneNo) (c : Chunk) (b : Nat) (i : Fin 16) (x : Entry) : State :=
  if x.check ≠ c.check then s.lookupUnindexed n c .collision
  else
    match x.state with
    | .pending owner =>
      if owner = n then s.lookupDup n c b i x
      else s.waitOn n x.container { bucket := b, slot := i, generation := (s.bucket b)[i].generation }
    | .live | .pinned | .zero _ => s.lookupDup n c b i x

/-- The lookup of chunk `c` (R12), taken by the first row whose condition holds. A read that poisons the bucket has its entry
into PASSTHROUGH before the placement (R189). -/
def State.lookup (s : State) (n : LaneNo) (c : Chunk) : State :=
  if s.device = .passthrough then s.lookupUnindexed n c .passthrough
  else
    let b := bucketOf c.fingerprint
    match s.readBucket b with
    | (true, t) => (t.passCheck s).lookupUnindexed n c .poisoned
    | (false, t) =>
      match findFingerprint (t.bucket b) c.fingerprint with
      | some (i, x) => t.lookupFound n c b i x
      | none =>
        match freeSlot? (t.bucket b) with
        | some i => t.lookupNew n c b i
        | none => t.lookupUnindexed n c .bucketFull

/-- The lane makes a lookup: ACTIVE, with an ended chunk, no stall cause, and its turn among the waiters that repeat their lookups
(R66, R91). -/
def State.looksUp (s : State) (n : LaneNo) : Bool :=
  decide ((s.lane n).state = .active) && !(s.lane n).stalls.any && s.hasTurn n

/-- LOOKUP (R12, R66). -/
def execLookup (n : LaneNo) (errs : List DramError) (s : State) : StepOutcome :=
  match (s.lane n).chunk with
  | none => .next s
  | some c =>
    s.onEvent (s.looksUp n) <|
      let t := (s.arise errs).leaveTurn n
      (t.seekStops n).getD (t.lookup n c)

/-! ### Waiter completions -/

/-- The first waiter leaves the list kept for the completions, with the counts this raises (R86). -/
def State.countWaiter (s : State) (number : Nat) (dup : Bool) : State :=
  { s with settlings := s.settlings.map fun g =>
      if g.container = number then
        { g with waiters := g.waiters.drop 1, dups := g.dups + bit dup, repeats := g.repeats + bit (!dup) }
      else g }

/-- WAITING is removed from a waiter as it is completed (R86). -/
def Lane.endWait (l : Lane) : Lane := { l with waitTarget := none, stalls := { l.stalls with waiting := false } }

/-- The waiter's member is read (R86): its entry, when it still stands on the list and in its slot and its bucket is not
poisoned. In PASSTHROUGH no bucket is read, and the waiter repeats its lookup: every verdict there is NEW_UNINDEXED and every new
entry UNINDEXED (R99, R192). DEDUCED, against the first row of R86 (notes/assumptions/34.md). -/
def State.waiterEntry (s : State) (g : Settling) (r : SlotRef) : Option Entry × State :=
  if s.device ≠ .passthrough ∧ r ∈ g.members then
    match s.readBucket r.bucket with
    | (true, t) => (none, t)
    | (false, t) => (t.entry? r, t)
  else (none, s)

/-- A waiter is completed as a DUP flagged WAITED (R86, R66 steps 3 to 6). -/
def State.waiterDup (s : State) (n : LaneNo) (c : Chunk) (r : SlotRef) (x : Entry) : State :=
  ((s.updateEntry r.bucket r.slot (x.increment 1 s.epoch)).modLane n Lane.endWait).dispose n c
    (x.result .dup (chunkId r) x.isZero)

/-- A waiter of the settled container still has its turn to repeat its lookup (R91), so the next one's completion does not begin
(R86). -/
def State.repeatsFor (s : State) (number : Nat) : Bool := s.turns.any fun q => decide (q.settled = some number)

/-- WAITER_COMPLETION (R86): the first waiter of a settled container is completed, as a DUP or to repeat its lookup; after the
last one the SETTLE completion is made (R85). -/
def execWaiterCompletion (number : Nat) (errs : List DramError) (s : State) : StepOutcome :=
  match s.settlings.find? fun g => decide (g.container = number) with
  | none => .next s
  | some g =>
    match g.waiters with
    | [] => .next s
    | (n, r) :: _ =>
      s.onEvent (!s.repeatsFor number) <|
        let t :=
          match (s.arise errs).waiterEntry g r, (s.lane n).chunk with
          | (some x, t), some c => (t.waiterDup n c r x).countWaiter number true
          | (_, t), _ => (t.releaseWaiters [n] (some number)).countWaiter number false
        (t.passCheck s).finishSettlings

/-! ### Aborts -/

/-- ABORT_WITHDRAWAL (R110): the oldest container on an aborting lane's list is withdrawn with cause ABORTED. -/
def execAbortWithdrawal (n : LaneNo) (errs : List DramError) (s : State) : StepOutcome :=
  match (s.lane n).unsettled with
  | number :: _ =>
    s.onEvent (decide ((s.lane n).state = .aborting)) (((s.arise errs).withdrawOne number .aborted).passCheck s)
  | [] => .next s

/-- The result of a walked REF entry is counted (R111). -/
def AbortRecord.count (a : AbortRecord) : DecResult → AbortRecord
  | .released => { a with released := a.released + 1 }
  | .pinned => { a with pinned := a.pinned + 1 }
  | .stale => { a with stale := a.stale + 1 }
  | .underflow => { a with underflow := a.underflow + 1 }
  | .poisoned => { a with poisoned := a.poisoned + 1 }

/-- The newest journal entry `e`, at place `k`, is walked (R111, R190): the abort record after it, and the state. -/
def State.walkEntry (s : State) (n : LaneNo) (a : AbortRecord) (e : JournalEntry) (k : Nat) : AbortRecord × State :=
  match s.readJournalPlace n k with
  | (true, t) => (a.count .poisoned, t)
  | (false, t) =>
    match e.what with
    | .ref id =>
      let (res, u) := t.decrement id
      (a.count res, u)
    | .unindexed _ _ => ({ a with skipped := a.skipped + 1 }, t)

/-- The lane walks its journal: ABORTING, its containers withdrawn and the walk not ended (R110, R111). -/
def Lane.walks (l : Lane) (a : AbortRecord) : Bool :=
  decide (l.state = .aborting) && decide (l.unsettled = []) && !a.walkEnded

/-- WALK_STEP (R111). -/
def execWalkStep (n : LaneNo) (errs : List DramError) (s : State) : StepOutcome :=
  let l := s.lane n
  match l.abort, l.journal.getLast? with
  | some a, some e =>
    s.onEvent (l.walks a) <|
      let (a', t) := (s.arise errs).walkEntry n a e (l.journal.length - 1)
      let u := t.modLane n fun l => { l with journal := l.journal.dropLast, abort := some a' }
      (u.passCheck s).walkCheck n
  | _, _ => .next s

end Sys2Proof.Machine
end

