-- ==== Sys2Proof/Machine/ConsentCommands.lean ====
section
/-! DEFINITION. PROPOSE, CONSENT and WITHDRAW. -/

namespace Sys2Proof.Machine

open Sys2Proof

/-- The payload of the proposal is valid (R146, R28, R142). -/
def ProposalBody.valid : ProposalBody → Bool
  | .profileInstall _ p => p.valid
  | .policy p => p.valid
  | .profileRetire _ | .serviceStart | .deviceReset => true

/-- The condition of R146 on the target slot or the device state. -/
def State.mayPropose (s : State) : ProposalBody → Bool
  | .profileInstall i _ => s.slots[i].isEmpty
  | .profileRetire i => s.slots[i].isActive
  | .serviceStart => decide (s.device = .rebuild)
  | .policy _ | .deviceReset => true

/-- The checks of a PROPOSE after its encodings (R146). -/
def State.proposeChecks (s : State) (b : ProposalBody) : List (Bool × Outcome) :=
  [(b.valid, .badParam), (s.proposal.isNone, .busy), (s.mayPropose b, .refusedState)]

/-- The proposal a PROPOSE opens (R147): required of every other attached port, with the consent window as its deadline. -/
def State.openedProposal (s : State) (p : PortNo) (b : ProposalBody) : Proposal :=
  { body := b, proposer := p, required := allPorts.filter fun q => decide (q ≠ p) && s.attached q, received := [],
    deadline := some (s.policy.consentWindow * 1000) }

/-- The outcome with which the proposal just applied ended, as a result field (R148): APPLIED, or VOIDED for a SERVICE_START that
finds the device out of REBUILD, DESIGN CHOICE (R154; notes/assumptions/36.md). -/
def State.endingFields (s : State) : List Field :=
  match s.lastEnded with
  | some e => [.num 1 e.outcome.code]
  | none => []

/-- PROPOSE (R146, R147): a proposal that no port need consent to applies in the same step, before the completion. -/
def execPropose (p : PortNo) (errs : List DramError) (s : State) : StepOutcome :=
  s.onCommand p 0x17 fun r s =>
    match recProposal? r with
    | none => s.refuse p r .badParam
    | some b =>
      match firstFailing (s.proposeChecks b) with
      | some o => s.refuse p r o
      | none =>
        let q := s.openedProposal p b
        let t : State := { s.arise errs with proposal := some q }
        if q.required = [] then
          let u := t.applyProposal
          u.reply p r .ok (.num 1 0 :: u.endingFields)
        else
          (t.setFlags q.required .consentOpen .none).reply p r .ok
            [.num 1 (maskOf (q.required.map Fin.val)), .num 4 (q.deadline.getD 0)]

/-- A CONSENT judged against the open proposal `q` (R148): an equal copy joins the received set and may apply the proposal; a
different copy rejects it. -/
def State.consentTo (s : State) (p : PortNo) (r : CommandRecord) (b : ProposalBody) (q : Proposal) : State :=
  if b = q.body then
    let q' : Proposal := { q with received := joinSet q.received p }
    let t : State := { s with proposal := some q' }
    let mask : Field := .num 1 (maskOf (q'.received.map Fin.val))
    if q'.complete then
      let u := t.applyProposal
      u.reply p r .ok (mask :: u.endingFields)
    else t.reply p r .ok [mask]
  else (s.endProposal .rejected).reply p r .ok [.num 1 ProposalOutcome.rejected.code]

/-- CONSENT (R148). -/
def execConsent (p : PortNo) (errs : List DramError) (s : State) : StepOutcome :=
  s.onCommand p 0x18 fun r s =>
    match recProposal? r with
    | none => s.refuse p r .badParam
    | some b =>
      match s.proposal with
      | none => s.refuse p r (if s.lastEnded.map Ending.body = some b then .late else .unknown)
      | some q => if p ∈ q.required then (s.arise errs).consentTo p r b q else s.refuse p r .notRequired

/-- WITHDRAW (R149). -/
def execWithdraw (p : PortNo) (s : State) : StepOutcome :=
  s.onCommand p 0x19 fun r s =>
    match s.proposal with
    | none => s.refuse p r .unknown
    | some q => if q.proposer = p then (s.endProposal .withdrawn).reply p r .ok [] else s.refuse p r .notOwner

end Sys2Proof.Machine
end

