-- ==== Sys2Proof/Machine/EpochCommands.lean ====
section
/-! DEFINITION. The commands of the epoch unit, of the hold table and of the reclaim scanner. -/

namespace Sys2Proof.Machine

open Sys2Proof

/-! ### Epochs -/

/-- EPOCH_ADVANCE (R119, R118): a request with source COMMAND, taken in the same step. -/
def execEpochAdvance (p : PortNo) (errs : List DramError) (s : State) : StepOutcome :=
  s.onCommand p 0x0F fun r s =>
    if s.policy.triggers.command then
      let (d, t) := (s.arise errs).requestAdvance
      t.reply p r .ok (.num 1 d.code :: t.epochFields)
    else s.refuse p r .refusedState

/-- EPOCH_FREEZE (R122). -/
def execEpochFreeze (p : PortNo) (s : State) : StepOutcome :=
  s.onCommand p 0x10 fun r s =>
    let t := s.modPort p fun q => { q with freeze := true }
    t.reply p r .ok t.epochFields

/-- EPOCH_THAW (R124). -/
def execEpochThaw (p : PortNo) (errs : List DramError) (s : State) : StepOutcome :=
  s.onCommand p 0x11 fun r s =>
    let t := (s.arise errs).clearFreeze p
    t.reply p r .ok t.epochFields

/-! ### Holds -/

/-- The lowest-numbered empty place of the hold table. -/
def State.emptyHold? (s : State) : Option (Fin 16) := (List.finRange 16).find? fun i => s.holds[i].isNone

/-- HOLD_PLACE (R126). -/
def execHoldPlace (p : PortNo) (s : State) : StepOutcome :=
  s.onCommand p 0x12 fun r s =>
    let first := numAt r 4 4
    let last := numAt r 8 4
    if 1 ≤ first ∧ first ≤ last then
      match s.emptyHold? with
      | none => s.refuse p r .full
      | some i =>
        let h : Hold := { placer := p, first := first, last := last, label := numAt r 16 8 }
        State.reply { s with holds := s.holds.set i (some h) } p r .ok [.num 1 i.val, .num 4 s.epoch]
    else s.refuse p r .badParam

/-- HOLD_LIFT (R127). -/
def execHoldLift (p : PortNo) (s : State) : StepOutcome :=
  s.onCommand p 0x13 fun r s =>
    match holdOf? (byteAt r 4) with
    | none => s.refuse p r .badParam
    | some i =>
      match s.holds[i] with
      | none => s.refuse p r .unknown
      | some h =>
        if h.placer = p then
          State.reply { s with holds := s.holds.set i none } p r .ok [.num 4 h.first, .num 4 h.last, .num 8 h.label]
        else s.refuse p r .notOwner

/-- The holds of the table in ascending number, with their numbers. -/
def State.holdsHeld (s : State) : List (Fin 16 × Hold) := (List.finRange 16).filterMap fun i => s.holds[i].map fun h => (i, h)

/-- The fields of one hold (R125): number, placer port, from, to, label. -/
def holdFields (h : Fin 16 × Hold) : List Field :=
  [.num 1 h.1.val, .num 1 h.2.placer.val, .num 4 h.2.first, .num 4 h.2.last, .num 8 h.2.label]

/-- A place for a hold not returned: absent fields as R196 states. -/
def noHoldFields : List Field := [.num 1 0xFF, .num 1 0xFF, .num 4 0, .num 4 0, .num 8 0]

/-- The fields of HOLD_LIST (R128): the number of holds, three places, the number returned, the next start number. -/
def State.holdListFields (s : State) (start : Nat) : List Field :=
  let held := s.holdsHeld
  let later := held.filter fun h => decide (start ≤ h.1.val)
  let page := later.take 3
  let next := if later.length ≤ 3 then 16 else (page.getLast?.map fun h => h.1.val + 1).getD 16
  [.num 2 held.length] ++ ((List.range 3).flatMap fun i => (page[i]?.map holdFields).getD noHoldFields) ++
  [.num 1 page.length, .num 1 next]

/-- HOLD_LIST (R128). -/
def execHoldList (p : PortNo) (s : State) : StepOutcome :=
  s.onCommand p 0x14 fun r s =>
    let start := byteAt r 4
    if start ≤ 15 then s.reply p r .ok (s.holdListFields start) else s.refuse p r .badParam

/-! ### Sweeps -/

/-- SWEEP_START (R131): ACCEPTED, and the scanner scans for the sending port. -/
def execSweepStart (p : PortNo) (s : State) : StepOutcome :=
  s.onCommand p 0x15 fun r s =>
    match sweepModeOf? (byteAt r 4), originIsStart? (byteAt r 5) with
    | some mode, some fromStart =>
      match firstFailing [(decide (s.device = .service), .refusedState), (decide (s.scanner.state = .idle), .busy)] with
      | some o => s.refuse p r o
      | none =>
        let c : Scanner :=
          { s.scanner with
              state := .scanning, mode := mode, requester := some p, finishing := false,
              cursor := if fromStart then 0 else s.scanner.cursor }
        State.reply { s with scanner := c } p r .accepted []
    | _, _ => s.refuse p r .badParam

/-- SWEEP_STOP (R132): the scanner's state before the step and its cursor are answered. -/
def execSweepStop (p : PortNo) (s : State) : StepOutcome :=
  s.onCommand p 0x16 fun r s =>
    if s.scanner.requester.all fun q => decide (q = p) then
      State.reply { s with scanner := s.scanner.stop } p r .ok [.num 1 s.scanner.state.code, .num 4 s.scanner.cursor]
    else s.refuse p r .notOwner

end Sys2Proof.Machine
end

