-- ==== Sys2Proof/Machine/IndexCommands.lean ====
section
/-! DEFINITION. The commands of the index and of settlement: SETTLE, RELEASE and its decrements, INSERT, QUERY by fingerprint and
by chunk ID. -/

namespace Sys2Proof.Machine

open Sys2Proof

/-! ### SETTLE -/

/-- The lane owning the container is not ORPHANED, and the container is SEALED (R84). -/
def State.settleChecks (s : State) (p : PortNo) (c : Container) : List (Bool × Outcome) :=
  [(decide (c.ownerPort = p), .notOwner), (!s.isOrphaned c.ownerLane, .refusedState), (!c.isOpen, .refusedState)]

/-- The settlement step of a container (R85 steps 1 to 3): the members take their settled states, the container leaves the table
and its lane's list, and its waiter list is kept. The lanes holding NO_CONTAINER are retested (R76). -/
def State.settleContainer (s : State) (p : PortNo) (tag : Nat) (c : Container) : State :=
  let (k, z, t) := c.members.foldl (settleMember c.number) (0, 0, s)
  let u := t.loseContainer c true
  let g : Settling :=
    { container := c.number, sender := p, stray := false, tag := tag,
      members := ((t.container? c.number).map Container.members).getD [], settled := k, zeros := z, dups := 0, repeats := 0,
      waiters := c.waiters }
  State.retest { u with settlings := u.settlings ++ [g] }

/-- SETTLE (R84, R85): the completion is made when no waiter remains, in this step when the list is empty. -/
def execSettle (p : PortNo) (errs : List DramError) (s : State) : StepOutcome :=
  s.onCommand p 0x0B fun r s =>
    let number := numAt r 4 4
    if number = 0 then s.refuse p r .badParam
    else
      match s.container? number with
      | none => s.refuse p r (if number ∈ (s.port p).recent then .late else .unknown)
      | some c =>
        match firstFailing (s.settleChecks p c) with
        | some o => s.refuse p r o
        | none =>
          let t := (s.arise errs).modPort p fun q => { q with hand := some (.settle number) }
          let u := (t.settleContainer p (recTag r) c).passCheck s
          (u.progress c.ownerLane).finishSettlings

/-! ### RELEASE -/

/-- The checks of a RELEASE (R114). -/
def State.releaseChecks (s : State) (r : CommandRecord) : List (Bool × Outcome) :=
  [(decide (s.device ≠ .passthrough), .refusedState), (decide (1 ≤ byteAt r 1) && decide (byteAt r 1 ≤ 12), .badParam)]

/-- RELEASE (R114): the command stays in hand with its decrements to take. -/
def execRelease (p : PortNo) (s : State) : StepOutcome :=
  s.onCommand p 0x0C fun r s =>
    match firstFailing (s.releaseChecks r) with
    | some o => s.refuse p r o
    | none =>
      s.modPort p fun q => { q with hand := some (.release { tag := recTag r, ids := recReleaseIds r, results := [] }) }

/-- The RELEASE completion: one result for each ID, in the order given (R114, R196). -/
def ReleaseWork.completion (w : ReleaseWork) : Completion :=
  { kind := 0x0C, tag := w.tag, outcome := .ok, fields := releaseFields w.results }

/-- The next decrement of a RELEASE (R18, R114): the work after it, and the state. -/
def State.releaseOne (s : State) (w : ReleaseWork) : ReleaseWork × State :=
  match w.ids with
  | [] => (w, s)
  | id :: rest =>
    let (res, t) := s.decrement id
    ({ w with ids := rest, results := w.results ++ [res] }, t.passCheck s)

/-- RELEASE_DECREMENT (R18, R114): one decrement of a RELEASE at work; after the last one its completion is made, which is
discarded and counted when its port has entered fail-safe since (R158). -/
def execReleaseDecrement (work : ReleaseRef) (errs : List DramError) (s : State) : StepOutcome :=
  match work with
  | .inHand p =>
    match (s.port p).hand with
    | some (.release w) =>
      let (w', t) := (s.arise errs).releaseOne w
      .next <|
        if w'.ids = [] then t.complete p w'.completion
        else t.modPort p fun q => { q with hand := some (.release w') }
    | some (.settle _) | some (.completion _ _) | none => .next s
  | .stray i =>
    match s.strayReleases[i]? with
    | none => .next s
    | some w =>
      let (w', t) := (s.arise errs).releaseOne w
      .next <|
        if w'.ids = [] then State.discard { t with strayReleases := t.strayReleases.eraseIdx i } 1
        else { t with strayReleases := t.strayReleases.set i w' }

/-! ### INSERT -/

/-- The checks of an INSERT (R20). -/
def State.insertChecks (s : State) (r : CommandRecord) : List (Bool × Outcome) :=
  let offset := numAt r 12 4
  let length := numAt r 16 4
  [(decide (s.device ≠ .passthrough), .refusedState), (decide (1 ≤ numAt r 8 4), .badParam),
   (decide (offset % 64 = 0) && decide (offset ≤ 4194240), .badParam),
   (decide (1 ≤ length) && decide (length ≤ Config.maxChunk), .badParam),
   (decide (offset + length ≤ Config.containerSize), .badParam),
   (decide (1 ≤ numAt r 20 4) && decide (numAt r 20 4 ≤ Config.maxCount), .badParam)]

/-- The container counter is raised to the INSERT's container + 1 when it stands lower (R22). -/
def State.raiseCounter (s : State) (number : Nat) : State := { s with counter := max s.counter (number + 1) }

/-- The entry an INSERT creates (R21). -/
def insertedEntry (r : CommandRecord) (epoch : Nat) : Entry :=
  let count := numAt r 20 4
  { fingerprint := recFingerprint r, check := BitVec.ofNat 32 (numAt r 4 4),
    state := if count = Config.maxCount then .pinned else .live, count := count, container := numAt r 8 4,
    offset := numAt r 12 4, length := numAt r 16 4, birth := epoch, lastRef := epoch }

/-- The INSERT at its bucket (R21): outcome, result fields, and the state. DESIGN CHOICE: EXISTS with the mismatch mark carries the
count the entry stands at, as no increment is made (notes/assumptions/40.md). -/
def State.insertAt (s : State) (r : CommandRecord) : Outcome × List Field × State :=
  let n := bucketOf (recFingerprint r)
  match s.readBucket n with
  | (true, t) => (.poisoned, [], t)
  | (false, t) =>
    let b := t.bucket n
    match findFingerprint b (recFingerprint r) with
    | some (i, x) =>
      if x.check = BitVec.ofNat 32 (numAt r 4 4) then
        let y := x.increment (numAt r 20 4) t.epoch
        (.exists_, [.num 5 (idIn n b i), .num 4 y.count, .num 1 0], t.updateEntry n i y)
      else (.exists_, [.num 5 (idIn n b i), .num 4 x.count, .num 1 1], t.collide)
    | none =>
      match freeSlot? b with
      | some i => (.ok, [.num 5 (idIn n b i)], t.createEntry n i (insertedEntry r t.epoch))
      | none => (.full, [], t)

/-- INSERT (R20, R21, R22). -/
def execInsert (p : PortNo) (errs : List DramError) (s : State) : StepOutcome :=
  s.onCommand p 0x0D fun r s =>
    match firstFailing (s.insertChecks r) with
    | some o => s.refuse p r o
    | none =>
      let (o, fs, t) := ((s.arise errs).raiseCounter (numAt r 8 4)).insertAt r
      (t.passCheck s).reply p r o fs

/-! ### QUERY -/

/-- The snapshot of an entry (R23): its chunk ID, the fields of R5, absent ones as R196 states, and the current epoch. -/
def Entry.snapshot (x : Entry) (id epoch : Nat) : List Field :=
  [.num 5 id, .raw x.fingerprint, .num 4 x.check.toNat, .num 1 x.state.code, .num 4 x.count, .num 4 x.container,
   .num 4 x.offset, .num 4 x.length, .num 4 x.birth, .num 4 x.lastRef,
   .num 4 (match x.state with | .zero z => z | _ => 0), .num 1 (match x.state with | .pending n => n.val | _ => 0xFF),
   .num 4 epoch]

/-- A QUERY at the front of the queue with the given selector. A selector byte that names neither is answered BAD_PARAM (R195),
by the row of either selector (notes/assumptions/19.md). -/
def State.onQuery (s : State) (p : PortNo) (selector : Nat) (body : CommandRecord → State → State) : StepOutcome :=
  match s.front? p with
  | some r =>
    if s.attached p && decide (recKind r = 0x0E) then
      if byteAt r 4 = selector then .next (body r (s.popQueue p))
      else if 2 ≤ byteAt r 4 then .next ((s.popQueue p).refuse p r .badParam)
      else .next s
    else .next s
  | none => .next s

/-- What a QUERY by fingerprint finds (R23): outcome, result fields, and the state. -/
def State.queryFingerprint (s : State) (fp : List Byte) : Outcome × List Field × State :=
  let n := bucketOf fp
  match s.readBucket n with
  | (true, t) => (.poisoned, [], t)
  | (false, t) =>
    match findFingerprint (t.bucket n) fp with
    | some (i, x) => (.ok, x.snapshot (idIn n (t.bucket n) i) t.epoch, t)
    | none => (.unknown, [], t)

/-- What a QUERY by chunk ID finds (R24). -/
def State.queryId (s : State) (id : Nat) : Outcome × List Field × State :=
  let ref := decodeId id
  match s.readBucket ref.bucket with
  | (true, t) => (.poisoned, [], t)
  | (false, t) =>
    match t.entry? ref with
    | some x => (.ok, x.snapshot id t.epoch, t)
    | none => (.stale, [.num 4 (t.bucket ref.bucket)[ref.slot].generation], t)

/-- QUERY_BY_FINGERPRINT (R23). -/
def execQueryByFingerprint (p : PortNo) (errs : List DramError) (s : State) : StepOutcome :=
  s.onQuery p 0 fun r s =>
    let (o, fs, t) := (s.arise errs).queryFingerprint (recFingerprint r)
    (t.passCheck s).reply p r o fs

/-- QUERY_BY_CHUNK_ID (R24). -/
def execQueryByChunkId (p : PortNo) (errs : List DramError) (s : State) : StepOutcome :=
  s.onQuery p 1 fun r s =>
    let (o, fs, t) := (s.arise errs).queryId (recChunkId r)
    (t.passCheck s).reply p r o fs

end Sys2Proof.Machine
end

