-- ==== Sys2Proof/Machine/LaneCommands.lean ====
section
/-! DEFINITION. The lane commands: OPEN_LANE, FEED, MARK, SET_LANE_WEIGHT, LANE_STATUS, ABORT_LANE, ADOPT_LANE, READ_JOURNAL. -/

namespace Sys2Proof.Machine

open Sys2Proof

/-! ### OPEN_LANE -/

/-- The settings an OPEN_LANE carries, when each is a value it can take and the weight is 1 to 15 (R50). -/
structure LaneSettings where
  slot : Fin 4
  cutSource : CutSource
  action : FailAction
  weight : Nat
  coalescing : Coalescing
  label : Nat
  deriving DecidableEq, Repr

/-- Reads the settings of an OPEN_LANE record; `none` when the second check of R50 fails. -/
def laneSettings? (r : CommandRecord) : Option LaneSettings :=
  match slotOf? (byteAt r 4), cutSourceOf? (byteAt r 5), failActionOf? (byteAt r 6), coalescingOf? (byteAt r 8) with
  | some slot, some source, some action, some coal =>
    if 1 ≤ byteAt r 7 ∧ byteAt r 7 ≤ 15 then
      some { slot := slot, cutSource := source, action := action, weight := byteAt r 7, coalescing := coal, label := numAt r 16 8 }
    else none
  | _, _, _, _ => none

/-- The lowest-numbered FREE lane. -/
def State.freeLane? (s : State) : Option LaneNo := allLanes.find? fun n => decide ((s.lane n).state = .free)

/-- The record of a lane just opened (R51). -/
def openedLane (p : PortNo) (g : LaneSettings) : Lane :=
  { Lane.free with
      state := .active
      owner := some p
      label := g.label
      slot := g.slot
      cutSource := g.cutSource
      action := g.action
      coalescing := g.coalescing
      weight := g.weight
      stalls := { Stalls.clear with starved := true } }

/-- The lane is taken (R51): its record, its slot's use, and its expired mark cleared (R163). -/
def State.openLane (s : State) (n : LaneNo) (p : PortNo) (g : LaneSettings) : State :=
  let t := s.setLane n (openedLane p g)
  { t with slots := t.slots.set g.slot t.slots[g.slot].takeUse, expired := t.expired.set n false }

/-- OPEN_LANE (R50, R51). -/
def execOpenLane (p : PortNo) (s : State) : StepOutcome :=
  s.onCommand p 0x03 fun r s =>
    if s.device = .rebuild then s.refuse p r .refusedState
    else
      match laneSettings? r with
      | none => s.refuse p r .badParam
      | some g =>
        if s.slots[g.slot].isActive = false then s.refuse p r .badParam
        else
          match s.freeLane? with
          | none => s.refuse p r .full
          | some n => (s.openLane n p g).reply p r .ok [.num 1 n.val]

/-! ### FEED, MARK, SET_LANE_WEIGHT -/

/-- The checks of R52 after the parameters, for a lane and the states it may be in. -/
def State.itemChecks (s : State) (p : PortNo) (n : LaneNo) (states : List LaneState) : List (Bool × Outcome) :=
  let l := s.lane n
  [(decide (l.state ≠ .free), .refusedState), (decide (l.owner = some p), .notOwner), (decide (l.state ∈ states), .refusedState)]

/-- The END check and the 32-item check of R52. -/
def Lane.queueChecks (l : Lane) : List (Bool × Outcome) :=
  [(decide (Item.finish ∉ l.items), .refusedState), (decide (l.items.length < Config.itemSlots), .full)]

/-- An item joins the queue's tail, which removes STARVED (R52, R64). -/
def Lane.append (l : Lane) (i : Item) : Lane :=
  { l with items := l.items ++ [i], stalls := { l.stalls with starved := false } }

/-- The append of an item by FEED or MARK (R52): the completion carries the number of items after it. -/
def State.appendItem (s : State) (p : PortNo) (r : CommandRecord) (n : LaneNo) (i : Item) : State :=
  match firstFailing (s.itemChecks p n [.active, .checkpointing] ++ (s.lane n).queueChecks) with
  | some o => s.refuse p r o
  | none =>
    let t := s.modLane n fun l => l.append i
    t.reply p r .ok [.num 2 (t.lane n).items.length]

/-- FEED (R52): a DATA item of 1 to 16,777,216 bytes. -/
def execFeed (p : PortNo) (s : State) : StepOutcome :=
  s.onCommand p 0x04 fun r s =>
    let len := numAt r 16 4
    match laneOf? (recLane r) with
    | none => s.refuse p r .badParam
    | some n =>
      if 1 ≤ len ∧ len ≤ 16777216 then s.appendItem p r n (.data (numAt r 8 8) len 0) else s.refuse p r .badParam

/-- MARK (R52): a CUT, TAG, CHECKPOINT or END item. -/
def execMark (p : PortNo) (s : State) : StepOutcome :=
  s.onCommand p 0x05 fun r s =>
    match laneOf? (recLane r), markItem? (byteAt r 5) (numAt r 8 4) with
    | some n, some i => s.appendItem p r n i
    | _, _ => s.refuse p r .badParam

/-- SET_LANE_WEIGHT (R58): the staged weight takes the given value. -/
def execSetLaneWeight (p : PortNo) (s : State) : StepOutcome :=
  s.onCommand p 0x06 fun r s =>
    let w := byteAt r 5
    match laneOf? (recLane r) with
    | none => s.refuse p r .badParam
    | some n =>
      if 1 ≤ w ∧ w ≤ 15 then
        match firstFailing (s.itemChecks p n [.active, .checkpointing, .closing]) with
        | some o => s.refuse p r o
        | none => (s.modLane n fun l => { l with staged := some w }).reply p r .ok []
      else s.refuse p r .badParam

/-! ### LANE_STATUS -/

/-- A one-byte number, #FF when absent (R196). -/
def byteOr (x : Option Nat) : Field := .num 1 (x.getD 0xFF)

/-- The snapshot of a lane record (R59), absent fields as R196 states. -/
def Lane.snapshot (l : Lane) (n : LaneNo) : List Field :=
  if l.state = .free then
    [.num 1 n.val, .num 1 l.state.code, byteOr none, .num 1 0, .num 8 0, byteOr none, .num 1 0, .num 1 0, .num 1 0,
     .num 1 0, .num 1 0, .num 8 0, .num 4 0, .num 4 0, .num 1 0, .num 2 0, .num 1 0, .num 4 0, .num 1 0, .num 1 0, .num 1 0,
     .num 1 0, .num 1 0, .num 1 0, .num 2 0, .num 2 0, .num 1 0, .num 4 0, byteOr none, .num 4 0, .num 2 0, .num 4 0]
  else
    [.num 1 n.val, .num 1 l.state.code, byteOr ((l.owner.orElse fun _ => l.former).map Fin.val),
     .num 1 ((l.resume.map LaneState.code).getD 0), .num 8 l.label, .num 1 l.slot.val, .num 1 l.cutSource.code,
     .num 1 l.action.code, .num 1 l.coalescing.code,
     .num 1 l.weight, .num 1 (l.staged.getD 0),
     .num 8 l.offset.toNat, .num 4 (l.nextSeq.getD 0), .num 4 l.part.length, .num 1 (bit l.chunk.isSome),
     .num 2 l.items.length, .num 1 ((l.items.head?.map Item.code).getD 0),
     .num 4 (tagValue l.tag), .num 1 (bit ((l.tag.map Tag.overrun).getD false)),
     .num 1 ((l.run.map fun r => r.elems.length).getD 0),
     .num 1 (bit (match l.held with | some (.verdict _) => true | _ => false)),
     .num 1 l.cls.code, .num 1 ((l.candidate.map LaneClass.code).getD 0), .num 1 l.agreement, .num 2 l.windowChunks,
     .num 2 l.windowDups,
     .num 1 l.stalls.code, .num 4 (l.waitTarget.getD 0), byteOr (l.grant.map fun g => g.engine.val), .num 4 (l.openC.getD 0),
     .num 2 l.unsettled.length, .num 4 l.journal.length]

/-- LANE_STATUS (R59). -/
def execLaneStatus (p : PortNo) (s : State) : StepOutcome :=
  s.onCommand p 0x07 fun r s =>
    match laneOf? (recLane r) with
    | none => s.refuse p r .badParam
    | some n => s.reply p r .ok ((s.lane n).snapshot n)

/-! ### ABORT_LANE, ADOPT_LANE, READ_JOURNAL -/

/-- The quiet interval has passed since the lane's former port's fail-safe time (R164). -/
def State.quietPassed (s : State) (n : LaneNo) : Bool :=
  match (s.lane n).former with
  | some q =>
    match (s.port q).failSafeTime with
    | some t => decide (t + s.policy.quiet ≤ s.now)
    | none => false
  | none => false

/-- The checks of ABORT_LANE after the lane number (R108). -/
def State.abortChecks (s : State) (p : PortNo) (n : LaneNo) : List (Bool × Outcome) :=
  let l := s.lane n
  [(decide (l.state ∈ [.active, .checkpointing, .closing, .orphaned]), .refusedState),
   (l.owner.isNone || decide (l.owner = some p), .notOwner),
   (!s.isOrphaned n || s.quietPassed n, .tooEarly)]

/-- ABORT_LANE (R108): ACCEPTED, and the lane is aborted in the same step (R109). -/
def execAbortLane (p : PortNo) (s : State) : StepOutcome :=
  s.onCommand p 0x08 fun r s =>
    match laneOf? (recLane r) with
    | none => s.refuse p r .badParam
    | some n =>
      match firstFailing (s.abortChecks p n) with
      | some o => s.refuse p r o
      | none => (s.reply p r .accepted []).abortLane n .command

/-- The checks of ADOPT_LANE after the lane number (R166). -/
def State.adoptChecks (s : State) (n : LaneNo) : List (Bool × Outcome) :=
  [(s.isOrphaned n, if s.expired[n] then .late else .refusedState), (s.quietPassed n, .tooEarly)]

/-- The lane record at its adoption (R167): the ADOPTED record is made, in the place of the held verdict, and the lane holds
RING_FULL until it is written (R168). -/
def Lane.adopt (l : Lane) (n : LaneNo) (p : PortNo) : Lane :=
  let resume := l.resume.getD .active
  { l with
      owner := some p
      former := none
      resume := none
      state := resume
      held := some (.adopted (l.adoptedRecord n (l.former.getD p) resume))
      stalls := { l.stalls with ringFull := true } }

/-- A lane is adopted by a port (R167), all but the writing of its ADOPTED record. -/
def State.adopt (s : State) (n : LaneNo) (p : PortNo) : State :=
  let t := s.modLane n fun l => l.adopt n p
  let u : State := { t with
    orphanTimers := t.orphanTimers.set n none
    table := t.table.map fun c => if c.ownerLane = n then { c with ownerPort := p } else c }
  u.retest

/-- ADOPT_LANE (R166, R167, R168). -/
def execAdoptLane (p : PortNo) (s : State) : StepOutcome :=
  s.onCommand p 0x09 fun r s =>
    match laneOf? (recLane r) with
    | none => s.refuse p r .badParam
    | some n =>
      match firstFailing (s.adoptChecks n) with
      | some o => s.refuse p r o
      | none => ((s.reply p r .ok [.num 1 n.val]).adopt n p).kick n

/-- The checks of READ_JOURNAL after its parameters (R115). -/
def State.journalChecks (s : State) (p : PortNo) (n : LaneNo) : List (Bool × Outcome) :=
  let l := s.lane n
  [(decide (l.state ≠ .free), .refusedState), (l.owner.isNone || decide (l.owner = some p), .notOwner),
   (l.owner.isSome || s.quietPassed n, .tooEarly)]

/-- The journal entries from `start` on, up to `k`, each read from stacked DRAM (R116, R190): their bytes, and the state. -/
def State.readEntries (s : State) (n : LaneNo) (start : Nat) : Nat → List (List Byte) × State
  | 0 => ([], s)
  | k + 1 =>
    match (s.lane n).journal[start]? with
    | none => ([], s)
    | some e =>
      let (damaged, t) := s.readJournalPlace n start
      let (rest, u) := t.readEntries n (start + 1) k
      ((if damaged then damagedBytes else journalBytes e) :: rest, u)

/-- The fields of READ_JOURNAL (R116): lane, count, oldest sequence, six places of 16 bytes of which those not returned are zero,
and the number returned. -/
def journalFields (n : LaneNo) (j : List JournalEntry) (es : List (List Byte)) : List Field :=
  [.num 1 n.val, .num 4 j.length, .num 4 ((j.head?.map JournalEntry.seq).getD 0)] ++
  (List.range 6).map (fun i => .raw (es.getD i (List.replicate 16 0))) ++ [.num 1 es.length]

/-- READ_JOURNAL (R115, R116). -/
def execReadJournal (p : PortNo) (errs : List DramError) (s : State) : StepOutcome :=
  s.onCommand p 0x0A fun r s =>
    let start := numAt r 8 4
    match laneOf? (recLane r) with
    | none => s.refuse p r .badParam
    | some n =>
      if start ≤ 262143 then
        match firstFailing (s.journalChecks p n) with
        | some o => s.refuse p r o
        | none =>
          let (es, t) := (s.arise errs).readEntries n start 6
          t.reply p r .ok (journalFields n (t.lane n).journal es)
      else s.refuse p r .badParam

end Sys2Proof.Machine
end

