-- ==== Sys2Proof/Machine/LinkEvents.lean ====
section
/-! DEFINITION. The events of links and timers: LINK_RESET, DMA_FAILURE and the five expiries. A timer's expiry is taken when the
timer is RUNNING with no time remaining (notes/assumptions/2.md). -/

namespace Sys2Proof.Machine

open Sys2Proof

/-- A link reset reaches the port unit (R157): an ATTACHED port enters fail-safe, any other has its queue emptied. -/
def State.linkReset (s : State) (p : PortNo) : State :=
  if s.attached p then s.failSafe p else s.modPort p fun q => { q with queue := [] }

/-- LINK_RESET (R157). -/
def execLinkReset (p : PortNo) (errs : List DramError) (s : State) : StepOutcome := .next ((s.arise errs).linkReset p)

/-- The ring position of the record last written. -/
def Port.lastPosition (q : Port) (size : Nat) : Nat := if q.producer = 0 then size - 1 else q.producer - 1

/-- The record of a failed ring write is not in the controller's memory, and is discarded and counted (R157, R158;
notes/assumptions/15.md). DESIGN CHOICE: its position then shows no record, also where one of an earlier pass over the ring stood
(notes/assumptions/37.md). -/
def State.loseRecord (s : State) (p : PortNo) : State :=
  match (s.port p).ring with
  | none => s
  | some g =>
    let a := ringAddress g ((s.port p).lastPosition g.size)
    if sparseGet [] s.memory[p] a = [] then s
    else State.discard { s with memory := s.memory.set p (sparsePut [] s.memory[p] a []) } 1

/-- DMA_FAILURE (R157): a failed access of a port is taken as a link reset of it; a byte that was being read is not taken. DESIGN
CHOICE: a ring write that fails once its port is no longer ATTACHED loses no record (notes/assumptions/39.md). -/
def execDmaFailure (p : PortNo) (access : DmaAccess) (errs : List DramError) (s : State) : StepOutcome :=
  let t := s.arise errs
  match access with
  | .extentRead => .next (t.linkReset p)
  | .ringWrite => .next ((if t.attached p then t.loseRecord p else t).linkReset p)

/-- WATCHDOG_EXPIRY (R156). -/
def execWatchdogExpiry (p : PortNo) (errs : List DramError) (s : State) : StepOutcome :=
  s.onEvent (s.attached p && decide ((s.port p).watchdog = some 0)) ((s.arise errs).failSafe p)

/-- The container is SEALED and its settle deadline has no time remaining. -/
def Container.expired (c : Container) : Bool :=
  match c.state with
  | .opened => false
  | .sealed _ deadline => decide (deadline = some 0)

/-- SETTLE_DEADLINE_EXPIRY (R87): the container is withdrawn with cause EXPIRED, and SETTLE_EXPIRED is set at its owner port.
DESIGN CHOICE: a record the withdrawal lets the owner lane write comes before the flag's ATTENTION record
(notes/assumptions/33.md). -/
def execSettleDeadlineExpiry (number : Nat) (errs : List DramError) (s : State) : StepOutcome :=
  match s.container? number with
  | none => .next s
  | some c =>
    s.onEvent c.expired <|
      ((((s.arise errs).withdrawOne number .expired).setFlag c.ownerPort .settleExpired .none).passCheck s)

/-- ORPHAN_LIMIT_EXPIRY (R165). -/
def execOrphanLimitExpiry (n : LaneNo) (s : State) : StepOutcome :=
  s.onEvent (s.isOrphaned n && decide (s.orphanTimers[n] = some 0)) <|
    (State.abortLane { s with expired := s.expired.set n true } n .orphanExpired).setFlagAll .orphanExpired (.lanes [n])

/-- EPOCH_TIMER_EXPIRY (R120, R118): a request with source TIMER when TIMER is in the trigger set; the timer restarts with the
interval in force. -/
def execEpochTimerExpiry (errs : List DramError) (s : State) : StepOutcome :=
  s.onEvent (decide (s.epochTimer = some 0)) <|
    let t := s.arise errs
    (if t.policy.triggers.timer then t.requestAdvance.2 else t).startEpochTimer

/-- The open proposal's deadline has no time remaining. -/
def State.proposalExpired (s : State) : Bool :=
  match s.proposal with
  | some q => decide (q.deadline = some 0)
  | none => false

/-- CONSENT_DEADLINE_EXPIRY (R151): the open proposal ends as LAPSED. -/
def execConsentDeadlineExpiry (s : State) : StepOutcome := s.onEvent s.proposalExpired (s.endProposal .lapsed)

end Sys2Proof.Machine
end

