-- ==== Sys2Proof/Machine/PortCommands.lean ====
section
/-! DEFINITION. Power, command writes and consumer-index writes, ATTACH and DETACH, READ_ATTENTION and DEVICE_STATUS. -/

namespace Sys2Proof.Machine

open Sys2Proof

/-- POWER_ON (R187): every block takes its power-on value and the initialisation of the stacked DRAM begins. The commands
waiting outside and the controllers' memory are not the part's. -/
def execPowerOn (s : State) : StepOutcome := .next { State.reset with pending := s.pending, memory := s.memory }

/-- INITIALISATION_END (R187): the device enters REBUILD with every block at its power-on value; the records written into the
port queues meanwhile stay there, and the ports begin taking commands. -/
def execInitialisationEnd (s : State) : StepOutcome :=
  s.onEvent s.initialising
    { State.reset with
        initialising := false
        pending := s.pending
        memory := s.memory
        now := s.now
        ports := s.ports.map fun q => { Port.reset with queue := q.queue } }

/-- COMMAND_WRITE (R172, R155): the record joins the port's queue, and the watchdog of an ATTACHED port is reloaded; a record
that finds 64 is dropped, with QUEUE_OVERRUN at an ATTACHED port. -/
def execCommandWrite (p : PortNo) (r : CommandRecord) (s : State) : StepOutcome :=
  .next <|
    if (s.port p).queue.length < Config.queueSlots then
      s.modPort p fun q =>
        { q with queue := q.queue ++ [r], watchdog := if q.state = .attached then some q.period else q.watchdog }
    else s.setFlag p .queueOverrun .none

/-- CONSUMER_INDEX_WRITE (R178, R155, R179): at an ATTACHED port the watchdog is reloaded, a value below the ring size becomes
the consumer index, and waiting writers are granted. -/
def execConsumerIndexWrite (p : PortNo) (value : Nat) (errs : List DramError) (s : State) : StepOutcome :=
  s.onEvent (s.attached p) <|
    let t := (s.arise errs).modPort p fun q =>
      { q with
          watchdog := some q.period
          consumer := match q.ring with | some g => if value < g.size then value else q.consumer | none => q.consumer }
    t.drain p (t.port p).free

/-- COMMAND_REMOVED_UNATTACHED (R174): a DETACHED or FAILSAFE port removes a command other than ATTACH without effect and
without completion. -/
def execCommandRemovedUnattached (p : PortNo) (s : State) : StepOutcome :=
  s.onEvent (!s.attached p && (match s.front? p with | some r => decide (recKind r ≠ 0x01) | none => false)) (s.popQueue p)

/-- UNKNOWN_COMMAND_KIND (R195): a kind byte that is not one of #01 to #1B is answered BAD_PARAM with the kind echoed. -/
def execUnknownCommandKind (p : PortNo) (s : State) : StepOutcome :=
  match s.front? p with
  | some r => if s.attached p && !kindKnown (recKind r) then .next ((s.popQueue p).refuse p r .badParam) else .next s
  | none => .next s

/-- The parameters of an ATTACH lie in their ranges (R175). -/
def attachParamsOk (r : CommandRecord) : Bool :=
  let size := numAt r 12 4
  decide (numAt r 4 8 % 128 = 0) && decide (size ∈ [256, 512, 1024, 2048, 4096, 8192, 16384, 32768, 65536]) &&
  decide (10 ≤ numAt r 16 4) && decide (numAt r 16 4 ≤ 60000) && decide (numAt r 20 4 ≤ Config.slotsInAll) &&
  (watchModeOf? (byteAt r 24)).isSome

/-- The port unit after an ATTACH that passes (R175, R155, R27). -/
def Port.attach (q : Port) (r : CommandRecord) : Port :=
  { q with
      state := .attached
      ring := some { address := numAt r 4 8, size := numAt r 12 4 }
      producer := 0
      consumer := 0
      pass := true
      watchdog := some (numAt r 16 4)
      period := numAt r 16 4
      watchThreshold := numAt r 20 4
      watchMode := (watchModeOf? (byteAt r 24)).getD .none
      summary := Summary.empty }

/-- The result fields of an ATTACH (R175): port number, device state, current epoch, fail-safe time when one is recorded. -/
def State.attachFields (s : State) (p : PortNo) : List Field :=
  [.num 1 p.val, .num 1 s.device.code, .num 4 s.epoch, .num 8 ((s.port p).failSafeTime.getD 0)]

/-- ATTACH (R175, R174): carried out in every port state, refused on an ATTACHED port. -/
def execAttach (p : PortNo) (s : State) : StepOutcome :=
  match s.front? p with
  | none => .next s
  | some r =>
    if recKind r ≠ 0x01 then .next s
    else
      let t := s.popQueue p
      match firstFailing [(!s.attached p, .refusedState), (attachParamsOk r, .badParam)] with
      | some o => .next (t.refuse p r o)
      | none =>
        let u := t.modPort p fun q => q.attach r
        .next (u.reply p r .ok (u.attachFields p))

/-- The checks of a DETACH (R176). -/
def State.detachChecks (s : State) (p : PortNo) : List (Bool × Outcome) :=
  [(allLanes.all fun n => decide ((s.lane n).state = .free) || decide ((s.lane n).owner ≠ some p), .busy),
   ((match s.proposal with | some q => decide (q.proposer ≠ p) | none => true), .busy),
   (!(s.port p).freeze, .busy)]

/-- DETACH (R176). -/
def execDetach (p : PortNo) (errs : List DramError) (s : State) : StepOutcome :=
  s.onCommand p 0x02 fun r s =>
    let t := s.arise errs
    match firstFailing (t.detachChecks p) with
    | some o => t.refuse p r o
    | none => t.completeDetach p { kind := recKind r, tag := recTag r, outcome := .ok, fields := [] }

/-- READ_ATTENTION (R184): the summary is copied into the completion and emptied in one step. -/
def execReadAttention (p : PortNo) (s : State) : StepOutcome :=
  s.onCommand p 0x1A fun r s =>
    let sum := (s.port p).summary
    (s.modPort p fun q => { q with summary := Summary.empty }).reply p r .ok [.raw (summaryBytes sum)]

/-- How many lanes are in a state. -/
def State.lanesIn (s : State) (st : LaneState) : Nat := (allLanes.filter fun n => decide ((s.lane n).state = st)).length

/-- The open proposal's fields in DEVICE_STATUS (R145, R185), absent ones as R196 states. -/
def State.proposalFields (s : State) : List Field :=
  match s.proposal with
  | some p =>
    [.num 1 p.body.code, .num 1 p.body.target, .num 1 p.proposer.val, .num 1 (maskOf (p.required.map Fin.val)),
     .num 1 (maskOf (p.received.map Fin.val)), .num 4 (p.deadline.getD 0)]
  | none => [.num 1 0, .num 1 0xFF, .num 1 0xFF, .num 1 0, .num 1 0, .num 4 0]

/-- The fields of DEVICE_STATUS (R185). -/
def State.statusFields (s : State) : List Field :=
  let opened := (s.table.filter Container.isOpen).length
  [.num 1 s.device.code, .num 4 s.epoch, .num 1 (bit s.advancePending), .num 4 s.occupancy, .num 4 s.poisonCount,
   .num 2 s.table.length, .num 2 opened, .num 2 (s.table.length - opened)] ++
  [LaneState.free, .active, .checkpointing, .closing, .aborting, .orphaned].map (fun st => .num 2 (s.lanesIn st)) ++
  [.num 1 s.scanner.state.code, .num 4 s.scanner.cursor, .num 4 s.discarded, .num 4 s.correctable, .num 4 s.collisions,
   .num 8 s.counter] ++
  s.proposalFields ++ allPorts.map fun p => .num 1 (s.port p).state.code

/-- DEVICE_STATUS (R185). -/
def execDeviceStatus (p : PortNo) (s : State) : StepOutcome :=
  s.onCommand p 0x1B fun r s => s.reply p r .ok s.statusFields

end Sys2Proof.Machine
end

