-- ==== Sys2Proof/Machine/ScannerEvents.lean ====
section
/-! DEFINITION. The events of the reclaim scanner: the pass-end request at the epoch unit, the start request at the scanner, and
the examination of a bucket. -/

namespace Sys2Proof.Machine

open Sys2Proof

/-- SWEEP_END_REQUEST (R136, R118): a pass-end request is taken at the epoch unit. -/
def execSweepEndRequest (errs : List DramError) (s : State) : StepOutcome :=
  s.onEvent (decide (0 < s.sweepEndRequests)) <|
    let t := s.arise errs
    (State.requestAdvance { t with sweepEndRequests := t.sweepEndRequests - 1 }).2

/-- The scanner begins a new pass at a start request (R137). -/
def State.startsPass (s : State) : Bool :=
  decide (s.scanner.state = .idle) && decide (s.scanner.mode = .continuous) && decide (s.device = .service) &&
  (match s.scanner.requester with
    | some p => s.attached p
    | none => false)

/-- START_REQUEST (R137): an advance's start request is taken at the scanner. -/
def execStartRequest (s : State) : StepOutcome :=
  s.onEvent (decide (0 < s.startRequests)) <|
    let t : State := { s with startRequests := s.startRequests - 1 }
    if t.startsPass then { t with scanner := { t.scanner with state := .scanning, finishing := false } } else t

/-- One slot is examined for the requesting port (R133, R134): an eligible, uncovered ZERO entry is removed, and its RECLAIM record
joins the queue. -/
def reclaimSlot (p : PortNo) (number : Nat) (s : State) (i : Fin 16) : State :=
  let b := s.bucket number
  match b[i].entry with
  | none => s
  | some x =>
    if x.reclaimable s.epoch s.policy.grace s.holds then
      let r : Reclaim :=
        { port := p, chunkId := idIn number b i, container := x.container, offset := x.offset, length := x.length,
          fingerprint := x.fingerprint }
      let t := s.removeEntry number i
      { t with scanner := { t.scanner with queue := t.scanner.queue ++ [r] } }
    else s

/-- The cursor moves to the next bucket; after bucket 4,194,303 it stays until the pass ends (R133). -/
def Scanner.advanceCursor (c : Scanner) : Scanner :=
  if c.cursor + 1 < Config.buckets then { c with cursor := c.cursor + 1 } else { c with finishing := true }

/-- The bucket at the cursor is examined for port `p` (R133): read, then judged slot by slot in ascending order. -/
def State.examine (s : State) (p : PortNo) : State :=
  let number := s.scanner.cursor
  let t :=
    match s.readBucket number with
    | (true, t) => t
    | (false, t) => (List.finRange 16).foldl (reclaimSlot p number) t
  State.passCheck { t with scanner := t.scanner.advanceCursor } s

/-- The scanner examines a bucket: SCANNING, with an empty reclaim queue and a bucket left to examine (R133). -/
def Scanner.examines (c : Scanner) : Bool := decide (c.state = .scanning) && c.queue.isEmpty && !c.finishing

/-- BUCKET_EXAMINATION (R133, R134, R136). DESIGN CHOICE: the ATTENTION record of a falling crossing comes before the examination's
RECLAIM records (notes/assumptions/33.md). -/
def execBucketExamination (errs : List DramError) (s : State) : StepOutcome :=
  match s.scanner.requester with
  | none => .next s
  | some p =>
    s.onEvent s.scanner.examines <|
      let t := (s.arise errs).examine p
      (if t.attached p then t.kickReclaim p else t.discardReclaims p).passEndCheck

end Sys2Proof.Machine
end

