-- ==== Sys2Proof/Machine/Dispatch.lean ====
section
/-! DEFINITION. One arm for each command and event. -/

namespace Sys2Proof.Machine

open Sys2Proof

/-- The effect of a command on everything but the queue of commands that wait. -/
def exec (i : Instr) (s : State) : Host.Outcome State Fault Refusal :=
  match i with
  | .powerOn => Sys2Proof.Machine.execPowerOn s
  | .initialisationEnd => Sys2Proof.Machine.execInitialisationEnd s
  | .commandWrite p r => Sys2Proof.Machine.execCommandWrite p r s
  | .consumerIndexWrite p v e => Sys2Proof.Machine.execConsumerIndexWrite p v e s
  | .commandRemovedUnattached p => Sys2Proof.Machine.execCommandRemovedUnattached p s
  | .unknownCommandKind p => Sys2Proof.Machine.execUnknownCommandKind p s
  | .attach p => Sys2Proof.Machine.execAttach p s
  | .detach p e => Sys2Proof.Machine.execDetach p e s
  | .openLane p => Sys2Proof.Machine.execOpenLane p s
  | .feed p => Sys2Proof.Machine.execFeed p s
  | .mark p => Sys2Proof.Machine.execMark p s
  | .setLaneWeight p => Sys2Proof.Machine.execSetLaneWeight p s
  | .laneStatus p => Sys2Proof.Machine.execLaneStatus p s
  | .abortLane p => Sys2Proof.Machine.execAbortLane p s
  | .adoptLane p => Sys2Proof.Machine.execAdoptLane p s
  | .readJournal p e => Sys2Proof.Machine.execReadJournal p e s
  | .settle p e => Sys2Proof.Machine.execSettle p e s
  | .release p => Sys2Proof.Machine.execRelease p s
  | .releaseDecrement w e => Sys2Proof.Machine.execReleaseDecrement w e s
  | .insert p e => Sys2Proof.Machine.execInsert p e s
  | .queryByFingerprint p e => Sys2Proof.Machine.execQueryByFingerprint p e s
  | .queryByChunkId p e => Sys2Proof.Machine.execQueryByChunkId p e s
  | .epochAdvance p e => Sys2Proof.Machine.execEpochAdvance p e s
  | .epochFreeze p => Sys2Proof.Machine.execEpochFreeze p s
  | .epochThaw p e => Sys2Proof.Machine.execEpochThaw p e s
  | .holdPlace p => Sys2Proof.Machine.execHoldPlace p s
  | .holdLift p => Sys2Proof.Machine.execHoldLift p s
  | .holdList p => Sys2Proof.Machine.execHoldList p s
  | .sweepStart p => Sys2Proof.Machine.execSweepStart p s
  | .sweepStop p => Sys2Proof.Machine.execSweepStop p s
  | .propose p e => Sys2Proof.Machine.execPropose p e s
  | .consent p e => Sys2Proof.Machine.execConsent p e s
  | .withdraw p => Sys2Proof.Machine.execWithdraw p s
  | .readAttention p => Sys2Proof.Machine.execReadAttention p s
  | .deviceStatus p => Sys2Proof.Machine.execDeviceStatus p s
  | .linkReset p e => Sys2Proof.Machine.execLinkReset p e s
  | .dmaFailure p a e => Sys2Proof.Machine.execDmaFailure p a e s
  | .watchdogExpiry p e => Sys2Proof.Machine.execWatchdogExpiry p e s
  | .settleDeadlineExpiry c e => Sys2Proof.Machine.execSettleDeadlineExpiry c e s
  | .orphanLimitExpiry n => Sys2Proof.Machine.execOrphanLimitExpiry n s
  | .epochTimerExpiry e => Sys2Proof.Machine.execEpochTimerExpiry e s
  | .consentDeadlineExpiry => Sys2Proof.Machine.execConsentDeadlineExpiry s
  | .sweepEndRequest e => Sys2Proof.Machine.execSweepEndRequest e s
  | .startRequest => Sys2Proof.Machine.execStartRequest s
  | .bucketExamination e => Sys2Proof.Machine.execBucketExamination e s
  | .engineGrant => Sys2Proof.Machine.execEngineGrant s
  | .byteTaken n b => Sys2Proof.Machine.execByteTaken n b s
  | .cutReached n => Sys2Proof.Machine.execCutReached n s
  | .tagReached n => Sys2Proof.Machine.execTagReached n s
  | .checkpointReached n => Sys2Proof.Machine.execCheckpointReached n s
  | .endReached n => Sys2Proof.Machine.execEndReached n s
  | .lookup n e => Sys2Proof.Machine.execLookup n e s
  | .waiterCompletion c e => Sys2Proof.Machine.execWaiterCompletion c e s
  | .abortWithdrawal n e => Sys2Proof.Machine.execAbortWithdrawal n e s
  | .walkStep n e => Sys2Proof.Machine.execWalkStep n e s

end Sys2Proof.Machine
end

