-- ==== Sys2Proof/Machine/Time.lean ====
section
/-! DEFINITION. The passing of 1 ms, which the part's own clock brings whatever is commanded (notes/assumptions/2.md). -/

namespace Sys2Proof.Machine

open Sys2Proof

/-- A timer 1 ms later: a RUNNING timer loses 1 ms, and stands at 0 until its expiry is taken. -/
def Timer.tick (t : Timer) : Timer := t.map fun k => k - 1

/-- A container 1 ms later: the settle deadline of a SEALED one runs (R83). -/
def Container.tick (c : Container) : Container :=
  match c.state with
  | .opened => c
  | .sealed r d => { c with state := .sealed r (Timer.tick d) }

/-- 1 ms passes: every watchdog (R155), settle deadline (R83), orphan timer (R163), the epoch timer (R120) and the deadline of the
open proposal (R151) run. -/
def State.tick (s : State) : State :=
  { s with
      now := s.now + 1
      ports := s.ports.map fun q => { q with watchdog := Timer.tick q.watchdog }
      table := s.table.map Container.tick
      orphanTimers := s.orphanTimers.map Timer.tick
      epochTimer := Timer.tick s.epochTimer
      proposal := s.proposal.map fun q => { q with deadline := Timer.tick q.deadline } }

end Sys2Proof.Machine
end

