-- ==== Sys2Proof/Safety.lean ====
section
/-! DEFINITION. What claims are stated in: when a port takes a command, what answering it does to the port and its ring, and the
invariants of the part. -/

namespace Sys2Proof.Machine

open Sys2Proof

/-! ### Commands and their answers -/

/-- Port `p` takes the command of record `r`, of kind `kind`, and a completion finds a free position (R173, R179). -/
abbrev State.Takes (s : State) (p : PortNo) (r : CommandRecord) (kind : Nat) : Prop :=
  s.front? p = some r ∧ recKind r = kind ∧ s.canWrite p = true

/-- The port unit after one record has been written to its ring (R178). -/
def Port.advanced (q : Port) : Port :=
  match q.ring with
  | none => q
  | some g =>
    let wraps := decide (q.producer + 1 = g.size)
    { q with producer := if wraps then 0 else q.producer + 1, pass := if wraps then !q.pass else q.pass }

/-- The port unit after its oldest command has left the queue and has been answered (R173, R178). -/
def Port.answered (q : Port) : Port := { q.advanced with queue := q.queue.drop 1, hand := none }

/-- The part goes from `s` to `t` with one record written to the ring of port `p`, at its producer index and under its pass mark
(R178); every other position, every other ring and every other port unit is as it was, and the port unit is `q`. -/
structure State.Wrote (s t : State) (p : PortNo) (r : Response) (q : Port) : Prop where
  record : t.ringRecord p (s.port p).producer = r.bytes p (s.port p).pass
  port : t.port p = q
  otherPorts : ∀ p', p' ≠ p → t.port p' = s.port p' ∧ t.memory[p'] = s.memory[p']
  ring : ∀ g a, (s.port p).ring = some g → a ≠ ringAddress g (s.port p).producer →
    sparseGet [] t.memory[p] a = sparseGet [] s.memory[p] a

/-- The command of record `r` is answered at port `p` with an outcome and result fields (R177, R196), and `change` is what it does
to its port unit besides. -/
def State.Answered (s t : State) (p : PortNo) (r : CommandRecord) (o : Outcome) (fs : List Field)
    (change : Port → Port := id) : Prop :=
  s.Wrote t p (.completion { kind := recKind r, tag := recTag r, outcome := o, fields := fs }) (change (s.port p).answered)

/-- A refused command: answered with its outcome and no result fields, and no other state changes (R196). -/
def State.Refused (s t : State) (p : PortNo) (r : CommandRecord) (o : Outcome) : Prop :=
  s.Answered t p r o [] ∧ t = { s with ports := t.ports, memory := t.memory }

/-- A command or event leaves everything as `s` has it but the port units and the ring records. -/
abbrev State.OnlyPorts (s t : State) : Prop := t = { s with ports := t.ports, memory := t.memory }

/-- The port's ring is `g`: a size R175 allows, and both indices inside it (R178). -/
structure Port.Rings (q : Port) (g : Ring) : Prop where
  ring : q.ring = some g
  size : 256 ≤ g.size ∧ g.size ≤ 65536
  producer : q.producer < g.size
  consumer : q.consumer < g.size

/-! ### Flags -/

/-- The port unit after an event that sets a flag there, where no ATTENTION record is made: a port not ATTACHED is left as it is
(R182). -/
def Port.flagged (q : Port) (f : Flag) (c : Carry) : Port :=
  if q.state = .attached then { q with summary := (q.summary.raise f).carry f c } else q

/-- The state after an event that sets a flag at the ports of `among`, where no ATTENTION record is made. -/
def State.flaggedAt (s : State) (among : PortNo → Bool) (f : Flag) (c : Carry) : State :=
  { s with ports := Vector.ofFn fun q => if among q then (s.port q).flagged f c else s.port q }

/-- Every attached port's summary has a flag set: a flag set now makes no ATTENTION record (R183). -/
abbrev State.Alert (s : State) : Prop := ∀ q, s.attached q = true → (s.port q).summary.isEmpty = false

/-! ### Buckets, watches and lanes at rest -/

/-- Bucket `b` is read without poisoning and without a correction: it is not on the poison list, and no error stands in it
(R11, R188, R189). -/
abbrev State.Readable (s : State) (errs : List DramError) (b : Nat) : Prop :=
  b ∉ s.poisonList ∧ ∀ d ∈ s.damage ++ errs, d.place ≠ .bucket b

/-- No port watches occupancy (R26, R27). -/
abbrev State.Unwatched (s : State) : Prop := ∀ q, (s.port q).watchMode = .none

/-- The port judges the change of occupancy from `a` to `b` and watches the crossing it makes (R26): a rising one from below its
threshold to the threshold or more, a falling one the other way. A port not ATTACHED judges none (R27). -/
def Port.sees (q : Port) (a b : Nat) : Bool :=
  decide (q.state = .attached) &&
  (decide ((q.watchMode = .rising ∨ q.watchMode = .both) ∧ a < q.watchThreshold ∧ q.watchThreshold ≤ b) ||
    decide ((q.watchMode = .falling ∨ q.watchMode = .both) ∧ q.watchThreshold ≤ a ∧ b < q.watchThreshold))

/-- The state with OCCUPANCY set at every port that watches the crossing from the occupancy standing to `b`, where no ATTENTION
record is made (R26). -/
def State.crossed (s : State) (b : Nat) : State := s.flaggedAt (fun q => (s.port q).sees s.occupancy b) .occupancy .none

/-- No ATTENTION record is made by a change of occupancy to `b`: no port watches it, or every summary has a flag (R183). -/
abbrev State.CrossesQuietly (s : State) (b : Nat) : Prop := s.Alert ∨ ∀ q, (s.port q).sees s.occupancy b = false

/-- No lane waits for a container, so a retest frees none (R76). -/
abbrev State.NoneStarvedOfContainers (s : State) : Prop := ∀ m, (s.lane m).stalls.noContainer = false

/-- A lane record after a retest with `used` containers in the settlement table (R76): NO_CONTAINER is removed when a container
can be taken for the lane (R75). -/
def State.retestedLane (s : State) (used : Nat) (l : Lane) : Lane :=
  if s.counter ≤ 4294967295 ∧ used < 256 ∧ ∃ p, l.owner = some p ∧ (s.port p).notices.length < 256 then
    { l with stalls := { l.stalls with noContainer := false } }
  else l

/-- An ACTIVE lane with no record to write: no closed run, no held record and no journal-full commit (R65, R101). -/
structure Lane.Quiet (l : Lane) : Prop where
  active : l.state = .active
  journal : l.stalls.journalFull = false
  held : l.held = none
  run : ∀ r, l.run = some r → r.closed = false

/-- A profile slot that `a` describes loses a lane, and `b` describes it then: its lane-use count falls by 1, and a RETIRING slot
whose count so reaches 0 becomes EMPTY (R141). -/
abbrev ProfileSlot.LosesLane (a b : ProfileSlot) : Prop :=
  (∃ prof roll k, a = .active prof roll (k + 1) ∧ b = .active prof roll k) ∨
  (∃ prof roll k, a = .retiring prof roll (k + 2) ∧ b = .retiring prof roll (k + 1)) ∨
  ∃ prof roll, a = .retiring prof roll 1 ∧ b = .empty

/-- The quiet interval has passed since the fail-safe time of the lane's former owner (R164). -/
def State.QuietPassed (s : State) (n : LaneNo) : Prop :=
  ∃ q t, (s.lane n).former = some q ∧ (s.port q).failSafeTime = some t ∧ t + s.policy.quiet ≤ s.now

/-- The slot a member or chunk ID names holds its entry `x` still (R4). -/
abbrev State.Holds (s : State) (m : SlotRef) (x : Entry) : Prop :=
  (s.bucket m.bucket)[m.slot] = { generation := m.generation, entry := some x }

/-- The members stand in slots of their own. -/
abbrev slotsDistinct (ms : List SlotRef) : Prop := ms.Pairwise fun a b => ¬(a.bucket = b.bucket ∧ a.slot = b.slot)

/-- `i` is the lowest-numbered slot of the bucket whose entry has the fingerprint, and its entry is `x`. -/
abbrev Bucket.FirstWith (b : Bucket) (fp : List Byte) (i : Fin 16) (x : Entry) : Prop :=
  b[i].entry = some x ∧ x.fingerprint = fp ∧ ∀ j, j < i → b[j].entry.map Entry.fingerprint ≠ some fp

/-- No entry of the bucket has the fingerprint. -/
abbrev Bucket.Lacks (b : Bucket) (fp : List Byte) : Prop := ∀ j : Fin 16, b[j].entry.map Entry.fingerprint ≠ some fp

/-- `i` is the lowest-numbered FREE slot of the bucket. -/
abbrev Bucket.FirstFree (b : Bucket) (i : Fin 16) : Prop := b[i].entry = none ∧ ∀ j, j < i → b[j].entry ≠ none

/-- From `s` to `t` slot `i` of bucket `b` comes to hold `v`, and every other slot of the index is as it was. -/
def State.SlotBecomes (s t : State) (b : Nat) (i : Fin 16) (v : Slot) : Prop :=
  (t.bucket b)[i] = v ∧ ∀ b' j, ¬(b' = b ∧ j = i) → (t.bucket b')[(j : Fin 16)] = (s.bucket b')[j]

/-- From `s` to `t` lane `n`'s record becomes `l`, and every other lane's record is as it was. -/
def State.LaneBecomes (s t : State) (n : LaneNo) (l : Lane) : Prop := t.lane n = l ∧ ∀ m, m ≠ n → t.lane m = s.lane m

/-! ### Lanes at a lookup -/

/-- Lane `n` of port `p`, with no engine and an item to go on with, has the result of its ended chunk `c` sought under the stall
causes `stalls`; sequence number `q` is next (R66, R67). -/
structure State.Seeks (s : State) (n : LaneNo) (p : PortNo) (c : Chunk) (q : Nat) (stalls : Stalls) : Prop where
  active : (s.lane n).state = .active
  chunk : (s.lane n).chunk = some c
  stalls : (s.lane n).stalls = stalls
  owner : (s.lane n).owner = some p
  held : (s.lane n).held = none
  grant : (s.lane n).grant = none
  items : (s.lane n).items ≠ []
  seq : (s.lane n).nextSeq = some q ∧ q < 4294967295
  turns : s.turns = []

/-- Lane `n` of port `p` seeks the result of ended chunk `c`, and nothing but the index decides how the chunk is disposed of: the
ring takes its verdict, which opens no run, ends no window and fills no journal. -/
structure State.Poised (s : State) (n : LaneNo) (p : PortNo) (c : Chunk) (q : Nat) (stalls : Stalls) : Prop
    extends s.Seeks n p c q stalls where
  ring : s.canWrite p = true
  run : (s.lane n).run = none
  cls : (s.lane n).cls = .cold
  window : (s.lane n).windowChunks < 255
  journal : (s.lane n).journal.length < 229375

/-- The lane record when its chunk has been disposed of with a verdict of sequence number `q` (R66): the journal has `e` as its
newest entry, and the verdict is counted. -/
def Lane.disposed (l : Lane) (q : Nat) (e : JournalEntry) (dup : Bool) : Lane :=
  { l with
      nextSeq := some (q + 1), journal := l.journal ++ [e], windowChunks := l.windowChunks + 1,
      windowDups := l.windowDups + bit dup, tag := none, chunk := none }

/-- The lane record once the class of a full window is judged (R70, R71): the class `w` by its duplicates is the lane's own, or a
candidate, which becomes the lane's class at its third window in a row. -/
def Lane.judged (l : Lane) (dups : Nat) : Lane :=
  let w : LaneClass := if dups ≤ 63 then .cold else if dups ≤ 191 then .mixed else .hot
  let l := { l with windowChunks := 0, windowDups := 0 }
  if w = l.cls then { l with candidate := none, agreement := 0 }
  else if l.candidate ≠ some w then { l with candidate := some w, agreement := 1 }
  else if l.agreement = 2 then { l with cls := w, candidate := none, agreement := 0 }
  else { l with agreement := l.agreement + 1 }

/-! ### Invariants -/

/-- The chunk index and the records of every ring are in canonical form. -/
def Memory.wf (s : State) : Bool :=
  sparseWf Bucket.untouched s.index && allPorts.all fun p => sparseWf [] s.memory[p]

/-- What the rules bound stays within its bounds: command queues (R172), recently-withdrawn lists (R92), notice queues (R93), item
queues (R53), the settlement table (R79), the poison list (R189), the reclaim queue (R134), the scanner's cursor (R130), the
epoch counter (R117), the container counter (R74) and the device counters (R14, R123, R181, R188, R189). -/
structure State.Bounded (s : State) : Prop where
  queues : ∀ p, (s.port p).queue.length ≤ 64
  recent : ∀ p, (s.port p).recent.length ≤ 16
  notices : ∀ p, (s.port p).notices.length ≤ 768
  items : ∀ n, (s.lane n).items.length ≤ 32
  table : s.table.length ≤ 256
  poison : s.poisonList.length ≤ 64 ∧ s.poisonList.Nodup
  reclaim : s.scanner.queue.length ≤ 16
  cursor : s.scanner.cursor < 4194304
  epoch : 1 ≤ s.epoch ∧ s.epoch ≤ 4294967295
  counter : 1 ≤ s.counter ∧ s.counter ≤ 4294967296
  counts : s.collisions ≤ 4294967295 ∧ s.absorbed ≤ 4294967295 ∧ s.discarded ≤ 4294967295 ∧ s.correctable ≤ 4294967295 ∧
    s.poisonCount ≤ 4294967295

/-- Every entry stands in the bucket of its fingerprint (R2), and no two entries of a bucket have the same fingerprint (R8): so no
two entries of the index do. -/
structure State.Distinct (s : State) : Prop where
  home : ∀ b i x, (s.bucket b)[(i : Fin 16)].entry = some x → bucketOf x.fingerprint = b
  unique : ∀ b i j x y, (s.bucket b)[(i : Fin 16)].entry = some x → (s.bucket b)[(j : Fin 16)].entry = some y →
    x.fingerprint = y.fingerprint → i = j

/-- An entry's count agrees with its state (R7), and its epochs with one another and with the current epoch `e` (R19). -/
def Entry.Sound (x : Entry) (e : Nat) : Prop :=
  x.birth ≤ x.lastRef ∧ x.lastRef ≤ e ∧
  match x.state with
  | .pending _ => x.count ≤ 16777215
  | .live => 1 ≤ x.count ∧ x.count ≤ 16777214
  | .zero z => x.count = 0 ∧ x.lastRef ≤ z ∧ z ≤ e
  | .pinned => x.count = 16777215

/-- Every entry of the index is sound, and the epoch counter is in its range (R117). -/
structure State.Sound (s : State) : Prop where
  entries : ∀ b i x, (s.bucket b)[(i : Fin 16)].entry = some x → x.Sound s.epoch
  epoch : 1 ≤ s.epoch ∧ s.epoch ≤ 4294967295

/-- The lane is in service: ACTIVE, CHECKPOINTING or CLOSING (R47). -/
def LaneState.serves : LaneState → Bool
  | .active | .checkpointing | .closing => true
  | .free | .aborting | .orphaned => false

/-- Every lane in service is owned by an ATTACHED port (R47), and a port whose DETACH completion waits for its ring owns no lane
that is not FREE (R176). -/
structure State.Owned (s : State) : Prop where
  serving : ∀ n, (s.lane n).state.serves = true → ∃ p, (s.lane n).owner = some p ∧ s.attached p = true
  leaving : ∀ p c, (s.port p).hand = some (.completion c true) → ∀ n, (s.lane n).owner = some p → (s.lane n).state = .free

end Sys2Proof.Machine
end

