-- ==== Sys2Proof/Certificates/Slice0/Obligations.lean ====
section
/-! DEFINITION. The statements for the provers: what the rules of the spec say each command and event does, its frame, and the
invariants every step keeps. The widths of a completion's result fields are the model's choice throughout (notes/assumptions/14.md). -/

open Sys2Proof Sys2Proof.Machine

/-! ### The queue of commands, power, and the port units -/

/-- A step carries out the command at the front of the queue on the queue's rest; on an empty queue 1 ms passes, which is the
model's choice (notes/assumptions/2.md). -/
def Obligations.StepTakesFrontCommand : Prop :=
  ∀ (c : Instr) (rest : List Instr) (s : State),
    (s.pending = c :: rest → step s = exec c { s with pending := rest }) ∧ (s.pending = [] → step s = .next s.tick)

/-- R187, R27, R28, R29, R142: power makes every port DETACHED and begins the initialisation, in which a record written waits
untaken; at its end the device is in REBUILD with every block at its power-on value, and the record is the port's oldest command.
The fields of a FREE lane, the queue, `memory` and what the clock reads are the model's choice (notes/assumptions/16.md, 5.md, 2.md). -/
def Obligations.PowerUpBringsRebuild : Prop :=
  ∀ (s : State) (p : PortNo) (r : CommandRecord), ∃ t u v,
    exec .powerOn s = .next t ∧ exec (.commandWrite p r) t = .next u ∧ (∀ q, u.front? q = none) ∧
    exec .initialisationEnd u = .next v ∧ v.front? p = some r ∧ t = { v with initialising := true, ports := t.ports } ∧
    (∀ q, t.port q = { v.port q with queue := [] }) ∧
    (∀ q, v.port q =
      { state := .detached, queue := if q = p then [r] else [], hand := none, ring := none, producer := 0, consumer := 0,
        pass := true, waiting := [], attnHeld := false
        summary :=
          { marks := Vector.replicate 15 .clear, peers := [], journalLanes := [], orphanedLanes := [], expiredLanes := [],
            ending := none }
        watchdog := none, period := 0, watchThreshold := 0, watchMode := .none, freeze := false, recent := [], notices := [],
        failSafeTime := none }) ∧
    (∀ n, (v.lane n).state = .free) ∧
    v =
      { pending := s.pending, initialising := false, now := 0, device := .rebuild, ports := v.ports,
        lanes := Vector.replicate 64 Lane.free, lastGranted := 63, orphanTimers := Vector.replicate 64 none,
        expired := Vector.replicate 64 false, index := [], occupancy := 0, collisions := 0, poisonList := [], poisonCount := 0,
        correctable := 0, damage := [], counter := 1, table := [], settlings := [], turns := [], strayReleases := [], epoch := 1,
        advancePending := false, absorbed := 0, epochTimer := none
        policy :=
          { grace := 2, interval := 0, triggers := { command := true, timer := false, sweepEnd := false }, settleLimit := 30,
            quiet := 2000, orphanLimit := 300, consentWindow := 10, threshold := 8 }
        stagedPolicy := none, sweepEndRequests := 0, startRequests := 0, holds := Vector.replicate 16 none
        scanner :=
          { state := .idle, cursor := 0, mode := .onePass, requester := none, queue := [], finishing := false }
        slots :=
          #v[.active { window := 48, exponent := 13, minimum := 2048, maximum := 65536, seed := 0 } (263 ^ 47) 0,
            .empty, .empty, .empty]
        proposal := none, lastEnded := none, discarded := 0, memory := s.memory }

/-- R172: a record joins a queue of fewer than 64 and reloads the watchdog of an ATTACHED port; one that finds 64 is dropped, with
QUEUE_OVERRUN set, or its again-mark, at an ATTACHED port, and no completion. -/
def Obligations.CommandWriteJoinsOrDrops : Prop :=
  ∀ (s : State) (p : PortNo) (r : CommandRecord),
    ((s.port p).queue.length < 64 → ∃ t, exec (.commandWrite p r) s = .next t ∧
      t.port p = { s.port p with
        queue := (s.port p).queue ++ [r]
        watchdog := if (s.port p).state = .attached then some (s.port p).period else (s.port p).watchdog } ∧
      (∀ q, q ≠ p → t.port q = s.port q) ∧ t = { s with ports := t.ports }) ∧
    (64 ≤ (s.port p).queue.length → s.attached p = true → ∃ t, exec (.commandWrite p r) s = .next t ∧
      (t.port p).summary = (s.port p).summary.raise .queueOverrun ∧ (t.port p).queue = (s.port p).queue ∧
      (t.port p).watchdog = (s.port p).watchdog ∧ (t.port p).hand = (s.port p).hand ∧
      (∀ q, q ≠ p → t.port q = s.port q ∧ t.memory[q] = s.memory[q]) ∧
      t = { s with ports := t.ports, memory := t.memory }) ∧
    (64 ≤ (s.port p).queue.length → s.attached p = false → exec (.commandWrite p r) s = .next s)

/-- R178, R155: at an ATTACHED port a consumer-index write reloads the watchdog, and the index takes a value below the ring size
and keeps its own otherwise; at any other port it changes nothing. -/
def Obligations.ConsumerIndexWriteMovesIndex : Prop :=
  ∀ (s : State) (p : PortNo) (v : Nat) (errs : List DramError),
    (s.attached p = false → exec (.consumerIndexWrite p v errs) s = .next s) ∧
    (∀ g, s.attached p = true → (s.port p).ring = some g → (s.port p).waiting = [] →
      ∃ t, exec (.consumerIndexWrite p v errs) s = .next t ∧
        t.port p = { s.port p with
          watchdog := some (s.port p).period
          consumer := if v < g.size then v else (s.port p).consumer } ∧
        (∀ q, q ≠ p → t.port q = s.port q) ∧ t = { s with ports := t.ports, damage := s.damage ++ errs })

/-- R179: a consumer-index write that leaves k positions free lets up to k of the waiting records be written, in the order in which
their writers began to wait: the completion in hand, the oldest notice and the ATTENTION record, in whichever order these wait; the
others wait on. A writer with a further record joins the tail again. -/
def Obligations.GrantsFollowWaitingOrder : Prop :=
  ∀ (s : State) (p : PortNo) (v k : Nat) (errs : List DramError) (g : Ring) (c : Completion) (n : Notice)
    (response : Writer → Response),
    s.attached p = true → (s.port p).Rings g → v < g.size → s.NoneStarvedOfContainers →
    (s.port p).hand = some (.completion c false) → (s.port p).attnHeld = true →
    k = ({ s.port p with consumer := v } : Port).free →
    (∀ w, response w =
      match w with
      | .command => .completion c
      | .notices => .container n
      | .attention | .lane _ | .reclaim => .attention (s.port p).summary) →
    ((s.port p).waiting.Nodup → (∀ w ∈ (s.port p).waiting, w = .command ∨ w = .notices ∨ w = .attention) →
      (s.port p).notices = [n] →
      ∃ t, exec (.consumerIndexWrite p v errs) s = .next t ∧
        (∀ i w, i < k → (s.port p).waiting[i]? = some w →
          t.ringRecord p (((s.port p).producer + i) % g.size) =
            (response w).bytes p (if (s.port p).producer + i < g.size then (s.port p).pass else !(s.port p).pass)) ∧
        (t.port p).producer = ((s.port p).producer + min k (s.port p).waiting.length) % g.size ∧
        t.port p = { s.port p with
          watchdog := some (s.port p).period, consumer := v, producer := (t.port p).producer
          pass :=
            if (s.port p).producer + min k (s.port p).waiting.length < g.size then (s.port p).pass else !(s.port p).pass
          waiting := (s.port p).waiting.drop k
          hand := if Writer.command ∈ (s.port p).waiting.take k then none else (s.port p).hand
          notices := if Writer.notices ∈ (s.port p).waiting.take k then [] else [n]
          attnHeld := decide (Writer.attention ∉ (s.port p).waiting.take k) } ∧
        (∀ q, q ≠ p → t.port q = s.port q ∧ t.memory[q] = s.memory[q]) ∧
        t = { s with ports := t.ports, memory := t.memory, damage := s.damage ++ errs }) ∧
    (∀ m more, k = 1 → (s.port p).waiting = [.notices, .attention] → (s.port p).notices = n :: m :: more →
      ∃ t, exec (.consumerIndexWrite p v errs) s = .next t ∧
        t.ringRecord p (s.port p).producer = (Response.container n).bytes p (s.port p).pass ∧
        t.port p = { (s.port p).advanced with
          watchdog := some (s.port p).period, consumer := v, waiting := [.attention, .notices], notices := m :: more } ∧
        (∀ q, q ≠ p → t.port q = s.port q ∧ t.memory[q] = s.memory[q]) ∧
        t = { s with ports := t.ports, memory := t.memory, damage := s.damage ++ errs })

/-- R174, R157: a port not ATTACHED removes a command other than ATTACH without effect, without completion and without counting
it, and a link reset of it empties its queue. R195: a command kind that is not one of #01 to #1B is answered BAD_PARAM with the
kind echoed, and changes nothing else. -/
def Obligations.StrayCommandsHaveNoEffect : Prop :=
  (∀ (s : State) (p : PortNo) (r : CommandRecord), s.attached p = false →
    (s.front? p = some r → recKind r ≠ 0x01 → ∃ t, exec (.commandRemovedUnattached p) s = .next t ∧
      t.port p = { s.port p with queue := (s.port p).queue.drop 1 } ∧ (∀ q, q ≠ p → t.port q = s.port q) ∧
      t = { s with ports := t.ports }) ∧
    (∀ errs, ∃ t, exec (.linkReset p errs) s = .next t ∧ t.port p = { s.port p with queue := [] } ∧
      (∀ q, q ≠ p → t.port q = s.port q) ∧ t = { s with ports := t.ports, damage := s.damage ++ errs })) ∧
  (∀ (s : State) (p : PortNo) (r : CommandRecord), s.Takes p r (recKind r) → recKind r = 0 ∨ 0x1C ≤ recKind r →
    ∃ t, exec (.unknownCommandKind p) s = .next t ∧ s.Refused t p r .badParam)

/-- R175, R27: an ATTACH that passes its checks attaches the port with the ring, watchdog and occupancy watch it carries, and with an
empty summary, whatever occupancy stands at: the watch judges no level; its completion is the record at position 0 of the new ring,
under pass mark 1. On an ATTACHED port it is REFUSED_STATE; with a parameter out of range its completion is discarded and counted,
and the port stays as it was. -/
def Obligations.AttachOpensRingOrIsRefused : Prop :=
  (∀ (s : State) (p : PortNo) (r : CommandRecord) (m : WatchMode),
    s.front? p = some r → recKind r = 0x01 → s.attached p = false → (s.port p).waiting = [] →
    numAt r 4 8 % 128 = 0 → (∃ k, 8 ≤ k ∧ k ≤ 16 ∧ numAt r 12 4 = 2 ^ k) → 10 ≤ numAt r 16 4 → numAt r 16 4 ≤ 60000 →
    numAt r 20 4 ≤ 67108864 → watchModeOf? (byteAt r 24) = some m →
    ∃ t, exec (.attach p) s = .next t ∧
      t.port p = { s.port p with
        state := .attached
        queue := (s.port p).queue.drop 1
        hand := none
        ring := some { address := numAt r 4 8, size := numAt r 12 4 }
        producer := 1
        consumer := 0
        pass := true
        summary := Summary.empty
        watchdog := some (numAt r 16 4)
        period := numAt r 16 4
        watchThreshold := numAt r 20 4
        watchMode := m } ∧
      t.ringRecord p 0 = (Response.completion
        { kind := 0x01, tag := recTag r, outcome := .ok,
          fields := [.num 1 p.val, .num 1 s.device.code, .num 4 s.epoch, .num 8 ((s.port p).failSafeTime.getD 0)] }).bytes p true ∧
      (∀ q, q ≠ p → t.port q = s.port q ∧ t.memory[q] = s.memory[q]) ∧ t = { s with ports := t.ports, memory := t.memory }) ∧
  (∀ (s : State) (p : PortNo) (r : CommandRecord),
    (s.Takes p r 0x01 → ∃ t, exec (.attach p) s = .next t ∧ s.Refused t p r .refusedState) ∧
    (s.front? p = some r → recKind r = 0x01 → s.attached p = false →
      (numAt r 4 8 % 128 ≠ 0 ∨ (∀ k, 8 ≤ k → k ≤ 16 → numAt r 12 4 ≠ 2 ^ k) ∨ numAt r 16 4 < 10 ∨ 60000 < numAt r 16 4 ∨
        67108864 < numAt r 20 4 ∨ watchModeOf? (byteAt r 24) = none) →
      ∃ t, exec (.attach p) s = .next t ∧ t.port p = { s.port p with queue := (s.port p).queue.drop 1, hand := none } ∧
        (∀ q, q ≠ p → t.port q = s.port q) ∧ t = { s with ports := t.ports, discarded := min 4294967295 (s.discarded + 1) }))

/-- R176, R150: a DETACH from a port that owns a lane, proposed the open proposal or holds a freeze is answered BUSY. Otherwise its
completion is written and the port is DETACHED: watchdog STOPPED, queue and summary empty, nothing waiting, and no sweep of it; it
leaves the sets of the open proposal, which applies when the other required ports have consented. R179, R180, R181: a completion
that finds no free position stays in hand, and the port ATTACHED, until a freed position is granted for it: the port is DETACHED in
that step, and the other records that waited for its ring are discarded and counted. -/
def Obligations.DetachLeavesOrIsBusy : Prop :=
  (∀ (s : State) (p : PortNo) (r : CommandRecord) (errs : List DramError), s.Takes p r 0x02 →
    (((∃ n, (s.lane n).state ≠ .free ∧ (s.lane n).owner = some p) ∨ (∃ q, s.proposal = some q ∧ q.proposer = p) ∨
        (s.port p).freeze = true) →
      ∃ t, exec (.detach p errs) s = .next t ∧ s.Answered t p r .busy [] ∧
        t = { s with ports := t.ports, memory := t.memory, damage := s.damage ++ errs }) ∧
    ((∀ n, (s.lane n).owner = some p → (s.lane n).state = .free) → (∀ q, s.proposal = some q → q.proposer ≠ p) →
      (s.port p).freeze = false →
      ∃ t, exec (.detach p errs) s = .next t ∧ (t.port p).state = .detached ∧ (t.port p).watchdog = none ∧
        (t.port p).queue = [] ∧ (t.port p).hand = none ∧ (t.port p).waiting = [] ∧ (t.port p).notices = [] ∧
        (t.port p).summary = Summary.empty ∧ (s.scanner.requester = some p → t.scanner.requester = none) ∧
        t.ringRecord p (s.port p).producer =
          (Response.completion { kind := 0x02, tag := recTag r, outcome := .ok, fields := [] }).bytes p (s.port p).pass ∧
        (s.proposal = none → t.proposal = none) ∧
        (∀ q, s.proposal = some q →
          (p ∉ q.required → t.proposal = some q) ∧
          (p ∈ q.required → (∃ k ∈ q.required, k ≠ p ∧ k ∉ q.received) →
            t.proposal = some { q with
              required := q.required.filter fun k => decide (k ≠ p), received := q.received.filter fun k => decide (k ≠ p) }) ∧
          (p ∈ q.required → (∀ k ∈ q.required, k ≠ p → k ∈ q.received) →
            t.proposal = none ∧ t.lastEnded = some
              { body := q.body
                outcome := if q.body = .serviceStart ∧ s.device ≠ .rebuild then .voided else .applied })))) ∧
  (∀ (s : State) (p : PortNo) (r : CommandRecord) (errs : List DramError),
    s.front? p = some r → recKind r = 0x02 → s.attached p = true → s.canWrite p = false →
    (∀ n, (s.lane n).owner = some p → (s.lane n).state = .free) → (∀ q, s.proposal = some q → q.proposer ≠ p) →
    (s.port p).freeze = false →
    ∃ t, exec (.detach p errs) s = .next t ∧
      t.port p = { s.port p with
        queue := (s.port p).queue.drop 1
        hand := some (.completion { kind := 0x02, tag := recTag r, outcome := .ok, fields := [] } true)
        waiting := if Writer.command ∈ (s.port p).waiting then (s.port p).waiting else (s.port p).waiting ++ [.command] } ∧
      t.front? p = none ∧ (∀ q, q ≠ p → t.port q = s.port q) ∧ t = { s with ports := t.ports, damage := s.damage ++ errs }) ∧
  (∀ (s : State) (p : PortNo) (v : Nat) (errs : List DramError) (g : Ring) (c : Completion) (rest : List Writer),
    s.attached p = true → (s.port p).Rings g → v < g.size → 0 < ({ s.port p with consumer := v } : Port).free →
    (s.port p).hand = some (.completion c true) → (s.port p).waiting = .command :: rest →
    (∀ n, (s.lane n).owner = some p → (s.lane n).state = .free) → s.proposal = none → s.scanner.requester ≠ some p →
    ∃ t, exec (.consumerIndexWrite p v errs) s = .next t ∧
      t.ringRecord p (s.port p).producer = (Response.completion c).bytes p (s.port p).pass ∧
      t.port p = { (s.port p).advanced with
        state := .detached, consumer := v, watchdog := none, queue := [], hand := none, summary := Summary.empty
        attnHeld := false, notices := [], waiting := [] } ∧
      (∀ q, q ≠ p → t.port q = s.port q ∧ t.memory[q] = s.memory[q]) ∧
      t = { s with
        ports := t.ports, memory := t.memory, damage := s.damage ++ errs
        scanner := { s.scanner with queue := s.scanner.queue.filter fun x => decide (x.port ≠ p) }
        discarded := min 4294967295 (s.discarded + (s.port p).notices.length + bit (s.port p).attnHeld +
          (s.scanner.queue.filter fun x => decide (x.port = p)).length) })

/-- R184: READ_ATTENTION copies the port's attention summary into its completion and empties it in one step. -/
def Obligations.ReadAttentionEmptiesSummary : Prop :=
  ∀ (s : State) (p : PortNo) (r : CommandRecord), s.Takes p r 0x1A →
    ∃ t, exec (.readAttention p) s = .next t ∧
      s.Answered t p r .ok [.raw (summaryBytes (s.port p).summary)] (fun q => { q with summary := Summary.empty }) ∧
      t = { s with ports := t.ports, memory := t.memory }

/-- R185: DEVICE_STATUS reads the state of the device in one step and changes no state. R173, R179, R180: a completion that finds no
free position, or a writer waiting before it, stands in hand; command processing joins the waiting writers, and no further command
is taken. The widths of the fields are the model's choice (notes/assumptions/14.md). -/
def Obligations.DeviceStatusReads : Prop :=
  ∀ (s : State) (p : PortNo) (r : CommandRecord) (fields : List Field),
    s.front? p = some r → recKind r = 0x1B → s.attached p = true →
    fields =
      [.num 1 s.device.code, .num 4 s.epoch, .num 1 (bit s.advancePending), .num 4 s.occupancy, .num 4 s.poisonCount,
       .num 2 s.table.length, .num 2 (s.table.filter Container.isOpen).length,
       .num 2 (s.table.filter fun c => !c.isOpen).length, .num 2 (s.lanesIn .free), .num 2 (s.lanesIn .active),
       .num 2 (s.lanesIn .checkpointing), .num 2 (s.lanesIn .closing), .num 2 (s.lanesIn .aborting),
       .num 2 (s.lanesIn .orphaned), .num 1 s.scanner.state.code, .num 4 s.scanner.cursor, .num 4 s.discarded,
       .num 4 s.correctable, .num 4 s.collisions, .num 8 s.counter] ++
      (match s.proposal with
        | some q => [.num 1 q.body.code, .num 1 q.body.target, .num 1 q.proposer.val, .num 1 (maskOf (q.required.map Fin.val)),
            .num 1 (maskOf (q.received.map Fin.val)), .num 4 (q.deadline.getD 0)]
        | none => [.num 1 0, .num 1 0xFF, .num 1 0xFF, .num 1 0, .num 1 0, .num 4 0]) ++
      [.num 1 (s.port 0).state.code, .num 1 (s.port 1).state.code, .num 1 (s.port 2).state.code,
       .num 1 (s.port 3).state.code] →
    (s.canWrite p = true →
      ∃ t, exec (.deviceStatus p) s = .next t ∧ s.Answered t p r .ok fields ∧ s.OnlyPorts t) ∧
    (s.canWrite p = false →
      ∃ t, exec (.deviceStatus p) s = .next t ∧
        t.port p = { s.port p with
          queue := (s.port p).queue.drop 1
          hand := some (.completion { kind := 0x1B, tag := recTag r, outcome := .ok, fields := fields } false)
          waiting := if Writer.command ∈ (s.port p).waiting then (s.port p).waiting else (s.port p).waiting ++ [.command] } ∧
        t.front? p = none ∧ (∀ q, q ≠ p → t.port q = s.port q) ∧ t = { s with ports := t.ports })

/-- R182, R183: a flag set at an attached port is set, or gains its again-mark when it was set, with the lane or port the event names
joined to its set and the consent field replaced by the ending; in an empty summary it makes one ATTENTION record, written with the
summary as it then stands when a position is free and no writer waits, held otherwise, unless one is held already; in a summary
with a flag set it makes none. At a port not ATTACHED it has no effect. The dropped command of R172 sets QUEUE_OVERRUN so. That the
record is written at the first of several flags of one step is the model's choice (notes/assumptions/32.md). -/
def Obligations.FlagInEmptySummaryMakesAttention : Prop :=
  (∀ (s : State) (p : PortNo) (f : Flag) (c : Carry) (made : Summary),
    (∀ x, made.mark x =
      if x = f then (if (s.port p).summary.mark f = .clear then .set else .again) else (s.port p).summary.mark x) →
    made.peers =
      (match f, c with | .peerFailsafe, .port q => joinSet (s.port p).summary.peers q | _, _ => (s.port p).summary.peers) →
    made.journalLanes =
      (match f, c with
        | .journalHigh, .lanes ns => ns.foldl joinSet (s.port p).summary.journalLanes
        | _, _ => (s.port p).summary.journalLanes) →
    made.orphanedLanes =
      (match f, c with
        | .laneOrphaned, .lanes ns => ns.foldl joinSet (s.port p).summary.orphanedLanes
        | _, _ => (s.port p).summary.orphanedLanes) →
    made.expiredLanes =
      (match f, c with
        | .orphanExpired, .lanes ns => ns.foldl joinSet (s.port p).summary.expiredLanes
        | _, _ => (s.port p).summary.expiredLanes) →
    made.ending = (match f, c with | .consentEnded, .ending e => some e | _, _ => (s.port p).summary.ending) →
    (s.attached p = true → (s.port p).summary.isEmpty = true → (s.port p).attnHeld = false → s.canWrite p = true →
      s.Wrote (s.setFlag p f c) p (.attention made) { (s.port p).advanced with summary := made } ∧
        s.OnlyPorts (s.setFlag p f c)) ∧
    (s.attached p = true → (s.port p).summary.isEmpty = true → (s.port p).attnHeld = false → s.canWrite p = false →
      Writer.attention ∉ (s.port p).waiting →
      s.setFlag p f c = s.setPort p { s.port p with
        summary := made, attnHeld := true, waiting := (s.port p).waiting ++ [.attention] }) ∧
    (s.attached p = true → (s.port p).summary.isEmpty = false ∨ (s.port p).attnHeld = true →
      s.setFlag p f c = s.setPort p { s.port p with summary := made }) ∧
    (s.attached p = false → s.setFlag p f c = s)) ∧
  (∀ (s : State) (p : PortNo) (r : CommandRecord), 64 ≤ (s.port p).queue.length →
    exec (.commandWrite p r) s = .next (s.setFlag p .queueOverrun .none))

/-! ### Lane commands -/

/-- R50, R51: an OPEN_LANE that passes takes the lowest-numbered FREE lane, ACTIVE with the settings it carries, STARVED, and all
else idle; its profile slot gains a use. -/
def Obligations.OpenLaneTakesLowestFreeLane : Prop :=
  ∀ (s : State) (p : PortNo) (r : CommandRecord) (n : LaneNo) (i : Fin 4) (src : CutSource) (act : FailAction) (coal : Coalescing)
    (prof : Profile) (roll : Word32) (uses : Nat),
    s.Takes p r 0x03 → s.device ≠ .rebuild → byteAt r 4 = i.val → cutSourceOf? (byteAt r 5) = some src →
    failActionOf? (byteAt r 6) = some act → 1 ≤ byteAt r 7 → byteAt r 7 ≤ 15 → coalescingOf? (byteAt r 8) = some coal →
    s.slots[i] = .active prof roll uses → (s.lane n).state = .free → (∀ m, m < n → (s.lane m).state ≠ .free) →
    ∃ t, exec (.openLane p) s = .next t ∧ s.Answered t p r .ok [.num 1 n.val] ∧
      s.LaneBecomes t n { Lane.free with
        state := .active, owner := some p, label := numAt r 16 8, slot := i, cutSource := src, action := act, coalescing := coal,
        weight := byteAt r 7, stalls := { Stalls.clear with starved := true } } ∧
      t = { s with
        ports := t.ports, memory := t.memory, lanes := t.lanes, slots := s.slots.set i (.active prof roll (uses + 1)),
        expired := s.expired.set n false }

/-- R50, R52, R108, R115, R166: the checks of OPEN_LANE, of FEED and MARK, and of ABORT_LANE, ADOPT_LANE and READ_JOURNAL, each in
their order: the first that fails gives the outcome, and a refused command changes nothing. -/
def Obligations.LaneCommandsAreRefused : Prop :=
  (∀ (s : State) (p : PortNo) (r : CommandRecord), s.Takes p r 0x03 →
    (s.device = .rebuild → ∃ t, exec (.openLane p) s = .next t ∧ s.Refused t p r .refusedState) ∧
    (s.device ≠ .rebuild →
      (4 ≤ byteAt r 4 ∨ (∃ i : Fin 4, byteAt r 4 = i.val ∧ ∀ prof roll uses, s.slots[i] ≠ .active prof roll uses) ∨
        2 < byteAt r 5 ∨ 1 < byteAt r 6 ∨ byteAt r 7 < 1 ∨ 15 < byteAt r 7 ∨ 1 < byteAt r 8) →
      ∃ t, exec (.openLane p) s = .next t ∧ s.Refused t p r .badParam) ∧
    (∀ (i : Fin 4) (prof : Profile) (roll : Word32) (uses : Nat), s.device ≠ .rebuild → byteAt r 4 = i.val →
      s.slots[i] = .active prof roll uses → byteAt r 5 ≤ 2 → byteAt r 6 ≤ 1 → 1 ≤ byteAt r 7 → byteAt r 7 ≤ 15 →
      byteAt r 8 ≤ 1 → (∀ m, (s.lane m).state ≠ .free) →
      ∃ t, exec (.openLane p) s = .next t ∧ s.Refused t p r .full)) ∧
  (∀ (s : State) (p : PortNo) (r : CommandRecord),
    (s.Takes p r 0x04 → (64 ≤ recLane r ∨ numAt r 16 4 < 1 ∨ 16777216 < numAt r 16 4) →
      ∃ t, exec (.feed p) s = .next t ∧ s.Refused t p r .badParam) ∧
    (s.Takes p r 0x05 → (64 ≤ recLane r ∨ 4 ≤ byteAt r 5) → ∃ t, exec (.mark p) s = .next t ∧ s.Refused t p r .badParam) ∧
    (∀ (n : LaneNo) (c : Instr), recLane r = n.val →
      (c = .feed p ∧ s.Takes p r 0x04 ∧ 1 ≤ numAt r 16 4 ∧ numAt r 16 4 ≤ 16777216 ∨
        c = .mark p ∧ s.Takes p r 0x05 ∧ byteAt r 5 ≤ 3) →
      ¬((s.lane n).owner = some p ∧ ((s.lane n).state = .active ∨ (s.lane n).state = .checkpointing) ∧
        Item.finish ∉ (s.lane n).items ∧ (s.lane n).items.length < 32) →
      ∃ t, exec c s = .next t ∧ s.Refused t p r
        (if (s.lane n).state = .free then .refusedState
         else if (s.lane n).owner ≠ some p then .notOwner
         else if (s.lane n).state ≠ .active ∧ (s.lane n).state ≠ .checkpointing then .refusedState
         else if Item.finish ∈ (s.lane n).items then .refusedState
         else .full))) ∧
  (∀ (s : State) (p : PortNo) (r : CommandRecord) (errs : List DramError),
    (s.Takes p r 0x08 →
      (64 ≤ recLane r → ∃ t, exec (.abortLane p) s = .next t ∧ s.Refused t p r .badParam) ∧
      (∀ n : LaneNo, recLane r = n.val →
        ((s.lane n).state = .free ∨ (s.lane n).state = .aborting →
          ∃ t, exec (.abortLane p) s = .next t ∧ s.Refused t p r .refusedState) ∧
        ((s.lane n).state ≠ .free → (s.lane n).state ≠ .aborting → (∃ q, (s.lane n).owner = some q ∧ q ≠ p) →
          ∃ t, exec (.abortLane p) s = .next t ∧ s.Refused t p r .notOwner) ∧
        ((s.lane n).state = .orphaned → (s.lane n).owner = none → ¬s.QuietPassed n →
          ∃ t, exec (.abortLane p) s = .next t ∧ s.Refused t p r .tooEarly))) ∧
    (s.Takes p r 0x09 →
      (64 ≤ recLane r → ∃ t, exec (.adoptLane p) s = .next t ∧ s.Refused t p r .badParam) ∧
      (∀ n : LaneNo, recLane r = n.val →
        ((s.lane n).state ≠ .orphaned → ∃ t, exec (.adoptLane p) s = .next t ∧
          s.Refused t p r (if s.expired[n] = true then .late else .refusedState)) ∧
        ((s.lane n).state = .orphaned → ¬s.QuietPassed n →
          ∃ t, exec (.adoptLane p) s = .next t ∧ s.Refused t p r .tooEarly))) ∧
    (s.Takes p r 0x0A →
      ((64 ≤ recLane r ∨ 262143 < numAt r 8 4) → ∃ t, exec (.readJournal p errs) s = .next t ∧ s.Refused t p r .badParam) ∧
      (∀ n : LaneNo, recLane r = n.val → numAt r 8 4 ≤ 262143 →
        ((s.lane n).state = .free → ∃ t, exec (.readJournal p errs) s = .next t ∧ s.Refused t p r .refusedState) ∧
        ((s.lane n).state ≠ .free → (∃ q, (s.lane n).owner = some q ∧ q ≠ p) →
          ∃ t, exec (.readJournal p errs) s = .next t ∧ s.Refused t p r .notOwner) ∧
        ((s.lane n).state ≠ .free → (s.lane n).owner = none → ¬s.QuietPassed n →
          ∃ t, exec (.readJournal p errs) s = .next t ∧ s.Refused t p r .tooEarly))))

/-- R52, R64: a FEED or MARK that passes appends its item at the tail of the lane's queue, which removes STARVED, and answers with
the number of items. -/
def Obligations.ItemsJoinTheLaneQueue : Prop :=
  ∀ (s : State) (p : PortNo) (r : CommandRecord) (n : LaneNo) (c : Instr) (i : Item),
    (c = .feed p ∧ s.Takes p r 0x04 ∧ 1 ≤ numAt r 16 4 ∧ numAt r 16 4 ≤ 16777216 ∧ i = .data (numAt r 8 8) (numAt r 16 4) 0 ∨
      c = .mark p ∧ s.Takes p r 0x05 ∧
        (byteAt r 5 = 0 ∧ i = .cut ∨ byteAt r 5 = 1 ∧ i = .tag (numAt r 8 4) ∨ byteAt r 5 = 2 ∧ i = .checkpoint ∨
          byteAt r 5 = 3 ∧ i = .finish)) →
    recLane r = n.val → (s.lane n).owner = some p → ((s.lane n).state = .active ∨ (s.lane n).state = .checkpointing) →
    Item.finish ∉ (s.lane n).items → (s.lane n).items.length < 32 →
    ∃ t, exec c s = .next t ∧ s.Answered t p r .ok [.num 2 ((s.lane n).items.length + 1)] ∧
      s.LaneBecomes t n { s.lane n with
        items := (s.lane n).items ++ [i], stalls := { (s.lane n).stalls with starved := false } } ∧
      t = { s with ports := t.ports, memory := t.memory, lanes := t.lanes }

/-- R58: SET_LANE_WEIGHT stages a weight of 1 to 15 on a lane of the sending port in service, replacing one already staged; its
checks are those of FEED without the END and 32-item checks. -/
def Obligations.SetLaneWeightStagesWeight : Prop :=
  ∀ (s : State) (p : PortNo) (r : CommandRecord), s.Takes p r 0x06 →
    ((64 ≤ recLane r ∨ byteAt r 5 < 1 ∨ 15 < byteAt r 5) →
      ∃ t, exec (.setLaneWeight p) s = .next t ∧ s.Refused t p r .badParam) ∧
    (∀ n : LaneNo, recLane r = n.val → 1 ≤ byteAt r 5 → byteAt r 5 ≤ 15 →
      ((s.lane n).owner = some p → (s.lane n).state.serves = true →
        ∃ t, exec (.setLaneWeight p) s = .next t ∧ s.Answered t p r .ok [] ∧
          s.LaneBecomes t n { s.lane n with staged := some (byteAt r 5) } ∧
          t = { s with ports := t.ports, memory := t.memory, lanes := t.lanes }) ∧
      (¬((s.lane n).owner = some p ∧ (s.lane n).state.serves = true) →
        ∃ t, exec (.setLaneWeight p) s = .next t ∧ s.Refused t p r
          (if (s.lane n).state = .free then .refusedState else if (s.lane n).owner ≠ some p then .notOwner else .refusedState)))

/-- R59: LANE_STATUS reads the record of any lane in one step, of a FREE lane its number and state alone, and changes nothing. The
widths of the fields are the model's choice (notes/assumptions/14.md). -/
def Obligations.LaneStatusReads : Prop :=
  ∀ (s : State) (p : PortNo) (r : CommandRecord), s.Takes p r 0x07 →
    (64 ≤ recLane r → ∃ t, exec (.laneStatus p) s = .next t ∧ s.Refused t p r .badParam) ∧
    (∀ (n : LaneNo) (l : Lane), recLane r = n.val → s.lane n = l → l.state ≠ .free →
      ∃ t, exec (.laneStatus p) s = .next t ∧ s.OnlyPorts t ∧ s.Answered t p r .ok
        [.num 1 n.val, .num 1 l.state.code, byteOr ((l.owner.orElse fun _ => l.former).map Fin.val),
         .num 1 ((l.resume.map LaneState.code).getD 0), .num 8 l.label, .num 1 l.slot.val, .num 1 l.cutSource.code,
         .num 1 l.action.code, .num 1 l.coalescing.code, .num 1 l.weight, .num 1 (l.staged.getD 0), .num 8 l.offset.toNat,
         .num 4 (l.nextSeq.getD 0), .num 4 l.part.length, .num 1 (bit l.chunk.isSome), .num 2 l.items.length,
         .num 1 ((l.items.head?.map Item.code).getD 0), .num 4 (tagValue l.tag),
         .num 1 (bit ((l.tag.map Tag.overrun).getD false)), .num 1 ((l.run.map fun r => r.elems.length).getD 0),
         .num 1 (bit (match l.held with | some (.verdict _) => true | _ => false)), .num 1 l.cls.code,
         .num 1 ((l.candidate.map LaneClass.code).getD 0), .num 1 l.agreement, .num 2 l.windowChunks, .num 2 l.windowDups,
         .num 1 l.stalls.code, .num 4 (l.waitTarget.getD 0), byteOr (l.grant.map fun g => g.engine.val),
         .num 4 (l.openC.getD 0), .num 2 l.unsettled.length, .num 4 l.journal.length]) ∧
    (∀ n : LaneNo, recLane r = n.val → (s.lane n).state = .free →
      ∃ t fs, exec (.laneStatus p) s = .next t ∧ s.OnlyPorts t ∧
        s.Answered t p r .ok (.num 1 n.val :: .num 1 0 :: fs) ∧ ∀ f ∈ fs, ∃ w, f = .num w 0 ∨ f = .num 1 0xFF)

/-- R108, R109, R165: a lane aborted by ABORT_LANE, or by the expiry of its orphan limit with its expired mark and ORPHAN_EXPIRED
at every attached port, becomes ABORTING: its stream, tags and waits are given up, its journal and containers are kept for the
withdrawal and the walk, and a run under construction is closed. R110, R111, R113: with neither containers nor journal entries its
walk ends at once: its ABORTED record is written, or discarded and counted when it has no owner port, and it is FREE. That a closed
run waits, that ACCEPTED comes before the ABORTED record, and that the expiry is taken at 0 ms, are the model's choice
(notes/assumptions/10.md, 13.md, 2.md). -/
def Obligations.AbortedLaneEntersAborting : Prop :=
  (∀ (s : State) (p : PortNo) (r : CommandRecord) (n : LaneNo) (l : Lane) (record : AbortCause → AbortRecord)
    (aborted : AbortCause → Lane),
    s.lane n = l → (l.unsettled ≠ [] ∨ l.journal ≠ []) → s.settlings = [] → s.turns = [] →
    (∀ q, Writer.lane n ∉ (s.port q).waiting) →
    (∀ cause, record cause =
      { cause := cause, stateAt := l.state, withdrawn := 0, released := 0, pinned := 0, stale := 0, underflow := 0,
        poisoned := 0, skipped := 0, walkEnded := false, discard := false }) →
    (∀ cause, aborted cause = { l with
      state := .aborting, grant := none, items := [], part := Partial.empty, chunk := none, waitTarget := none,
      run := l.run.map fun r => { r with closed := true }, stalls := { Stalls.clear with ringFull := l.stalls.ringFull },
      tag := none, keptTag := none, staged := none, resume := none, ckSettled := 0, ckWithdrawn := 0,
      abort := some (record cause) }) →
    (s.Takes p r 0x08 → recLane r = n.val →
      (l.owner = some p ∧ l.state.serves = true ∨ l.owner = none ∧ l.state = .orphaned ∧ s.QuietPassed n) →
      ∃ t, exec (.abortLane p) s = .next t ∧ s.Answered t p r .accepted [] ∧ s.LaneBecomes t n (aborted .command) ∧
        t = { s with
          ports := t.ports, memory := t.memory, lanes := t.lanes, orphanTimers := s.orphanTimers.set n none
          table := s.table.map fun c => { c with waiters := c.waiters.filter fun w => decide (w.1 ≠ n) } }) ∧
    (l.state = .orphaned → s.orphanTimers[n] = some 0 → s.Alert →
      ∃ t, exec (.orphanLimitExpiry n) s = .next t ∧ s.LaneBecomes t n (aborted .orphanExpired) ∧
        t = { s.flaggedAt (fun _ => true) .orphanExpired (.lanes [n]) with
          lanes := t.lanes, orphanTimers := s.orphanTimers.set n none, expired := s.expired.set n true
          table := s.table.map fun c => { c with waiters := c.waiters.filter fun w => decide (w.1 ≠ n) } })) ∧
  (∀ (s : State) (p : PortNo) (r : CommandRecord) (n : LaneNo) (l : Lane) (slot : ProfileSlot),
    s.lane n = l → l.unsettled = [] → l.journal = [] → s.settlings = [] → s.turns = [] →
    (∀ q, Writer.lane n ∉ (s.port q).waiting) → s.slots[l.slot].LosesLane slot →
    (∀ g, s.Takes p r 0x08 → recLane r = n.val → l.owner = some p → l.state.serves = true → l.run = none → l.held = none →
      (s.port p).Rings g → 2 ≤ (s.port p).free →
      ∃ t, exec (.abortLane p) s = .next t ∧
        t.ringRecord p (s.port p).producer =
          (Response.completion { kind := 0x08, tag := recTag r, outcome := .accepted, fields := [] }).bytes p (s.port p).pass ∧
        t.ringRecord p (s.port p).advanced.producer =
          (Response.lane
            { lane := n, forced := false, unresolved := false, detail := AbortCause.command.code, stateCode := l.state.code,
              offset := l.offset, nextSeq := l.nextSeq.getD 0, tag := none, body := .aborted 0 0 0 0 0 0 0 }).bytes p
            (s.port p).advanced.pass ∧
        t.port p = (s.port p).answered.advanced ∧ (∀ q, q ≠ p → t.port q = s.port q ∧ t.memory[q] = s.memory[q]) ∧
        s.LaneBecomes t n Lane.free ∧
        t = { s with
          ports := t.ports, memory := t.memory, lanes := t.lanes, orphanTimers := s.orphanTimers.set n none
          slots := s.slots.set l.slot slot
          table := s.table.map fun c => { c with waiters := c.waiters.filter fun w => decide (w.1 ≠ n) } }) ∧
    (s.Takes p r 0x08 → recLane r = n.val → l.owner = none → l.state = .orphaned → s.QuietPassed n →
      ∃ t, exec (.abortLane p) s = .next t ∧ s.Answered t p r .accepted [] ∧ s.LaneBecomes t n Lane.free ∧
        t = { s with
          ports := t.ports, memory := t.memory, lanes := t.lanes, orphanTimers := s.orphanTimers.set n none
          slots := s.slots.set l.slot slot
          discarded := min 4294967295 (s.discarded + (1 + bit l.run.isSome + bit l.held.isSome))
          table := s.table.map fun c => { c with waiters := c.waiters.filter fun w => decide (w.1 ≠ n) } }) ∧
    (l.owner = none → l.state = .orphaned → s.orphanTimers[n] = some 0 → s.Alert →
      ∃ t, exec (.orphanLimitExpiry n) s = .next t ∧ s.LaneBecomes t n Lane.free ∧
        t = { s.flaggedAt (fun _ => true) .orphanExpired (.lanes [n]) with
          lanes := t.lanes, orphanTimers := s.orphanTimers.set n none, expired := s.expired.set n true
          slots := s.slots.set l.slot slot
          discarded := min 4294967295 (s.discarded + (1 + bit l.run.isSome + bit l.held.isSome))
          table := s.table.map fun c => { c with waiters := c.waiters.filter fun w => decide (w.1 ≠ n) } }))

/-- R166, R167, R168: a lane adopted after the quiet interval becomes the adopter's in its resume state; its ADOPTED record, with
what the lane carried over the failure, is written after the completion; its containers' owner port becomes the adopter. The order
of the two records and the moment of STARVED are the model's choice (notes/assumptions/13.md, 8.md). -/
def Obligations.AdoptedLaneResumes : Prop :=
  ∀ (s : State) (p former : PortNo) (r : CommandRecord) (n : LaneNo) (g : Ring) (resume : LaneState),
    s.Takes p r 0x09 → recLane r = n.val → (s.lane n).state = .orphaned → (s.lane n).former = some former → s.QuietPassed n →
    (s.lane n).resume = some resume → (s.lane n).stalls = Stalls.clear → (s.lane n).run = none → (s.lane n).held = none →
    (s.lane n).items = [] → (s.lane n).grant = none → s.NoneStarvedOfContainers → (s.port p).Rings g → 2 ≤ (s.port p).free →
    (resume = .active ∧ ((s.lane n).chunk = none ∨ (s.lane n).journal.length < 262144) ∨
      (resume = .checkpointing ∨ resume = .closing) ∧ (s.lane n).unsettled ≠ []) →
    ∃ t, exec (.adoptLane p) s = .next t ∧
      t.ringRecord p (s.port p).producer =
        (Response.completion { kind := 0x09, tag := recTag r, outcome := .ok, fields := [.num 1 n.val] }).bytes p (s.port p).pass ∧
      t.ringRecord p (s.port p).advanced.producer =
        (Response.lane
          { lane := n, forced := false, unresolved := (s.lane n).chunk.isSome, detail := former.val, stateCode := resume.code,
            offset := (s.lane n).offset, nextSeq := (s.lane n).nextSeq.getD 0, tag := (s.lane n).tag,
            body := .adopted (s.lane n).part.length (((s.lane n).chunk.map Chunk.length).getD 0)
              (((s.lane n).chunk.map Chunk.first).getD 0) (s.lane n).journal.length (s.lane n).unsettled.length }).bytes p
          (s.port p).advanced.pass ∧
      t.port p = { (s.port p).answered.advanced with hand := none } ∧
      (∀ q, q ≠ p → t.port q = s.port q ∧ t.memory[q] = s.memory[q]) ∧
      s.LaneBecomes t n { s.lane n with
        owner := some p, former := none, resume := none, state := resume,
        stalls := if resume = .active ∧ (s.lane n).chunk = none then { Stalls.clear with starved := true } else Stalls.clear } ∧
      t = { s with
        ports := t.ports, memory := t.memory, lanes := t.lanes, orphanTimers := s.orphanTimers.set n none
        table := s.table.map fun c => if c.ownerLane = n then { c with ownerPort := p } else c }

/-- R115, R116, R190: READ_JOURNAL answers with up to six entries from its start number on, a place in error as DAMAGED, with the
number of entries and the oldest sequence number of the journal; it changes nothing. The places and widths of the fields, and the
oldest sequence of a damaged entry, are the model's choice (notes/assumptions/14.md, 20.md). -/
def Obligations.ReadJournalReturnsEntries : Prop :=
  ∀ (s : State) (p : PortNo) (r : CommandRecord) (n : LaneNo) (errs : List DramError) (place : Nat → List Byte),
    s.Takes p r 0x0A → recLane r = n.val → numAt r 8 4 ≤ 262143 → (s.lane n).state ≠ .free →
    ((s.lane n).owner = some p ∨ (s.lane n).owner = none ∧ s.QuietPassed n) →
    (∀ d ∈ s.damage ++ errs, ∀ k, d ≠ { place := .journal n k, error := .single }) →
    (∀ i, place i =
      match (s.lane n).journal[numAt r 8 4 + i]? with
      | none => List.replicate 16 0
      | some e =>
        if { place := .journal n (numAt r 8 4 + i), error := .uncorrectable } ∈ s.damage ++ errs then
          List.replicate 4 0 ++ [2] ++ List.replicate 11 0
        else journalBytes e) →
    ∃ t, exec (.readJournal p errs) s = .next t ∧
      s.Answered t p r .ok
        [.num 1 n.val, .num 4 (s.lane n).journal.length, .num 4 (((s.lane n).journal.head?.map JournalEntry.seq).getD 0),
         .raw (place 0), .raw (place 1), .raw (place 2), .raw (place 3), .raw (place 4), .raw (place 5),
         .num 1 (min 6 ((s.lane n).journal.length - numAt r 8 4))] ∧
      t = { s with ports := t.ports, memory := t.memory, damage := s.damage ++ errs }

/-! ### Settlement, references and the index -/

/-- R84, R85, R17: a SETTLE that passes gives each member its settled state by its count, takes the container from the settlement
table and from its lane, and answers when no waiter remains: at once when the waiter list is empty, else with the list kept for
the waiters' completions. R76: the lanes waiting for a container are retested. R101, R102, R103, R104, R106: it is counted by a lane
that is CHECKPOINTING, CLOSING or in a journal-full commit, and ends its wait when it was the last, with the lane's record. The kept
waiter list and the order of the two records are the model's choice (notes/assumptions/28.md, 13.md). -/
def Obligations.SettleSettlesMembers : Prop :=
  ∀ (s : State) (p : PortNo) (r : CommandRecord) (errs : List DramError) (c : Container) (why : SealReason) (d : Timer)
    (entry : SlotRef → Entry) (zeros : Nat) (l : Lane) (rest : List Container),
    s.Takes p r 0x0B → 1 ≤ numAt r 4 4 → s.container? (numAt r 4 4) = some c → c.ownerPort = p → c.state = .sealed why d →
    s.lane c.ownerLane = l → l.openC ≠ some c.number → s.settlings = [] → slotsDistinct c.members →
    (∀ m ∈ c.members, s.Holds m (entry m) ∧ s.Readable errs m.bucket) →
    zeros = (c.members.filter fun m => decide ((entry m).count = 0)).length →
    rest = (s.table.filter fun k => decide (k.number ≠ c.number)) →
    (∀ counted : Lane,
      (l.Quiet ∧ counted = l ∨
        (l.state = .checkpointing ∨ l.state = .closing ∨ l.state = .active ∧ l.stalls.journalFull = true) ∧ l.held = none ∧
          l.run = none ∧ (∃ k ∈ l.unsettled, k ≠ c.number) ∧ counted = { l with ckSettled := l.ckSettled + 1 }) →
      ∃ t, exec (.settle p errs) s = .next t ∧
        (∀ m ∈ c.members, t.Holds m { entry m with
          state :=
            if (entry m).count = 0 then .zero s.epoch else if (entry m).count ≤ 16777214 then .live else .pinned }) ∧
        (∀ b i, (∀ m ∈ c.members, ¬(m.bucket = b ∧ m.slot = i)) → (t.bucket b)[i] = (s.bucket b)[i]) ∧
        (∀ m, t.lane m = s.retestedLane rest.length
          (if m = c.ownerLane then { counted with unsettled := l.unsettled.filter fun k => decide (k ≠ c.number) }
           else s.lane m)) ∧
        t = { s with
          ports := t.ports, memory := t.memory, lanes := t.lanes, index := t.index, damage := s.damage ++ errs
          settlings := t.settlings, table := rest } ∧
        (c.waiters = [] → t.settlings = [] ∧
          s.Answered t p r .ok [.num 4 c.number, .num 4 c.members.length, .num 4 zeros, .num 2 0, .num 2 0]) ∧
        (c.waiters ≠ [] →
          t.settlings =
            [{ container := c.number, sender := p, stray := false, tag := recTag r, members := c.members,
               settled := c.members.length, zeros := zeros, dups := 0, repeats := 0, waiters := c.waiters }] ∧
          t.port p = { s.port p with queue := (s.port p).queue.drop 1, hand := some (.settle c.number) } ∧
          (∀ q, q ≠ p → t.port q = s.port q) ∧ t.memory = s.memory)) ∧
    (∀ (g : Ring) (refs : Nat) (record : LaneRecord) (after : Lane) (slot : ProfileSlot),
      c.waiters = [] → s.NoneStarvedOfContainers → l.owner = some p → (s.port p).Rings g → 2 ≤ (s.port p).free →
      (∀ k ∈ l.unsettled, k = c.number) → l.run = none → l.held = none → l.grant = none →
      refs = (l.journal.filter fun e => match e.what with | .ref _ => true | .unindexed _ _ => false).length →
      (l.state = .checkpointing ∧ l.stalls = Stalls.clear ∧ l.chunk = none ∧ slot = s.slots[l.slot] ∧
          record =
            { lane := c.ownerLane, forced := false, unresolved := false, detail := 0, stateCode := 0, offset := l.offset,
              nextSeq := l.nextSeq.getD 0, tag := l.keptTag
              body := .checkpoint refs (l.journal.length - refs) (l.ckSettled + 1) l.ckWithdrawn l.withdrawnSince } ∧
          after = { l with
            state := .active, unsettled := [], journal := [], withdrawnSince := 0, ckSettled := l.ckSettled + 1, keptTag := none
            stalls := if l.items = [] then { Stalls.clear with starved := true } else Stalls.clear } ∨
        l.state = .closing ∧ after = Lane.free ∧
          s.slots[l.slot].LosesLane slot ∧
          record =
            { lane := c.ownerLane, forced := false, unresolved := false, detail := 0, stateCode := 0, offset := l.offset,
              nextSeq := l.nextSeq.getD 0, tag := l.keptTag
              body := .closed refs (l.journal.length - refs) (l.ckSettled + 1) l.ckWithdrawn l.withdrawnSince } ∨
        l.state = .active ∧ l.stalls = { Stalls.clear with journalFull := true } ∧ slot = s.slots[l.slot] ∧
          record =
            { lane := c.ownerLane, forced := true, unresolved := false, detail := 0, stateCode := 0, offset := l.offset,
              nextSeq := l.nextSeq.getD 0, tag := none
              body := .checkpoint refs (l.journal.length - refs) (l.ckSettled + 1) l.ckWithdrawn l.withdrawnSince } ∧
          after = { l with
            unsettled := [], journal := [], withdrawnSince := 0, ckSettled := l.ckSettled + 1, stalls := Stalls.clear }) →
      ∃ t, exec (.settle p errs) s = .next t ∧
        t.ringRecord p (s.port p).producer = (Response.lane record).bytes p (s.port p).pass ∧
        t.ringRecord p (s.port p).advanced.producer =
          (Response.completion
            { kind := 0x0B, tag := recTag r, outcome := .ok,
              fields := [.num 4 c.number, .num 4 c.members.length, .num 4 zeros, .num 2 0, .num 2 0] }).bytes p
            (s.port p).advanced.pass ∧
        t.port p = (s.port p).advanced.answered ∧ (∀ q, q ≠ p → t.port q = s.port q ∧ t.memory[q] = s.memory[q]) ∧
        s.LaneBecomes t c.ownerLane after ∧
        t = { s with
          ports := t.ports, memory := t.memory, lanes := t.lanes, index := t.index, damage := s.damage ++ errs, table := rest
          slots := s.slots.set l.slot slot })

/-- R84, R114, R20: the checks of SETTLE, RELEASE and INSERT, each in their order: an unknown container that was withdrawn lately
is LATE, one of another port NOT_OWNER, one whose lane is ORPHANED or that is OPEN REFUSED_STATE; RELEASE and INSERT are refused
in PASSTHROUGH, and with BAD_PARAM when a parameter is out of range. -/
def Obligations.IndexCommandsAreRefused : Prop :=
  (∀ (s : State) (p : PortNo) (r : CommandRecord) (errs : List DramError),
    (s.Takes p r 0x0B →
      (numAt r 4 4 = 0 → ∃ t, exec (.settle p errs) s = .next t ∧ s.Refused t p r .badParam) ∧
      (numAt r 4 4 ≠ 0 → s.container? (numAt r 4 4) = none →
        ∃ t, exec (.settle p errs) s = .next t ∧
          s.Refused t p r (if numAt r 4 4 ∈ (s.port p).recent then .late else .unknown)) ∧
      (∀ c, numAt r 4 4 ≠ 0 → s.container? (numAt r 4 4) = some c →
        ¬(c.ownerPort = p ∧ (s.lane c.ownerLane).state ≠ .orphaned ∧ c.state ≠ .opened) →
        ∃ t, exec (.settle p errs) s = .next t ∧
          s.Refused t p r (if c.ownerPort ≠ p then .notOwner else .refusedState))) ∧
    (s.Takes p r 0x0C →
      (s.device = .passthrough → ∃ t, exec (.release p) s = .next t ∧ s.Refused t p r .refusedState) ∧
      (s.device ≠ .passthrough → (byteAt r 1 < 1 ∨ 12 < byteAt r 1) →
        ∃ t, exec (.release p) s = .next t ∧ s.Refused t p r .badParam))) ∧
  (∀ (s : State) (p : PortNo) (r : CommandRecord) (errs : List DramError), s.Takes p r 0x0D →
    (s.device = .passthrough → ∃ t, exec (.insert p errs) s = .next t ∧ s.Refused t p r .refusedState) ∧
    (s.device ≠ .passthrough →
      (numAt r 8 4 < 1 ∨ numAt r 12 4 % 64 ≠ 0 ∨ 4194240 < numAt r 12 4 ∨ numAt r 16 4 < 1 ∨ 262144 < numAt r 16 4 ∨
        4194304 < numAt r 12 4 + numAt r 16 4 ∨ numAt r 20 4 < 1 ∨ 16777215 < numAt r 20 4) →
      ∃ t, exec (.insert p errs) s = .next t ∧ s.Refused t p r .badParam))

/-- R114, R158: a RELEASE that passes stays in hand with the IDs it carries; each RELEASE_DECREMENT takes the next ID's decrement
and joins its result to those so far, and after the last ID answers with all of them in the order given; the RELEASE of a port in
fail-safe since has its completion discarded and counted. The RELEASE of a failed port goes on as notes/assumptions/22.md says. -/
def Obligations.ReleaseTakesDecrementsInOrder : Prop :=
  (∀ (s : State) (p : PortNo) (r : CommandRecord), s.Takes p r 0x0C → s.device ≠ .passthrough → 1 ≤ byteAt r 1 →
    byteAt r 1 ≤ 12 →
    ∃ t, exec (.release p) s = .next t ∧
      t.port p = { s.port p with
        queue := (s.port p).queue.drop 1
        hand := some (.release
          { tag := recTag r, ids := (List.range (byteAt r 1)).map fun i => numAt r (4 + 5 * i) 5, results := [] }) } ∧
      (∀ q, q ≠ p → t.port q = s.port q) ∧ t = { s with ports := t.ports }) ∧
  (∀ (s u : State) (w : ReleaseWork) (id : Nat) (rest : List Nat) (res : DecResult) (errs : List DramError),
    w.ids = id :: rest → State.decrement { s with damage := s.damage ++ errs } id = (res, u) → u.poisonCount = s.poisonCount →
    (∀ p, (s.port p).hand = some (.release w) → rest ≠ [] →
      ∃ t, exec (.releaseDecrement (.inHand p) errs) s = .next t ∧
        t.port p = { u.port p with hand := some (.release { w with ids := rest, results := w.results ++ [res] }) } ∧
        (∀ q, q ≠ p → t.port q = u.port q) ∧ t = { u with ports := t.ports }) ∧
    (∀ p, (s.port p).hand = some (.release w) → rest = [] → u.canWrite p = true →
      ∃ t, exec (.releaseDecrement (.inHand p) errs) s = .next t ∧
        u.Wrote t p
          (.completion
            { kind := 0x0C, tag := w.tag, outcome := .ok,
              fields := .num 1 (w.results.length + 1) :: (w.results ++ [res]).map fun x => .num 1 x.code })
          { (u.port p).advanced with hand := none } ∧ u.OnlyPorts t) ∧
    (∀ i, s.strayReleases[i]? = some w → rest ≠ [] →
      exec (.releaseDecrement (.stray i) errs) s =
        .next { u with strayReleases := s.strayReleases.set i { w with ids := rest, results := w.results ++ [res] } }) ∧
    (∀ i, s.strayReleases[i]? = some w → rest = [] →
      exec (.releaseDecrement (.stray i) errs) s =
        .next { u with strayReleases := s.strayReleases.eraseIdx i, discarded := min 4294967295 (u.discarded + 1) }))

/-- R18: a decrement aimed at a chunk ID has the result and the effect of the first row of the table that holds. R16: an increment
of n references gives the count, the state and the last-reference epoch of the row of the state it finds. -/
def Obligations.CountsFollowState : Prop :=
  (∀ (s : State) (b : Nat) (i : Fin 16) (g : Nat), g < 16384 →
    (b ∈ s.poisonList → s.decrement (b * 262144 + i.val * 16384 + g) = (.poisoned, s)) ∧
    (s.Readable [] b → ((s.bucket b)[i].generation ≠ g ∨ (s.bucket b)[i].entry = none) →
      s.decrement (b * 262144 + i.val * 16384 + g) = (.stale, s)) ∧
    (∀ x, s.Readable [] b → (s.bucket b)[i] = { generation := g, entry := some x } →
      ∃ res y t, s.decrement (b * 262144 + i.val * 16384 + g) = (res, t) ∧
        s.SlotBecomes t b i { generation := g, entry := some y } ∧ t = { s with index := t.index } ∧
        (res, y) =
          (match x.state with
            | .pinned => (.pinned, x)
            | .live =>
              if 2 ≤ x.count then (.released, { x with count := x.count - 1 })
              else (.released, { x with count := 0, state := .zero s.epoch })
            | .pending _ => if 1 ≤ x.count then (.released, { x with count := x.count - 1 }) else (.underflow, x)
            | .zero _ => (.underflow, x)))) ∧
  (∀ (x : Entry) (n e : Nat), 1 ≤ n → n ≤ 16777215 →
    (x.state = .live → x.count + n < 16777215 → x.increment n e = { x with count := x.count + n, lastRef := e }) ∧
    (x.state = .live → 16777215 ≤ x.count + n →
      x.increment n e = { x with count := 16777215, state := .pinned, lastRef := e }) ∧
    (x.state = .pinned → x.increment n e = { x with lastRef := e }) ∧
    (∀ z, x.state = .zero z → n < 16777215 → x.increment n e = { x with count := n, state := .live, lastRef := e }) ∧
    (∀ z, x.state = .zero z → n = 16777215 →
      x.increment n e = { x with count := 16777215, state := .pinned, lastRef := e }) ∧
    (∀ m, x.state = .pending m → x.increment n e = { x with count := min 16777215 (x.count + n), lastRef := e }))

/-- R20, R21, R22, R8, R25, R26: an INSERT that passes its checks raises the container counter past its container, and creates an
entry in the lowest FREE slot of its fingerprint's bucket, with OCCUPANCY set at every port that watches a rising crossing to the
occupancy it makes; or it increments the entry of equal check word it finds, counts a collision on one of another check word, or
finds the bucket full or poisoned. The count in the completion of a collision is the model's choice (notes/assumptions/40.md). -/
def Obligations.InsertCreatesOrIncrements : Prop :=
  ∀ (s : State) (p : PortNo) (r : CommandRecord) (errs : List DramError) (b : Nat) (check : Word32) (n : Nat),
    s.Takes p r 0x0D → s.device ≠ .passthrough → 1 ≤ numAt r 8 4 → numAt r 12 4 % 64 = 0 → numAt r 12 4 ≤ 4194240 →
    1 ≤ numAt r 16 4 → numAt r 16 4 ≤ 262144 → numAt r 12 4 + numAt r 16 4 ≤ 4194304 → 1 ≤ n → n ≤ 16777215 →
    n = numAt r 20 4 → check = BitVec.ofNat 32 (numAt r 4 4) → b = bucketOf (recFingerprint r) →
    (∀ q, (s.port q).sees s.occupancy (s.occupancy + 1) = true ↔
      s.attached q = true ∧ ((s.port q).watchMode = .rising ∨ (s.port q).watchMode = .both) ∧
        (s.port q).watchThreshold = s.occupancy + 1) ∧
    (∀ i, s.Readable errs b → (s.bucket b).Lacks (recFingerprint r) → (s.bucket b).FirstFree i →
      s.CrossesQuietly (s.occupancy + 1) →
      ∃ t, exec (.insert p errs) s = .next t ∧
        (s.crossed (s.occupancy + 1)).Answered t p r .ok [.num 5 (b * 262144 + i.val * 16384 + (s.bucket b)[i].generation)] ∧
        s.SlotBecomes t b i
          { generation := (s.bucket b)[i].generation
            entry := some
              { fingerprint := recFingerprint r, check := check, state := if n = 16777215 then .pinned else .live, count := n,
                container := numAt r 8 4, offset := numAt r 12 4, length := numAt r 16 4, birth := s.epoch,
                lastRef := s.epoch } } ∧
        t = { s with
          ports := t.ports, memory := t.memory, index := t.index, damage := s.damage ++ errs, occupancy := s.occupancy + 1
          counter := max s.counter (numAt r 8 4 + 1) }) ∧
    (∀ i x, s.Readable errs b → (s.bucket b).FirstWith (recFingerprint r) i x → x.check = check →
      ∃ t, exec (.insert p errs) s = .next t ∧
        s.Answered t p r .exists_
          [.num 5 (b * 262144 + i.val * 16384 + (s.bucket b)[i].generation), .num 4 (x.increment n s.epoch).count, .num 1 0] ∧
        s.SlotBecomes t b i
          { generation := (s.bucket b)[i].generation, entry := some (x.increment n s.epoch) } ∧
        t = { s with
          ports := t.ports, memory := t.memory, index := t.index, damage := s.damage ++ errs
          counter := max s.counter (numAt r 8 4 + 1) }) ∧
    (∀ i x, s.Readable errs b → (s.bucket b).FirstWith (recFingerprint r) i x → x.check ≠ check →
      ∃ t, exec (.insert p errs) s = .next t ∧
        s.Answered t p r .exists_
          [.num 5 (b * 262144 + i.val * 16384 + (s.bucket b)[i].generation), .num 4 x.count, .num 1 1] ∧
        t = { s with
          ports := t.ports, memory := t.memory, damage := s.damage ++ errs
          collisions := if s.collisions < 4294967295 then s.collisions + 1 else 4294967295
          counter := max s.counter (numAt r 8 4 + 1) }) ∧
    (s.Readable errs b → (s.bucket b).Lacks (recFingerprint r) → (∀ i : Fin 16, (s.bucket b)[i].entry ≠ none) →
      ∃ t, exec (.insert p errs) s = .next t ∧ s.Answered t p r .full [] ∧
        t = { s with
          ports := t.ports, memory := t.memory, damage := s.damage ++ errs, counter := max s.counter (numAt r 8 4 + 1) }) ∧
    (b ∈ s.poisonList →
      ∃ t, exec (.insert p errs) s = .next t ∧ s.Answered t p r .poisoned [] ∧
        t = { s with
          ports := t.ports, memory := t.memory, damage := s.damage ++ errs, counter := max s.counter (numAt r 8 4 + 1) })

/-- R23, R24: a QUERY answers with a snapshot of the entry its fingerprint or chunk ID names, UNKNOWN where no entry has the
fingerprint, STALE with the slot's generation where the ID is stale, POISONED where the bucket is; it changes nothing. R195: a
selector that names neither is answered BAD_PARAM. Its taking by either row is the model's choice (notes/assumptions/19.md), and
so are the field widths (14.md). -/
def Obligations.QueryReadsEntry : Prop :=
  ∀ (s : State) (p : PortNo) (r : CommandRecord) (errs : List DramError) (b : Nat) (i : Fin 16)
    (snapshot : Nat → Entry → List Field),
    s.Takes p r 0x0E →
    (∀ g x, snapshot g x =
      [.num 5 (b * 262144 + i.val * 16384 + g), .raw x.fingerprint, .num 4 x.check.toNat, .num 1 x.state.code, .num 4 x.count,
       .num 4 x.container, .num 4 x.offset, .num 4 x.length, .num 4 x.birth, .num 4 x.lastRef,
       .num 4 (match x.state with | .zero z => z | _ => 0), .num 1 (match x.state with | .pending n => n.val | _ => 0xFF),
       .num 4 s.epoch]) →
    (2 ≤ byteAt r 4 → ∃ t, exec (.queryByFingerprint p errs) s = .next t ∧ exec (.queryByChunkId p errs) s = .next t ∧
      s.Refused t p r .badParam) ∧
    (byteAt r 4 = 0 → b = bucketOf (recFingerprint r) → ∃ t, exec (.queryByFingerprint p errs) s = .next t ∧
      (∀ x, s.Readable errs b → (s.bucket b).FirstWith (recFingerprint r) i x →
        s.Answered t p r .ok (snapshot (s.bucket b)[i].generation x)) ∧
      (s.Readable errs b → (s.bucket b).Lacks (recFingerprint r) → s.Answered t p r .unknown []) ∧
      (b ∈ s.poisonList → s.Answered t p r .poisoned []) ∧
      (s.Readable errs b ∨ b ∈ s.poisonList →
        t = { s with ports := t.ports, memory := t.memory, damage := s.damage ++ errs })) ∧
    (∀ g, byteAt r 4 = 1 → numAt r 8 5 = b * 262144 + i.val * 16384 + g → g < 16384 →
      ∃ t, exec (.queryByChunkId p errs) s = .next t ∧
        (∀ x, s.Readable errs b → (s.bucket b)[i] = { generation := g, entry := some x } →
          s.Answered t p r .ok (snapshot g x)) ∧
        (s.Readable errs b → ((s.bucket b)[i].generation ≠ g ∨ (s.bucket b)[i].entry = none) →
          s.Answered t p r .stale [.num 4 (s.bucket b)[i].generation]) ∧
        (b ∈ s.poisonList → s.Answered t p r .poisoned []) ∧
        (s.Readable errs b ∨ b ∈ s.poisonList →
          t = { s with ports := t.ports, memory := t.memory, damage := s.damage ++ errs }))

/-- R188, R189, R191, R11: the read of a QUERY, an INSERT or a RELEASE's decrement that meets a single-bit error corrects and counts
it, and the command goes on as without it; one that meets an uncorrectable error poisons the bucket, strikes its slots from the
member lists, sets POISON at every attached port and is answered POISONED, and the device enters PASSTHROUGH when the count of
poisonings reaches the threshold. How errors stand and the order of the entry and the completion are the model's choice
(notes/assumptions/4.md, 25.md). -/
def Obligations.ReadErrorsPoisonOrAreCorrected : Prop :=
  ∀ (s : State) (p : PortNo) (r : CommandRecord) (errs : List DramError) (b counter : Nat) (c : List DramError → Instr),
    b ∉ s.poisonList →
    (c = .queryByFingerprint p ∧ s.Takes p r 0x0E ∧ byteAt r 4 = 0 ∧ b = bucketOf (recFingerprint r) ∧ counter = s.counter ∨
      c = .queryByChunkId p ∧ s.Takes p r 0x0E ∧ byteAt r 4 = 1 ∧ b = numAt r 8 5 / 262144 ∧ counter = s.counter ∨
      c = .insert p ∧ s.Takes p r 0x0D ∧ b = bucketOf (recFingerprint r) ∧ s.device ≠ .passthrough ∧ 1 ≤ numAt r 8 4 ∧
        numAt r 12 4 % 64 = 0 ∧ numAt r 12 4 ≤ 4194240 ∧ 1 ≤ numAt r 16 4 ∧ numAt r 16 4 ≤ 262144 ∧
        numAt r 12 4 + numAt r 16 4 ≤ 4194304 ∧ 1 ≤ numAt r 20 4 ∧ numAt r 20 4 ≤ 16777215 ∧
        counter = max s.counter (numAt r 8 4 + 1) ∨
      (∃ w id rest, c = .releaseDecrement (.inHand p) ∧ s.attached p = true ∧ (s.port p).hand = some (.release w) ∧
        w.ids = id :: rest ∧ b = id / 262144 ∧ counter = s.counter)) →
    ({ place := .bucket b, error := .uncorrectable } ∉ s.damage ++ errs →
      { place := .bucket b, error := .single } ∈ s.damage ++ errs →
      exec (c errs) s = exec (c [])
        { s with
          correctable := if s.correctable < 4294967295 then s.correctable + 1 else 4294967295
          damage := (s.damage ++ errs).filter fun d => decide (d ≠ { place := .bucket b, error := .single }) }) ∧
    ({ place := .bucket b, error := .uncorrectable } ∈ s.damage ++ errs → s.poisonList.length < 64 →
      s.poisonCount + 1 < s.policy.threshold → s.policy.threshold ≤ 64 → s.Alert →
      ∃ t, exec (c errs) s = .next t ∧
        (c ≠ .releaseDecrement (.inHand p) →
          (s.flaggedAt (fun _ => true) .poison .none).Answered t p r .poisoned []) ∧
        (∀ w id next rest, c = .releaseDecrement (.inHand p) → (s.port p).hand = some (.release w) → w.ids = id :: next :: rest →
          t.port p = { (s.flaggedAt (fun _ => true) .poison .none).port p with
            hand := some (.release { w with ids := next :: rest, results := w.results ++ [.poisoned] }) } ∧
          (∀ q, q ≠ p → t.port q = (s.flaggedAt (fun _ => true) .poison .none).port q) ∧ t.memory = s.memory) ∧
        t = { s with
          ports := t.ports, memory := t.memory, damage := s.damage ++ errs, poisonList := s.poisonList ++ [b]
          poisonCount := s.poisonCount + 1, counter := counter
          table := s.table.map fun k => { k with members := k.members.filter fun m => decide (m.bucket ≠ b) } }) ∧
    ({ place := .bucket b, error := .uncorrectable } ∈ s.damage ++ errs → s.device ≠ .passthrough →
      s.policy.threshold ≤ s.poisonCount + 1 → s.poisonCount < 4294967295 →
      ∃ t, exec (c errs) s = .next t ∧ t.device = .passthrough ∧ t.table = [] ∧ t.scanner.state = .idle ∧
        t.scanner.requester = none ∧ s.poisonCount + 1 ≤ t.poisonCount ∧ t.epoch = s.epoch ∧ t.counter = counter)

/-! ### Epochs, holds and reclaim -/

/-- R117, R118, R119, R121: an EPOCH_ADVANCE taken while no port holds a freeze raises the epoch, sets EPOCH_ADVANCED at every
attached port, restarts the epoch timer and makes a start request; without COMMAND in the trigger set it is refused. -/
def Obligations.EpochAdvanceRaisesEpoch : Prop :=
  ∀ (s : State) (p : PortNo) (r : CommandRecord) (errs : List DramError), s.Takes p r 0x0F →
    (s.policy.triggers.command = false → ∃ t, exec (.epochAdvance p errs) s = .next t ∧ s.Refused t p r .refusedState) ∧
    (∀ e d, s.policy.triggers.command = true → (∀ q, (s.port q).freeze = false) → s.stagedPolicy = none → s.Alert →
      (s.epoch < 4294967295 ∧ e = s.epoch + 1 ∧ d = 0 ∨ s.epoch = 4294967295 ∧ e = 4294967295 ∧ d = 1) →
      ∃ t, exec (.epochAdvance p errs) s = .next t ∧
        (s.flaggedAt (fun _ => true) .epochAdvanced .none).Answered t p r .ok
          [.num 1 d, .num 4 e, .num 1 (bit s.advancePending), .num 1 0, .num 4 s.absorbed] ∧
        t = { s with
          ports := t.ports, memory := t.memory, damage := s.damage ++ errs, epoch := e, startRequests := s.startRequests + 1
          epochTimer := if s.policy.interval = 0 then none else some (s.policy.interval * 1000) })

/-- R122, R123: EPOCH_FREEZE sets the port's freeze; while any port holds one an EPOCH_ADVANCE leaves the epoch, and is held as
the pending advance or, when one is pending, absorbed and counted. -/
def Obligations.FreezeHoldsAdvances : Prop :=
  ∀ (s : State) (p : PortNo) (r : CommandRecord) (errs : List DramError),
    (s.Takes p r 0x10 →
      ∃ t, exec (.epochFreeze p) s = .next t ∧ s.OnlyPorts t ∧
        s.Answered t p r .ok
          [.num 4 s.epoch, .num 1 (bit s.advancePending),
           .num 1 (maskOf ((allPorts.filter fun q => decide (q = p) || (s.port q).freeze).map Fin.val)), .num 4 s.absorbed]
          (fun q => { q with freeze := true })) ∧
    (∀ frozen, s.Takes p r 0x0F → s.policy.triggers.command = true → frozen = allPorts.filter (fun q => (s.port q).freeze) →
      frozen ≠ [] →
      (s.advancePending = false →
        ∃ t, exec (.epochAdvance p errs) s = .next t ∧
          s.Answered t p r .ok
            [.num 1 2, .num 4 s.epoch, .num 1 1, .num 1 (maskOf (frozen.map Fin.val)), .num 4 s.absorbed] ∧
          t = { s with ports := t.ports, memory := t.memory, damage := s.damage ++ errs, advancePending := true }) ∧
      (∀ k, s.advancePending = true → k = (if s.absorbed < 4294967295 then s.absorbed + 1 else 4294967295) →
        ∃ t, exec (.epochAdvance p errs) s = .next t ∧
          s.Answered t p r .ok [.num 1 3, .num 4 s.epoch, .num 1 1, .num 1 (maskOf (frozen.map Fin.val)), .num 4 k] ∧
          t = { s with ports := t.ports, memory := t.memory, damage := s.damage ++ errs, absorbed := k }))

/-- R124: an EPOCH_THAW clears the port's freeze; when that was the last and an advance is pending, the advance is taken in the
same step, before the completion, which answers with the state after it. -/
def Obligations.LastThawTakesHeldAdvance : Prop :=
  ∀ (s : State) (p : PortNo) (r : CommandRecord) (errs : List DramError), s.Takes p r 0x11 →
    (∀ frozen, frozen = allPorts.filter (fun q => decide (q ≠ p) && (s.port q).freeze) →
      ((s.port p).freeze = false ∨ frozen ≠ [] ∨ s.advancePending = false) →
      ∃ t, exec (.epochThaw p errs) s = .next t ∧
        s.Answered t p r .ok
          [.num 4 s.epoch, .num 1 (bit s.advancePending), .num 1 (maskOf (frozen.map Fin.val)), .num 4 s.absorbed]
          (fun q => { q with freeze := false }) ∧
        t = { s with ports := t.ports, memory := t.memory, damage := s.damage ++ errs }) ∧
    ((s.port p).freeze = true → (∀ q, q ≠ p → (s.port q).freeze = false) → s.advancePending = true → s.epoch < 4294967295 →
      s.stagedPolicy = none → s.Alert →
      ∃ t, exec (.epochThaw p errs) s = .next t ∧
        (s.flaggedAt (fun _ => true) .epochAdvanced .none).Answered t p r .ok
          [.num 4 (s.epoch + 1), .num 1 0, .num 1 0, .num 4 s.absorbed] (fun q => { q with freeze := false }) ∧
        t = { s with
          ports := t.ports, memory := t.memory, damage := s.damage ++ errs, epoch := s.epoch + 1, advancePending := false
          startRequests := s.startRequests + 1
          epochTimer := if s.policy.interval = 0 then none else some (s.policy.interval * 1000) })

/-- R118, R120, R136: the epoch timer's expiry with TIMER in the trigger set, and a pass-end request, are requests for an advance:
taken as one while no port holds a freeze, held or absorbed otherwise; the timer restarts with the interval in force, which is all
that an expiry without TIMER does. R143, R144:
a staged policy becomes active with the advance. That the expiry is taken at 0 ms and that requests are counted is the model's
choice (notes/assumptions/2.md, 18.md). -/
def Obligations.TimerAndPassEndRequestAdvances : Prop :=
  (∀ (s : State) (errs : List DramError) (c : Instr) (base : State) (timer : Timer),
    timer = (if s.policy.interval = 0 then none else some (s.policy.interval * 1000)) →
    (c = .epochTimerExpiry errs ∧ s.epochTimer = some 0 ∧
        base = { s with damage := s.damage ++ errs, epochTimer := timer } ∧ s.policy.triggers.timer = true ∨
      c = .sweepEndRequest errs ∧ 0 < s.sweepEndRequests ∧
        base = { s with damage := s.damage ++ errs, sweepEndRequests := s.sweepEndRequests - 1 }) →
    ((∀ q, (s.port q).freeze = false) → s.stagedPolicy = none → s.Alert →
      exec c s = .next { base.flaggedAt (fun _ => true) .epochAdvanced .none with
        epoch := if s.epoch < 4294967295 then s.epoch + 1 else 4294967295, startRequests := s.startRequests + 1,
        epochTimer := timer }) ∧
    ((∃ q, (s.port q).freeze = true) → s.advancePending = false → exec c s = .next { base with advancePending := true }) ∧
    ((∃ q, (s.port q).freeze = true) → s.advancePending = true →
      exec c s = .next { base with absorbed := if s.absorbed < 4294967295 then s.absorbed + 1 else 4294967295 })) ∧
  (∀ (s : State) (errs : List DramError), s.epochTimer = some 0 → s.policy.triggers.timer = false →
    exec (.epochTimerExpiry errs) s = .next { s with
      damage := s.damage ++ errs
      epochTimer := if s.policy.interval = 0 then none else some (s.policy.interval * 1000) }) ∧
  (∀ (s : State) (errs : List DramError) (pol : Policy),
    0 < s.sweepEndRequests → (∀ q, (s.port q).freeze = false) → s.stagedPolicy = some pol → s.Alert → s.epoch < 4294967295 →
    s.poisonCount < pol.threshold →
    exec (.sweepEndRequest errs) s = .next { s.flaggedAt (fun _ => true) .epochAdvanced .none with
      damage := s.damage ++ errs, sweepEndRequests := s.sweepEndRequests - 1, epoch := s.epoch + 1,
      startRequests := s.startRequests + 1, policy := pol, stagedPolicy := none,
      epochTimer := if pol.interval = 0 then none else some (pol.interval * 1000) })

/-- R126: HOLD_PLACE checks its epochs and then for an empty place, takes the lowest-numbered one, and answers with its number and
the current epoch. -/
def Obligations.HoldPlaceTakesLowestPlace : Prop :=
  ∀ (s : State) (p : PortNo) (r : CommandRecord), s.Takes p r 0x12 →
    ((numAt r 4 4 < 1 ∨ numAt r 8 4 < numAt r 4 4) →
      ∃ t, exec (.holdPlace p) s = .next t ∧ s.Refused t p r .badParam) ∧
    (1 ≤ numAt r 4 4 → numAt r 4 4 ≤ numAt r 8 4 → (∀ i : Fin 16, s.holds[i] ≠ none) →
      ∃ t, exec (.holdPlace p) s = .next t ∧ s.Refused t p r .full) ∧
    (∀ i : Fin 16, 1 ≤ numAt r 4 4 → numAt r 4 4 ≤ numAt r 8 4 → s.holds[i] = none → (∀ j, j < i → s.holds[j] ≠ none) →
      ∃ t, exec (.holdPlace p) s = .next t ∧ s.Answered t p r .ok [.num 1 i.val, .num 4 s.epoch] ∧
        t = { s with
          ports := t.ports, memory := t.memory
          holds := s.holds.set i (some { placer := p, first := numAt r 4 4, last := numAt r 8 4, label := numAt r 16 8 }) })

/-- R127: HOLD_LIFT checks its number, the place and the placer, empties the place, and answers with what the hold held. -/
def Obligations.HoldLiftEmptiesPlace : Prop :=
  ∀ (s : State) (p : PortNo) (r : CommandRecord), s.Takes p r 0x13 →
    (16 ≤ byteAt r 4 → ∃ t, exec (.holdLift p) s = .next t ∧ s.Refused t p r .badParam) ∧
    (∀ i : Fin 16, byteAt r 4 = i.val →
      (s.holds[i] = none → ∃ t, exec (.holdLift p) s = .next t ∧ s.Refused t p r .unknown) ∧
      (∀ h, s.holds[i] = some h → h.placer ≠ p → ∃ t, exec (.holdLift p) s = .next t ∧ s.Refused t p r .notOwner) ∧
      (∀ h, s.holds[i] = some h → h.placer = p →
        ∃ t, exec (.holdLift p) s = .next t ∧ s.Answered t p r .ok [.num 4 h.first, .num 4 h.last, .num 8 h.label] ∧
          t = { s with ports := t.ports, memory := t.memory, holds := s.holds.set i none }))

/-- R128, R125: HOLD_LIST answers with the number of holds, up to three from the start number on in ascending number, how many
those are, and the number to go on from, 16 when none with a higher number remains; it changes nothing. The places and widths of
the fields are the model's choice (notes/assumptions/14.md). -/
def Obligations.HoldListPages : Prop :=
  ∀ (s : State) (p : PortNo) (r : CommandRecord) (all later : List (Fin 16 × Hold)) (place : Nat → List Field),
    s.Takes p r 0x14 →
    all = (List.finRange 16).filterMap (fun i => s.holds[i].map fun h => (i, h)) →
    later = all.filter (fun h => decide (byteAt r 4 ≤ h.1.val)) →
    (∀ k, place k =
      match later[k]? with
      | some (i, h) => [.num 1 i.val, .num 1 h.placer.val, .num 4 h.first, .num 4 h.last, .num 8 h.label]
      | none => [.num 1 0xFF, .num 1 0xFF, .num 4 0, .num 4 0, .num 8 0]) →
    (16 ≤ byteAt r 4 → ∃ t, exec (.holdList p) s = .next t ∧ s.Refused t p r .badParam) ∧
    (byteAt r 4 ≤ 15 → later.length ≤ 3 →
      ∃ t, exec (.holdList p) s = .next t ∧ s.OnlyPorts t ∧
        s.Answered t p r .ok
          ([.num 2 all.length] ++ place 0 ++ place 1 ++ place 2 ++ [.num 1 later.length, .num 1 16])) ∧
    (∀ third, byteAt r 4 ≤ 15 → 4 ≤ later.length → later[2]? = some third →
      ∃ t, exec (.holdList p) s = .next t ∧ s.OnlyPorts t ∧
        s.Answered t p r .ok
          ([.num 2 all.length] ++ place 0 ++ place 1 ++ place 2 ++ [.num 1 3, .num 1 (third.1.val + 1)]))

/-- R131, R132, R137: SWEEP_START is taken in SERVICE with the scanner IDLE, and scans for the sending port from bucket 0 or from
the cursor; SWEEP_STOP stops it, for the requesting port or when there is none; a start request begins another pass for an
attached requesting port in CONTINUOUS mode in SERVICE. That start requests are counted is the model's choice
(notes/assumptions/18.md). -/
def Obligations.SweepsStartAndStop : Prop :=
  ∀ (s : State) (p : PortNo) (r : CommandRecord),
    (s.Takes p r 0x15 →
      ((1 < byteAt r 4 ∨ 1 < byteAt r 5) → ∃ t, exec (.sweepStart p) s = .next t ∧ s.Refused t p r .badParam) ∧
      (byteAt r 4 ≤ 1 → byteAt r 5 ≤ 1 → s.device ≠ .service →
        ∃ t, exec (.sweepStart p) s = .next t ∧ s.Refused t p r .refusedState) ∧
      (byteAt r 4 ≤ 1 → byteAt r 5 ≤ 1 → s.device = .service → s.scanner.state = .scanning →
        ∃ t, exec (.sweepStart p) s = .next t ∧ s.Refused t p r .busy) ∧
      (byteAt r 4 ≤ 1 → byteAt r 5 ≤ 1 → s.device = .service → s.scanner.state = .idle →
        ∃ t, exec (.sweepStart p) s = .next t ∧ s.Answered t p r .accepted [] ∧
          t = { s with
            ports := t.ports, memory := t.memory
            scanner := { s.scanner with
              state := .scanning, requester := some p, finishing := false
              mode := if byteAt r 4 = 0 then .onePass else .continuous
              cursor := if byteAt r 5 = 0 then 0 else s.scanner.cursor } })) ∧
    (s.Takes p r 0x16 →
      ((∃ q, s.scanner.requester = some q ∧ q ≠ p) → ∃ t, exec (.sweepStop p) s = .next t ∧ s.Refused t p r .notOwner) ∧
      (s.scanner.requester = none ∨ s.scanner.requester = some p →
        ∃ t, exec (.sweepStop p) s = .next t ∧
          s.Answered t p r .ok [.num 1 (if s.scanner.state = .idle then 0 else 1), .num 4 s.scanner.cursor] ∧
          t = { s with
            ports := t.ports, memory := t.memory
            scanner := { s.scanner with state := .idle, requester := none, finishing := false } })) ∧
    (0 < s.startRequests →
      (s.scanner.state = .idle → s.scanner.mode = .continuous → s.device = .service → s.scanner.requester = some p →
        s.attached p = true →
        exec .startRequest s = .next { s with
          startRequests := s.startRequests - 1, scanner := { s.scanner with state := .scanning, finishing := false } }) ∧
      (s.scanner.state = .scanning ∨ s.scanner.mode = .onePass ∨ s.device ≠ .service ∨ s.scanner.requester = none →
        exec .startRequest s = .next { s with startRequests := s.startRequests - 1 }))

/-- R133, R134, R136, R9, R26: an examination frees every slot whose entry is ZERO, out of grace and covered by no hold, and no other
slot, and moves the cursor on; the RECLAIM record of the one slot freed is written to the requesting port's ring, or waits in the
reclaim queue, and OCCUPANCY is set at every port that watches the falling crossing it makes; after the last bucket, with nothing
to free there, the pass ends. -/
def Obligations.ExaminationReclaims : Prop :=
  ∀ (s : State) (p : PortNo) (errs : List DramError) (b : Nat) (gone : Fin 16 → Entry → Prop),
    s.scanner.state = .scanning → s.scanner.requester = some p → s.scanner.queue = [] → s.scanner.finishing = false →
    s.scanner.cursor = b → s.attached p = true → s.Readable errs b → Memory.wf s = true →
    (∀ i x, gone i x ↔ (s.bucket b)[i].entry = some x ∧ (∃ z, x.state = .zero z ∧ s.policy.grace ≤ s.epoch - z) ∧
      ∀ (k : Fin 16) (h : Hold), s.holds[k] = some h → ¬(x.birth ≤ h.last ∧ h.first ≤ x.lastRef)) →
    ((∀ i x, ¬gone i x) → b < 4194303 →
      exec (.bucketExamination errs) s =
        .next { s with damage := s.damage ++ errs, scanner := { s.scanner with cursor := b + 1 } }) ∧
    ((∀ i x, ¬gone i x) → b = 4194303 → s.Alert →
      exec (.bucketExamination errs) s = .next { s.flaggedAt (fun q => decide (q = p)) .sweepEnded .none with
        damage := s.damage ++ errs, scanner := { s.scanner with cursor := 0, state := .idle },
        sweepEndRequests := if s.policy.triggers.sweepEnd then s.sweepEndRequests + 1 else s.sweepEndRequests }) ∧
    (b < 4194303 → s.Unwatched →
      ∃ t, exec (.bucketExamination errs) s = .next t ∧
        (∀ i x, gone i x → (t.bucket b)[i] =
          { generation := if (s.bucket b)[i].generation = 16383 then 0 else (s.bucket b)[i].generation + 1, entry := none }) ∧
        (∀ i, (∀ x, ¬gone i x) → (t.bucket b)[i] = (s.bucket b)[i]) ∧ (∀ b', b' ≠ b → t.bucket b' = s.bucket b') ∧
        t = { s with
          ports := t.ports, memory := t.memory, index := t.index, occupancy := t.occupancy, damage := s.damage ++ errs
          scanner := { s.scanner with cursor := b + 1, queue := t.scanner.queue } }) ∧
    (∀ q, 1 ≤ s.occupancy →
      ((s.port q).sees s.occupancy (s.occupancy - 1) = true ↔
        s.attached q = true ∧ ((s.port q).watchMode = .falling ∨ (s.port q).watchMode = .both) ∧
          (s.port q).watchThreshold = s.occupancy)) ∧
    (∀ i x record, gone i x → (∀ j y, j ≠ i → ¬gone j y) → b < 4194303 → s.CrossesQuietly (s.occupancy - 1) →
      record =
        { port := p, chunkId := b * 262144 + i.val * 16384 + (s.bucket b)[i].generation, container := x.container,
          offset := x.offset, length := x.length, fingerprint := x.fingerprint } →
      ∃ t, exec (.bucketExamination errs) s = .next t ∧
        s.SlotBecomes t b i
          { generation := if (s.bucket b)[i].generation = 16383 then 0 else (s.bucket b)[i].generation + 1, entry := none } ∧
        t = { s with
          ports := t.ports, memory := t.memory, index := t.index, occupancy := s.occupancy - 1, damage := s.damage ++ errs
          scanner := { s.scanner with cursor := b + 1, queue := t.scanner.queue } } ∧
        (s.canWrite p = true →
          (s.crossed (s.occupancy - 1)).Wrote t p (.reclaim record) ((s.crossed (s.occupancy - 1)).port p).advanced ∧
            t.scanner.queue = []) ∧
        (s.canWrite p = false → Writer.reclaim ∉ (s.port p).waiting →
          t.port p = { (s.crossed (s.occupancy - 1)).port p with waiting := (s.port p).waiting ++ [.reclaim] } ∧
          (∀ q, q ≠ p → t.port q = (s.crossed (s.occupancy - 1)).port q) ∧ t.memory = s.memory ∧
          t.scanner.queue = [record]))

/-! ### Consent -/

/-- R146, R147, R150: a PROPOSE that passes its checks opens the proposal, required of every other attached port, with
CONSENT_OPEN set at those. Where no other port is attached it applies in the same step: a profile fills its slot, a retirement
empties an unused slot, SERVICE_START ends REBUILD, and a policy in SERVICE is staged. -/
def Obligations.ProposeOpensOrApplies : Prop :=
  ∀ (s : State) (p : PortNo) (r : CommandRecord) (errs : List DramError) (b : ProposalBody) (others : List PortNo),
    s.Takes p r 0x17 → recProposal? r = some b → b.valid = true → s.proposal = none →
    others = allPorts.filter (fun q => decide (q ≠ p) && s.attached q) → s.Alert →
    (others ≠ [] → s.mayPropose b = true →
      ∃ t, exec (.propose p errs) s = .next t ∧
        (s.flaggedAt (fun q => decide (q ∈ others)) .consentOpen .none).Answered t p r .ok
          [.num 1 (maskOf (others.map Fin.val)), .num 4 (s.policy.consentWindow * 1000)] ∧
        t = { s with
          ports := t.ports, memory := t.memory, damage := s.damage ++ errs
          proposal := some
            { body := b, proposer := p, required := others, received := []
              deadline := some (s.policy.consentWindow * 1000) } }) ∧
    (∀ u : State, others = [] →
      ((∃ i prof, b = .profileInstall i prof ∧ s.slots[i] = .empty ∧
          u = { s with slots := s.slots.set i (.active prof (rollFactor prof) 0) }) ∨
        (∃ i prof roll, b = .profileRetire i ∧ s.slots[i] = .active prof roll 0 ∧ u = { s with slots := s.slots.set i .empty }) ∨
        (∃ i prof roll k, b = .profileRetire i ∧ s.slots[i] = .active prof roll (k + 1) ∧
          u = { s with slots := s.slots.set i (.retiring prof roll (k + 1)) }) ∨
        (∃ pol, b = .policy pol ∧ s.device = .service ∧ u = { s with stagedPolicy := some pol }) ∨
        (b = .serviceStart ∧ s.device = .rebuild ∧ u = { s with device := .service })) →
      ∃ t, exec (.propose p errs) s = .next t ∧
        (u.flaggedAt (fun q => decide (q = p)) .consentEnded (.ending { body := b, outcome := .applied })).Answered t p r .ok
          [.num 1 0, .num 1 0] ∧
        t = { u with
          ports := t.ports, memory := t.memory, damage := s.damage ++ errs, proposal := none
          lastEnded := some { body := b, outcome := .applied } })

/-- R146, R148, R195, R28, R142: the checks of PROPOSE and CONSENT, in their order; a profile's and a policy's fields lie in the
ranges stated for them. -/
def Obligations.ProposeAndConsentAreRefused : Prop :=
  ∀ (s : State) (p : PortNo) (r : CommandRecord) (errs : List DramError),
    (s.Takes p r 0x17 →
      ((4 < byteAt r 4 ∨ byteAt r 4 < 2 ∧ 3 < byteAt r 5 ∨ byteAt r 4 = 2 ∧ 7 < byteAt r 9 ∨
          byteAt r 4 = 0 ∧
            (byteAt r 8 < 4 ∨ 64 < byteAt r 8 ∨ byteAt r 9 < 4 ∨ 20 < byteAt r 9 ∨ numAt r 12 4 < byteAt r 8 ∨ numAt r 12 4 < 8 ∨
              65536 < numAt r 12 4 ∨ numAt r 16 4 < numAt r 12 4 ∨ 262144 < numAt r 16 4) ∨
          byteAt r 4 = 2 ∧
            (86400 < numAt r 12 4 ∨ numAt r 16 2 < 1 ∨ 600 < numAt r 16 2 ∨ numAt r 18 2 < 50 ∨ 10000 < numAt r 18 2 ∨
              numAt r 20 2 < 1 ∨ 3600 < numAt r 20 2 ∨ byteAt r 10 < 1 ∨ 60 < byteAt r 10 ∨ byteAt r 11 < 1 ∨
              64 < byteAt r 11)) →
        ∃ t, exec (.propose p errs) s = .next t ∧ s.Refused t p r .badParam) ∧
      (∀ b, recProposal? r = some b →
        (b.valid = true ↔
          (byteAt r 4 = 0 →
            4 ≤ byteAt r 8 ∧ byteAt r 8 ≤ 64 ∧ 4 ≤ byteAt r 9 ∧ byteAt r 9 ≤ 20 ∧ byteAt r 8 ≤ numAt r 12 4 ∧ 8 ≤ numAt r 12 4 ∧
              numAt r 12 4 ≤ 65536 ∧ numAt r 12 4 ≤ numAt r 16 4 ∧ numAt r 16 4 ≤ 262144) ∧
          (byteAt r 4 = 2 →
            numAt r 12 4 ≤ 86400 ∧ 1 ≤ numAt r 16 2 ∧ numAt r 16 2 ≤ 600 ∧ 50 ≤ numAt r 18 2 ∧ numAt r 18 2 ≤ 10000 ∧
              1 ≤ numAt r 20 2 ∧ numAt r 20 2 ≤ 3600 ∧ 1 ≤ byteAt r 10 ∧ byteAt r 10 ≤ 60 ∧ 1 ≤ byteAt r 11 ∧
              byteAt r 11 ≤ 64))) ∧
      (∀ b, recProposal? r = some b → b.valid = true → s.proposal ≠ none →
        ∃ t, exec (.propose p errs) s = .next t ∧ s.Refused t p r .busy) ∧
      (∀ b, recProposal? r = some b → b.valid = true → s.proposal = none →
        ((∃ i prof, b = .profileInstall i prof ∧ s.slots[i] ≠ .empty) ∨
          (∃ i, b = .profileRetire i ∧ ∀ prof roll k, s.slots[i] ≠ .active prof roll k) ∨
          (b = .serviceStart ∧ s.device ≠ .rebuild)) →
        ∃ t, exec (.propose p errs) s = .next t ∧ s.Refused t p r .refusedState)) ∧
    (s.Takes p r 0x18 →
      ((4 < byteAt r 4 ∨ byteAt r 4 < 2 ∧ 3 < byteAt r 5 ∨ byteAt r 4 = 2 ∧ 7 < byteAt r 9) →
        ∃ t, exec (.consent p errs) s = .next t ∧ s.Refused t p r .badParam) ∧
      (∀ b, recProposal? r = some b → s.proposal = none →
        ∃ t, exec (.consent p errs) s = .next t ∧ s.Refused t p r
          (if s.lastEnded.map Ending.body = some b then .late else .unknown)) ∧
      (∀ b q, recProposal? r = some b → s.proposal = some q → p ∉ q.required →
        ∃ t, exec (.consent p errs) s = .next t ∧ s.Refused t p r .notRequired))

/-- R148, R150, R152, R153, R154: a CONSENT whose copy equals the open proposal joins the received set; the last one required applies
it in the same step: a profile fills its slot, a retirement empties an unused slot, a policy is staged or, in REBUILD, becomes active
with the epoch timer, SERVICE_START ends REBUILD, and a device reset resets the part; a copy that differs ends it as REJECTED. R151:
at its deadline it ends as LAPSED. The proposer and the required ports see CONSENT_ENDED. What a VOIDED ending answers, and that the
deadline is taken at 0 ms, are the model's choice (notes/assumptions/36.md, 2.md). -/
def Obligations.ConsentJoinsAppliesOrRejects : Prop :=
  (∀ (s : State) (p : PortNo) (r : CommandRecord) (errs : List DramError) (b : ProposalBody) (q : Proposal)
    (received : List PortNo) (told : PortNo → Bool),
    s.Takes p r 0x18 → recProposal? r = some b → s.proposal = some q → p ∈ q.required → s.Alert → q.required.Nodup →
    q.proposer ∉ q.required → received = (if p ∈ q.received then q.received else q.received ++ [p]) →
    told = (fun k => decide (k = q.proposer ∨ k ∈ q.required)) →
    (b = q.body → (∃ k ∈ q.required, k ∉ received) →
      ∃ t, exec (.consent p errs) s = .next t ∧ s.Answered t p r .ok [.num 1 (maskOf (received.map Fin.val))] ∧
        t = { s with
          ports := t.ports, memory := t.memory, damage := s.damage ++ errs, proposal := some { q with received := received } }) ∧
    (∀ (u : State) (o : ProposalOutcome), b = q.body → (∀ k ∈ q.required, k ∈ received) →
      ((∃ i prof, b = .profileInstall i prof ∧ o = .applied ∧
          u = { s with slots := s.slots.set i (.active prof (rollFactor prof) 0) }) ∨
        (∃ i prof roll, b = .profileRetire i ∧ s.slots[i] = .active prof roll 0 ∧ o = .applied ∧
          u = { s with slots := s.slots.set i .empty }) ∨
        (∃ i prof roll k, b = .profileRetire i ∧ s.slots[i] = .active prof roll (k + 1) ∧ o = .applied ∧
          u = { s with slots := s.slots.set i (.retiring prof roll (k + 1)) }) ∨
        (∃ pol, b = .policy pol ∧ s.device ≠ .rebuild ∧ o = .applied ∧ u = { s with stagedPolicy := some pol }) ∨
        (∃ pol, b = .policy pol ∧ s.device = .rebuild ∧ s.poisonCount < pol.threshold ∧ o = .applied ∧
          u = { s with
            policy := pol, stagedPolicy := none,
            epochTimer := if pol.interval = 0 then none else some (pol.interval * 1000) }) ∨
        (b = .serviceStart ∧ s.device = .rebuild ∧ o = .applied ∧ u = { s with device := .service }) ∨
        (b = .serviceStart ∧ s.device ≠ .rebuild ∧ o = .voided ∧ u = s)) →
      ∃ t, exec (.consent p errs) s = .next t ∧
        (u.flaggedAt told .consentEnded (.ending { body := b, outcome := o })).Answered t p r .ok
          [.num 1 (maskOf (received.map Fin.val)), .num 1 o.code] ∧
        t = { u with
          ports := t.ports, memory := t.memory, damage := s.damage ++ errs, proposal := none
          lastEnded := some { body := b, outcome := o } }) ∧
    (b = q.body → (∀ k ∈ q.required, k ∈ received) → b = .deviceReset → s.settlings = [] →
      ∃ t, exec (.consent p errs) s = .next t ∧
        t.ringRecord p (s.port p).producer =
          (Response.completion
            { kind := 0x18, tag := recTag r, outcome := .ok,
              fields := [.num 1 (maskOf (received.map Fin.val)), .num 1 0] }).bytes p (s.port p).pass ∧
        t.device = .rebuild ∧ (∀ n, (t.lane n).state = .free) ∧ t.table = [] ∧ t.occupancy = 0 ∧ t.scanner = Scanner.reset ∧
        t.proposal = none ∧ t.lastEnded = some { body := .deviceReset, outcome := .applied } ∧
        (∀ k, told k = true → s.attached k = true →
          (t.port k).summary.mark .consentEnded ≠ .clear ∧
            (t.port k).summary.ending = some { body := .deviceReset, outcome := .applied }) ∧
        t.epoch = s.epoch ∧ t.counter = s.counter ∧ t.policy = s.policy ∧ t.holds = s.holds) ∧
    (b ≠ q.body →
      ∃ t, exec (.consent p errs) s = .next t ∧
        (s.flaggedAt told .consentEnded (.ending { body := q.body, outcome := .rejected })).Answered t p r .ok [.num 1 1] ∧
        t = { s with
          ports := t.ports, memory := t.memory, damage := s.damage ++ errs, proposal := none
          lastEnded := some { body := q.body, outcome := .rejected } })) ∧
  (∀ (s : State) (q : Proposal), s.proposal = some q → q.deadline = some 0 → q.required.Nodup → q.proposer ∉ q.required → s.Alert →
    exec .consentDeadlineExpiry s =
      .next { s.flaggedAt (fun k => decide (k = q.proposer ∨ k ∈ q.required)) .consentEnded
          (.ending { body := q.body, outcome := .lapsed }) with
        proposal := none, lastEnded := some { body := q.body, outcome := .lapsed } })

/-- R149: WITHDRAW is UNKNOWN with no proposal open and NOT_OWNER from a port other than the proposer; otherwise the proposal ends
as WITHDRAWN, as R152 states, and the completion answers OK. -/
def Obligations.WithdrawEndsProposal : Prop :=
  ∀ (s : State) (p : PortNo) (r : CommandRecord), s.Takes p r 0x19 →
    (s.proposal = none → ∃ t, exec (.withdraw p) s = .next t ∧ s.Refused t p r .unknown) ∧
    (∀ q, s.proposal = some q → q.proposer ≠ p → ∃ t, exec (.withdraw p) s = .next t ∧ s.Refused t p r .notOwner) ∧
    (∀ q, s.proposal = some q → q.proposer = p →
      ∃ t, exec (.withdraw p) s = .next t ∧
        t = { s with
          ports := t.ports, memory := t.memory, proposal := none
          lastEnded := some { body := q.body, outcome := .withdrawn } } ∧
        (q.required.Nodup → p ∉ q.required → s.Alert →
          (s.flaggedAt (fun k => decide (k = p ∨ k ∈ q.required)) .consentEnded
            (.ending { body := q.body, outcome := .withdrawn })).Answered t p r .ok []))

/-- R193, R27: a device reset frees every lane, empties the settlement table, the notices and the reclaim queue, frees every slot of
the index, with the generations of those that held entries raised, and brings the device to REBUILD; OCCUPANCY is set where the
port watches the falling crossing to 0; epoch, counter, policy, holds, freezes and the ports' own state stand. That the errors of
buckets leave `damage` and that start and pass-end requests outlast the reset are the model's choice (notes/assumptions/4.md,
18.md). -/
def Obligations.DeviceResetFreesLanesAndIndex : Prop :=
  ∀ (s : State) (p : PortNo) (r : CommandRecord) (errs : List DramError),
    s.Takes p r 0x17 → byteAt r 4 = 4 → s.proposal = none → (∀ q, q ≠ p → s.attached q = false) → s.settlings = [] → s.Alert →
    Memory.wf s = true →
    ∃ t, exec (.propose p errs) s = .next t ∧
      t.ringRecord p (s.port p).producer =
        (Response.completion
          { kind := 0x17, tag := recTag r, outcome := .ok, fields := [.num 1 0, .num 1 0] }).bytes p (s.port p).pass ∧
      (∀ q, (t.port q).state = (s.port q).state ∧ (t.port q).freeze = (s.port q).freeze ∧ (t.port q).recent = (s.port q).recent ∧
        (t.port q).notices = [] ∧ (q ≠ p → (t.port q).queue = (s.port q).queue)) ∧
      ((t.port p).summary.mark .deviceReset ≠ .clear ∧ (t.port p).summary.mark .consentEnded ≠ .clear) ∧
      ((t.port p).summary.mark .occupancy =
        if ((s.port p).watchMode = .falling ∨ (s.port p).watchMode = .both) ∧ 0 < (s.port p).watchThreshold ∧
            (s.port p).watchThreshold ≤ s.occupancy then
          (if (s.port p).summary.mark .occupancy = .clear then .set else .again)
        else (s.port p).summary.mark .occupancy) ∧
      (∀ n, t.lane n = Lane.free) ∧
      (∀ b i, (t.bucket b)[(i : Fin 16)].entry = none) ∧
      (∀ b i, s.Readable errs b → (t.bucket b)[(i : Fin 16)].generation =
        (if (s.bucket b)[i].entry = none then (s.bucket b)[i].generation
         else if (s.bucket b)[i].generation = 16383 then 0 else (s.bucket b)[i].generation + 1)) ∧
      (∀ b i, b ∈ s.poisonList → (t.bucket b)[(i : Fin 16)].generation = 0) ∧
      (∀ i : Fin 4, t.slots[i] =
        match s.slots[i] with
        | .empty => .empty
        | .active prof roll _ => .active prof roll 0
        | .retiring _ _ _ => .empty) ∧
      t = { s with
        ports := t.ports, memory := t.memory, lanes := t.lanes, index := t.index, slots := t.slots, lastGranted := 63
        orphanTimers := Vector.replicate 64 none, expired := Vector.replicate 64 false, table := [], turns := []
        occupancy := 0, poisonList := [], poisonCount := 0
        damage := (s.damage ++ errs).filter fun d => match d.place with | .bucket _ => false | .journal _ _ => true
        scanner := Scanner.reset, device := .rebuild
        proposal := none, lastEnded := some { body := .deviceReset, outcome := .applied } }

/-! ### Lanes at work -/

/-- R60, R61, R58: the lowest-numbered FREE engine goes to the first ready lane after the last lane granted, going round from 63
to 0; a staged weight becomes active, and the quota follows the weight. Without a FREE engine or a ready lane nothing is granted.
That such an event changes nothing is the model's choice (notes/assumptions/1.md). -/
def Obligations.EngineGrantGoesRound : Prop :=
  ∀ (s : State) (e : Fin 8) (n : LaneNo) (ready : LaneNo → Prop) (busy : Fin 8 → Prop),
    (∀ m, ready m ↔ (s.lane m).state = .active ∧ (s.lane m).grant = none ∧ (s.lane m).stalls = Stalls.clear ∧
      (s.lane m).chunk = none ∧ ∃ a len k rest, (s.lane m).items = .data a len k :: rest) →
    (∀ e, busy e ↔ ∃ m g, (s.lane m).grant = some g ∧ g.engine = e) →
    (ready n → (∀ m, ready m → n - s.lastGranted - 1 ≤ m - s.lastGranted - 1) → ¬busy e → (∀ f, f < e → busy f) →
      ∃ t, exec .engineGrant s = .next t ∧
        s.LaneBecomes t n { s.lane n with
          weight := (s.lane n).staged.getD (s.lane n).weight, staged := none
          grant := some { engine := e, quota := (s.lane n).staged.getD (s.lane n).weight * 65536, taken := 0 } } ∧
        t = { s with lanes := t.lanes, lastGranted := n }) ∧
    ((∀ m, ¬ready m) ∨ (∀ f, busy f) → exec .engineGrant s = .next s)

/-- R31, R34, R35, R42, R55, R64: a byte lengthens the partial chunk, enters the window, the digest and the check word, and moves
the stream offset; a chunk that passes the content test or reaches the maximum is cut and handed to the lane, whose partial chunk
is then empty; the DATA item leaves with its last byte, and an empty queue starves the lane. R66, R100, R101: a chunk that ends with
the journal full makes the lane gain JOURNAL_FULL and begin a journal-full commit, which writes its FORCED record at once when no
container is unsettled. R67, R109: a chunk that ends with the sequence exhausted aborts the lane. The moment of STARVED, and that
the exhausted sequence is judged before the full journal, are the model's choice (notes/assumptions/8.md, 9.md). -/
def Obligations.ByteTakenExtendsOrCuts : Prop :=
  ∀ (s : State) (n : LaneNo) (b : Byte) (l : Lane) (g : Grant) (a len k : Nat) (rest : List Item) (prof : Profile) (roll : Word32)
    (uses : Nat) (q : Partial) (hit : Prop) (chunk : Cut → Chunk),
    s.lane n = l → l.state = .active → l.stalls = Stalls.clear → l.chunk = none → l.run = none → l.held = none →
    l.grant = some g → l.items = .data a len k :: rest → k < len →
    (s.slots[l.slot] = .active prof roll uses ∨ s.slots[l.slot] = .retiring prof roll uses) →
    q = l.part.take prof roll l.cutSource b →
    (hit ↔ l.cutSource = .content ∧ prof.minimum ≤ q.length ∧
      ∃ h, q.hash = some h ∧ (h + BitVec.ofNat 32 prof.seed).toNat % 2 ^ prof.exponent = 2 ^ prof.exponent - 1) →
    (∀ cut, chunk cut =
      { length := q.length, first := l.offset + 1 - BitVec.ofNat 64 q.length, fingerprint := q.digest.finish q.length,
        check := crcFinish q.check, cut := cut, waited := false }) →
    (q.length = l.part.length + 1 ∧ q.digest = l.part.digest.take b ∧ q.check = crcTake l.part.check b ∧
      q.window = (if prof.window ≤ l.part.window.length then l.part.window.drop 1 else l.part.window) ++ [b]) ∧
    (¬hit → q.length ≠ prof.maximum → k + 1 < len → g.taken + 1 < g.quota →
      ∃ t, exec (.byteTaken n b) s = .next t ∧ t = { s with lanes := t.lanes } ∧
        s.LaneBecomes t n { l with
          part := q, offset := l.offset + 1, items := .data a len (k + 1) :: rest
          grant := some { g with taken := g.taken + 1 } }) ∧
    (¬hit → q.length ≠ prof.maximum → k + 1 = len → rest = [] →
      ∃ t, exec (.byteTaken n b) s = .next t ∧ t = { s with lanes := t.lanes } ∧
        s.LaneBecomes t n { l with
          part := q, offset := l.offset + 1, items := [], grant := none, stalls := { Stalls.clear with starved := true } }) ∧
    (∀ cut, (hit ∧ cut = .content ∨ ¬hit ∧ q.length = prof.maximum ∧ cut = .limit) → k + 1 < len →
      (l.nextSeq ≠ none → l.journal.length < 262144 →
        ∃ t, exec (.byteTaken n b) s = .next t ∧ t = { s with lanes := t.lanes } ∧
          s.LaneBecomes t n { l with
            part := Partial.empty, chunk := some (chunk cut), offset := l.offset + 1, items := .data a len (k + 1) :: rest
            grant := some { g with taken := g.taken + 1 } }) ∧
      (∀ full, 262144 ≤ l.journal.length → l.nextSeq ≠ none → l.openC = none →
        full = { l with
          part := Partial.empty, chunk := some (chunk cut), offset := l.offset + 1, items := .data a len (k + 1) :: rest
          grant := none, ckSettled := 0, ckWithdrawn := 0, stalls := { Stalls.clear with journalFull := true } } →
        (l.unsettled ≠ [] →
          ∃ t, exec (.byteTaken n b) s = .next t ∧ t = { s with lanes := t.lanes } ∧ s.LaneBecomes t n full) ∧
        (∀ p refs, l.unsettled = [] → l.owner = some p → s.canWrite p = true →
          refs = (l.journal.filter fun e => match e.what with | .ref _ => true | .unindexed _ _ => false).length →
          ∃ t, exec (.byteTaken n b) s = .next t ∧ t = { s with ports := t.ports, memory := t.memory, lanes := t.lanes } ∧
            s.LaneBecomes t n { full with journal := [], withdrawnSince := 0, stalls := Stalls.clear } ∧
            s.Wrote t p
              (.lane
                { lane := n, forced := true, unresolved := false, detail := 0, stateCode := 0, offset := l.offset + 1,
                  nextSeq := l.nextSeq.getD 0, tag := none,
                  body := .checkpoint refs (l.journal.length - refs) 0 0 l.withdrawnSince }) (s.port p).advanced)) ∧
      (l.nextSeq = none → l.unsettled ≠ [] ∨ l.journal ≠ [] → s.settlings = [] → s.turns = [] →
        (∀ p, Writer.lane n ∉ (s.port p).waiting) →
        ∃ t, exec (.byteTaken n b) s = .next t ∧
          t = { s with
            lanes := t.lanes, orphanTimers := s.orphanTimers.set n none
            table := s.table.map fun c => { c with waiters := c.waiters.filter fun w => decide (w.1 ≠ n) } } ∧
          s.LaneBecomes t n { l with
            state := .aborting, grant := none, items := [], part := Partial.empty, chunk := none, waitTarget := none,
            offset := l.offset + 1, tag := none, keptTag := none, staged := none, resume := none, ckSettled := 0,
            ckWithdrawn := 0
            abort := some
              { cause := .sequenceExhausted, stateAt := .active, withdrawn := 0, released := 0, pinned := 0, stale := 0,
                underflow := 0, poisoned := 0, skipped := 0, walkEnded := false, discard := false } }))

/-- R33, R32: the window hash rolled over a byte with the roll factor P = 263^(W-1) is the hash of the new window computed
directly: the sum of its bytes, each weighed by 263 to the power of its distance from the newest. -/
def Obligations.RolledHashIsDirectHash : Prop :=
  ∀ (prof : Profile) (part : Partial) (b : Byte) (h : Word32) (sum : List Byte → Word32),
    (∀ w, sum w = (w.reverse.zipIdx.map fun x => x.1.setWidth 32 * (263 : Word32) ^ x.2).sum) →
    1 ≤ prof.window → part.window.length = prof.window → prof.window ≤ part.length → part.hash = some h → h = sum part.window →
    (part.take prof (rollFactor prof) .content b).hash =
      some ((h - (part.window.headD 0).setWidth 32 * (263 : Word32) ^ (prof.window - 1)) * 263 + b.setWidth 32) ∧
    (part.take prof (rollFactor prof) .content b).hash = some (sum (part.window.drop 1 ++ [b])) ∧
    (part.take prof (rollFactor prof) .content b).window = part.window.drop 1 ++ [b]

/-- R37, R42, R56, R64: a CUT ends a partial chunk of one byte or more as an ITEM cut; a TAG closes the run under construction and
sets the pending tag, with the overrun mark when it replaces one; the item leaves the queue, and an empty queue starves the lane.
The moment of STARVED is the model's choice (notes/assumptions/8.md). -/
def Obligations.CutAndTagAreReached : Prop :=
  ∀ (s : State) (n : LaneNo) (l : Lane) (rest : List Item) (kept : Option Grant),
    s.lane n = l → l.state = .active → l.stalls = Stalls.clear → l.chunk = none → l.held = none →
    kept = l.grant.filter (fun g => headKeepsGrant rest && decide (g.taken < g.quota)) →
    (l.items = .cut :: rest → 1 ≤ l.part.length → l.nextSeq ≠ none → l.journal.length < 262144 →
      ∃ t, exec (.cutReached n) s = .next t ∧ t = { s with lanes := t.lanes } ∧
        s.LaneBecomes t n { l with
          items := rest, part := Partial.empty, grant := if headKeepsGrant rest then l.grant else none
          chunk := some
            { length := l.part.length, first := l.offset - BitVec.ofNat 64 l.part.length,
              fingerprint := l.part.digest.finish l.part.length, check := crcFinish l.part.check, cut := .item,
              waited := false } }) ∧
    (l.items = .cut :: rest → l.part.length = 0 → l.run = none →
      ∃ t, exec (.cutReached n) s = .next t ∧ t = { s with lanes := t.lanes } ∧
        s.LaneBecomes t n { l with
          items := rest, grant := kept, stalls := if rest = [] then { Stalls.clear with starved := true } else Stalls.clear }) ∧
    (∀ v tagged, l.items = .tag v :: rest →
      tagged = { l with
        items := rest, tag := some { value := v, overrun := l.tag.isSome }, run := none, grant := kept,
        stalls := if rest = [] then { Stalls.clear with starved := true } else Stalls.clear } →
      (l.run = none → ∃ t, exec (.tagReached n) s = .next t ∧ t = { s with lanes := t.lanes } ∧ s.LaneBecomes t n tagged) ∧
      (∀ r p, l.run = some r → r.closed = false → l.owner = some p → s.canWrite p = true →
        ∃ t, exec (.tagReached n) s = .next t ∧ s.Wrote t p (.run r) (s.port p).advanced ∧ s.LaneBecomes t n tagged ∧
          t = { s with ports := t.ports, memory := t.memory, lanes := t.lanes }))

/-- R57, R38, R102, R103, R104, R106: CHECKPOINT and END end a partial chunk first, and then commit: the lane waits in
CHECKPOINTING or CLOSING while it has containers to settle, its open container sealed; with none it writes its CHECKPOINT record,
empties its journal and is ACTIVE, or writes its CLOSED record and is FREE. That the item is reached twice is the model's choice
(notes/assumptions/7.md). -/
def Obligations.CheckpointAndEndCommit : Prop :=
  ∀ (s : State) (n : LaneNo) (l : Lane) (rest : List Item) (c : Instr) (st : LaneState) (waits : Lane),
    s.lane n = l → l.state = .active → l.stalls = Stalls.clear → l.chunk = none → l.held = none → l.run = none →
    (c = .checkpointReached n ∧ l.items = .checkpoint :: rest ∧ st = .checkpointing ∨
      c = .endReached n ∧ l.items = .finish :: rest ∧ st = .closing) →
    waits = { l with
      state := st, items := rest, grant := none, keptTag := l.tag, tag := none, ckSettled := 0, ckWithdrawn := 0, openC := none } →
    (1 ≤ l.part.length → l.nextSeq ≠ none → l.journal.length < 262144 →
      ∃ t, exec c s = .next t ∧ t = { s with lanes := t.lanes } ∧
        s.LaneBecomes t n { l with
          part := Partial.empty, grant := none
          chunk := some
            { length := l.part.length, first := l.offset - BitVec.ofNat 64 l.part.length,
              fingerprint := l.part.digest.finish l.part.length, check := crcFinish l.part.check, cut := .item,
              waited := false } }) ∧
    (l.part.length = 0 → l.openC = none → l.unsettled ≠ [] →
      ∃ t, exec c s = .next t ∧ t = { s with lanes := t.lanes } ∧ s.LaneBecomes t n waits) ∧
    (∀ k p, l.part.length = 0 → l.openC = some k.number → s.container? k.number = some k → k.state = .opened → k.ownerLane = n →
      k.ownerPort = p → l.unsettled ≠ [] → s.canWrite p = true → (s.port p).notices = [] → s.NoneStarvedOfContainers →
      ∃ t, exec c s = .next t ∧ s.LaneBecomes t n waits ∧
        s.Wrote t p
          (.container
            { kind := .sealed .checkpoint s.policy.settleLimit, lane := n, container := k.number, fill := k.fill,
              members := k.members.length }) (s.port p).advanced ∧
        t = { s with
          ports := t.ports, memory := t.memory, lanes := t.lanes
          table := s.table.map fun d =>
            if d.number = k.number then { d with state := .sealed .checkpoint (some (s.policy.settleLimit * 1000)) } else d }) ∧
    (∀ p refs q, l.part.length = 0 → l.openC = none → l.unsettled = [] → l.owner = some p → s.canWrite p = true →
      refs = (l.journal.filter fun e => match e.what with | .ref _ => true | .unindexed _ _ => false).length →
      l.nextSeq = some q →
      (st = .checkpointing →
        ∃ t, exec c s = .next t ∧
          s.Wrote t p
            (.lane
              { lane := n, forced := false, unresolved := false, detail := 0, stateCode := 0, offset := l.offset, nextSeq := q,
                tag := l.tag, body := .checkpoint refs (l.journal.length - refs) 0 0 l.withdrawnSince }) (s.port p).advanced ∧
          s.LaneBecomes t n { waits with
            state := .active, keptTag := none, journal := [], withdrawnSince := 0
            stalls := if rest = [] then { Stalls.clear with starved := true } else Stalls.clear } ∧
          t = { s with ports := t.ports, memory := t.memory, lanes := t.lanes }) ∧
      (∀ slot, st = .closing → s.slots[l.slot].LosesLane slot →
        ∃ t, exec c s = .next t ∧
          s.Wrote t p
            (.lane
              { lane := n, forced := false, unresolved := false, detail := 0, stateCode := 0, offset := l.offset, nextSeq := q,
                tag := l.tag, body := .closed refs (l.journal.length - refs) 0 0 l.withdrawnSince }) (s.port p).advanced ∧
          s.LaneBecomes t n Lane.free ∧
          t = { s with ports := t.ports, memory := t.memory, lanes := t.lanes, slots := s.slots.set l.slot slot }))

/-! ### Lookups and waiters -/

/-- R12, R13, R16, R66, R68: a lookup that finds an entry of equal fingerprint and check word, not PENDING for another lane, is a
DUP: the entry gains a reference, the journal a REF entry, and the VERDICT names the entry's ID and place, RESURRECTED when it was
ZERO. R70, R71: the 256th verdict of a window has its class judged. R72, R73: an unflagged, untagged DUP of a HOT lane joins or opens
its run, which is written at its 12th element; before any other verdict an open run is closed. R65: what finds no position is kept
under RING_FULL. R99: the entry that fills the journal to 229,376 sets JOURNAL_HIGH. -/
def Obligations.LookupFindsDuplicate : Prop :=
  ∀ (s : State) (n : LaneNo) (p : PortNo) (c : Chunk) (q : Nat) (errs : List DramError) (b : Nat) (i : Fin 16) (x : Entry) (id : Nat)
    (l after : Lane) (verdict : Verdict) (apart : Prop) (damage : List DramError),
    s.Seeks n p c q Stalls.clear → s.device ≠ .passthrough → b = bucketOf c.fingerprint → s.Readable errs b →
    (s.bucket b).FirstWith c.fingerprint i x → x.check = c.check → (∀ m, x.state = .pending m → m = n) →
    id = b * 262144 + i.val * 16384 + (s.bucket b)[i].generation → s.lane n = l →
    (l.windowChunks < 255 ∧ after = l.disposed q { seq := q, what := .ref id, length := c.length } true ∨
      l.windowChunks = 255 ∧
        after = (l.disposed q { seq := q, what := .ref id, length := c.length } true).judged (l.windowDups + 1)) →
    verdict =
      { lane := n, seq := q, kind := .dup, resurrected := match x.state with | .zero _ => true | _ => false,
        waited := c.waited, reason := .none, cut := c.cut, offset := c.first, length := c.length, chunkId := some id,
        container := x.container, place := x.offset, fingerprint := c.fingerprint, check := c.check, tag := l.tag,
        cls := after.cls } →
    (apart ↔ after.cls ≠ .hot ∨ l.coalescing = .off ∨ c.waited = true ∨ l.tag ≠ none ∨ ∃ z, x.state = .zero z) →
    damage = (s.damage ++ errs).filter (fun d => decide (d.place ≠ .journal n l.journal.length)) →
    (∀ r, l.run = some r → r.closed = false) → l.journal.length < 262144 →
    ∃ t, exec (.lookup n errs) s = .next t ∧
      s.SlotBecomes t b i { generation := (s.bucket b)[i].generation, entry := some (x.increment 1 s.epoch) } ∧
      t = { s with ports := t.ports, memory := t.memory, lanes := t.lanes, index := t.index, damage := damage } ∧
      (apart → l.run = none → l.journal.length ≠ 229375 → s.canWrite p = true →
        s.LaneBecomes t n after ∧ s.Wrote t p (.verdict verdict) (s.port p).advanced) ∧
      (∀ r g, apart → l.run = some r → l.journal.length ≠ 229375 → s.canWrite p = true → (s.port p).Rings g →
        2 ≤ (s.port p).free →
        s.LaneBecomes t n { after with run := none } ∧
          t.ringRecord p (s.port p).producer = (Response.run r).bytes p (s.port p).pass ∧
          t.ringRecord p (s.port p).advanced.producer = (Response.verdict verdict).bytes p (s.port p).advanced.pass ∧
          t.port p = (s.port p).advanced.advanced ∧ ∀ k, k ≠ p → t.port k = s.port k ∧ t.memory[k] = s.memory[k]) ∧
      (apart → l.journal.length ≠ 229375 → s.canWrite p = false →
        s.LaneBecomes t n { after with
          run := l.run.map fun r => { r with closed := true }, held := some (.verdict verdict),
          stalls := { Stalls.clear with ringFull := true } } ∧
          t.port p = { s.port p with
            waiting :=
              if Writer.lane n ∈ (s.port p).waiting then (s.port p).waiting else (s.port p).waiting ++ [.lane n] } ∧
          (∀ k, k ≠ p → t.port k = s.port k) ∧ t.memory = s.memory) ∧
      (∀ run, ¬apart → l.journal.length ≠ 229375 →
        (l.run = none ∧ run = { first := verdict, elems := [(id, c.length)], closed := false } ∨
          ∃ r, l.run = some r ∧ run = { r with elems := r.elems ++ [(id, c.length)] }) →
        (run.elems.length ≤ 11 →
          s.LaneBecomes t n { after with run := some run } ∧ t.ports = s.ports ∧ t.memory = s.memory) ∧
        (run.elems.length = 12 → s.canWrite p = true →
          s.LaneBecomes t n { after with run := none } ∧ s.Wrote t p (.run run) (s.port p).advanced)) ∧
      (apart → l.run = none → l.journal.length = 229375 → s.canWrite p = true → s.Alert →
        s.LaneBecomes t n after ∧
          s.Wrote t p (.verdict verdict) ((s.port p).flagged .journalHigh (.lanes [n])).advanced)

/-- R12, R8, R75, R77, R78, R80, R83: a lookup that finds no entry and a FREE slot is NEW: the chunk is placed at the fill of the
open container, or at 0 of one newly taken, before which an open container that it does not fit is sealed FULL; its PENDING entry, of
count 1, joins the container's members; the VERDICT names its ID and place. R26: OCCUPANCY is set at every port that watches a rising
crossing to the occupancy it makes. -/
def Obligations.LookupPlacesNewChunk : Prop :=
  ∀ (s : State) (n : LaneNo) (p : PortNo) (c : Chunk) (q : Nat) (errs : List DramError) (b : Nat) (i : Fin 16) (ref : SlotRef)
    (id : Nat) (entry : Nat → Nat → Entry) (verdict : Nat → Nat → Verdict) (damage : List DramError)
    (full : State),
    s.Poised n p c q Stalls.clear → s.device ≠ .passthrough → b = bucketOf c.fingerprint → s.Readable errs b →
    s.CrossesQuietly (s.occupancy + 1) →
    (s.bucket b).Lacks c.fingerprint → (s.bucket b).FirstFree i →
    ref = { bucket := b, slot := i, generation := (s.bucket b)[i].generation } → id = b * 262144 + i.val * 16384 + ref.generation →
    (∀ number place, entry number place =
      { fingerprint := c.fingerprint, check := c.check, state := .pending n, count := 1, container := number, offset := place,
        length := c.length, birth := s.epoch, lastRef := s.epoch }) →
    (∀ number place, verdict number place =
      { lane := n, seq := q, kind := .new, resurrected := false, waited := c.waited, reason := .none, cut := c.cut,
        offset := c.first, length := c.length, chunkId := some id, container := number, place := place,
        fingerprint := c.fingerprint, check := c.check, tag := (s.lane n).tag, cls := .cold }) →
    full = s.crossed (s.occupancy + 1) →
    damage = (s.damage ++ errs).filter (fun d => decide (d.place ≠ .journal n (s.lane n).journal.length)) →
    (∀ k, (s.lane n).openC = some k.number → s.container? k.number = some k → k.fill + c.length ≤ 4194304 →
      ∃ t, exec (.lookup n errs) s = .next t ∧
        s.SlotBecomes t b i { generation := ref.generation, entry := some (entry k.number k.fill) } ∧
        s.LaneBecomes t n ((s.lane n).disposed q { seq := q, what := .ref id, length := c.length } false) ∧
        full.Wrote t p (.verdict (verdict k.number k.fill)) (full.port p).advanced ∧
        t = { s with
          ports := t.ports, memory := t.memory, lanes := t.lanes, index := t.index, occupancy := s.occupancy + 1
          damage := damage
          table := s.table.map fun d =>
            if d.number = k.number then
              { d with fill := d.fill + (c.length + 63) / 64 * 64, members := d.members ++ [ref] }
            else d }) ∧
    ((s.lane n).openC = none → s.counter ≤ 4294967295 → s.table.length < 256 → (s.port p).notices.length < 256 →
      (∀ d ∈ s.table, d.number < s.counter) →
      ∃ t, exec (.lookup n errs) s = .next t ∧
        s.SlotBecomes t b i { generation := ref.generation, entry := some (entry s.counter 0) } ∧
        s.LaneBecomes t n
          (Lane.disposed
            { s.lane n with openC := some s.counter, unsettled := (s.lane n).unsettled ++ [s.counter] } q
            { seq := q, what := .ref id, length := c.length } false) ∧
        full.Wrote t p (.verdict (verdict s.counter 0)) (full.port p).advanced ∧
        t = { s with
          ports := t.ports, memory := t.memory, lanes := t.lanes, index := t.index, occupancy := s.occupancy + 1
          damage := damage, counter := s.counter + 1
          table := s.table ++
            [{ number := s.counter, ownerLane := n, ownerPort := p, state := .opened, fill := (c.length + 63) / 64 * 64,
               members := [ref], waiters := [] }] }) ∧
    (∀ k g, (s.lane n).openC = some k.number → s.container? k.number = some k → k.state = .opened → k.ownerLane = n →
      k.ownerPort = p → 4194304 < k.fill + c.length → s.counter ≤ 4294967295 → s.table.length < 256 → (s.port p).notices = [] →
      s.NoneStarvedOfContainers → (s.port p).Rings g → 2 ≤ (s.port p).free → (∀ d ∈ s.table, d.number < s.counter) →
      ∃ t, exec (.lookup n errs) s = .next t ∧
        s.SlotBecomes t b i { generation := ref.generation, entry := some (entry s.counter 0) } ∧
        s.LaneBecomes t n
          (Lane.disposed
            { s.lane n with openC := some s.counter, unsettled := (s.lane n).unsettled ++ [s.counter] } q
            { seq := q, what := .ref id, length := c.length } false) ∧
        t.ringRecord p (s.port p).producer =
          (Response.container
            { kind := .sealed .full s.policy.settleLimit, lane := n, container := k.number, fill := k.fill,
              members := k.members.length }).bytes p (s.port p).pass ∧
        t.ringRecord p (s.port p).advanced.producer =
          (Response.verdict (verdict s.counter 0)).bytes p (s.port p).advanced.pass ∧
        t.port p = (full.port p).advanced.advanced ∧ (∀ m, m ≠ p → t.port m = full.port m ∧ t.memory[m] = s.memory[m]) ∧
        t = { s with
          ports := t.ports, memory := t.memory, lanes := t.lanes, index := t.index, occupancy := s.occupancy + 1
          damage := damage, counter := s.counter + 1
          table := (s.table.map fun d =>
              if d.number = k.number then { d with state := .sealed .full (some (s.policy.settleLimit * 1000)) } else d) ++
            [{ number := s.counter, ownerLane := n, ownerPort := p, state := .opened, fill := (c.length + 63) / 64 * 64,
               members := [ref], waiters := [] }] })

/-- R12, R14, R15, R75: a chunk that can get no entry is placed and answered NEW_UNINDEXED with its reason; one that matches an
entry PENDING for another lane waits on its container, which is sealed with reason DEMAND when it is OPEN (R94, R83); one that needs a
new container when none can be taken stalls with NO_CONTAINER, with CONTAINERS_EXHAUSTED set when no number remains. -/
def Obligations.LookupUnindexedWaitsOrStalls : Prop :=
  ∀ (s : State) (n : LaneNo) (p : PortNo) (c : Chunk) (q : Nat) (errs : List DramError) (b : Nat),
    s.Poised n p c q Stalls.clear → b = bucketOf c.fingerprint →
    (∀ k why, (s.lane n).openC = some k.number → s.container? k.number = some k → k.fill + c.length ≤ 4194304 →
      (s.device = .passthrough ∧ why = .passthrough ∨ s.device ≠ .passthrough ∧ b ∈ s.poisonList ∧ why = .poisoned ∨
        s.device ≠ .passthrough ∧ s.Readable errs b ∧ (s.bucket b).Lacks c.fingerprint ∧
          (∀ i : Fin 16, (s.bucket b)[i].entry ≠ none) ∧ why = .bucketFull ∨
        s.device ≠ .passthrough ∧ s.Readable errs b ∧
          (∃ i x, (s.bucket b).FirstWith c.fingerprint i x ∧ x.check ≠ c.check) ∧ why = .collision) →
      ∃ t, exec (.lookup n errs) s = .next t ∧
        s.LaneBecomes t n
          ((s.lane n).disposed q { seq := q, what := .unindexed k.number k.fill, length := c.length } false) ∧
        s.Wrote t p
          (.verdict
            { lane := n, seq := q, kind := .newUnindexed, resurrected := false, waited := c.waited, reason := why, cut := c.cut,
              offset := c.first, length := c.length, chunkId := none, container := k.number, place := k.fill,
              fingerprint := c.fingerprint, check := c.check, tag := (s.lane n).tag, cls := .cold }) (s.port p).advanced ∧
        t = { s with
          ports := t.ports, memory := t.memory, lanes := t.lanes
          damage := (s.damage ++ errs).filter fun d => decide (d.place ≠ .journal n (s.lane n).journal.length)
          collisions :=
            if why = .collision then (if s.collisions < 4294967295 then s.collisions + 1 else 4294967295) else s.collisions
          table := s.table.map fun d =>
            if d.number = k.number then { d with fill := d.fill + (c.length + 63) / 64 * 64 } else d }) ∧
    (∀ i x m k reason d, s.device ≠ .passthrough → s.Readable errs b → (s.bucket b).FirstWith c.fingerprint i x →
      x.check = c.check → x.state = .pending m → m ≠ n → s.container? x.container = some k → k.state = .sealed reason d →
      ∃ t, exec (.lookup n errs) s = .next t ∧
        s.LaneBecomes t n { s.lane n with
          waitTarget := some x.container, chunk := some { c with waited := true }
          stalls := { Stalls.clear with waiting := true } } ∧
        t = { s with
          lanes := t.lanes, damage := s.damage ++ errs
          table := s.table.map fun d =>
            if d.number = x.container then
              { d with waiters := d.waiters ++
                [(n, { bucket := b, slot := i, generation := (s.bucket b)[i].generation })] }
            else d }) ∧
    (∀ i, s.device ≠ .passthrough → s.Readable errs b → (s.bucket b).Lacks c.fingerprint → (s.bucket b).FirstFree i →
      (s.lane n).openC = none →
      (s.counter ≤ 4294967295 → (256 ≤ s.table.length ∨ 256 ≤ (s.port p).notices.length) →
        ∃ t, exec (.lookup n errs) s = .next t ∧
          s.LaneBecomes t n { s.lane n with stalls := { Stalls.clear with noContainer := true } } ∧
          t = { s with lanes := t.lanes, damage := s.damage ++ errs }) ∧
      (4294967295 < s.counter → s.Alert →
        ∃ t, exec (.lookup n errs) s = .next t ∧
          s.LaneBecomes t n { s.lane n with stalls := { Stalls.clear with noContainer := true } } ∧
          t = { s.flaggedAt (fun _ => true) .containersExhausted .none with lanes := t.lanes, damage := s.damage ++ errs })) ∧
    (∀ i x m k o, s.device ≠ .passthrough → s.Readable errs b → (s.bucket b).FirstWith c.fingerprint i x →
      x.check = c.check → x.state = .pending m → m ≠ n → s.container? x.container = some k → k.state = .opened →
      k.ownerLane = m → k.ownerPort = o → s.canWrite o = true → (s.port o).notices = [] → s.NoneStarvedOfContainers →
      ∃ t, exec (.lookup n errs) s = .next t ∧
        (∀ j, t.lane j =
          if j = n then
            { s.lane n with
              waitTarget := some x.container, chunk := some { c with waited := true }
              stalls := { Stalls.clear with waiting := true } }
          else if j = m then
            { s.lane m with openC := if (s.lane m).openC = some x.container then none else (s.lane m).openC }
          else s.lane j) ∧
        s.Wrote t o
          (.container
            { kind := .sealed .demand s.policy.settleLimit, lane := m, container := x.container, fill := k.fill,
              members := k.members.length }) (s.port o).advanced ∧
        t = { s with
          ports := t.ports, memory := t.memory, lanes := t.lanes, damage := s.damage ++ errs
          table := s.table.map fun d =>
            if d.number = x.container then
              { d with
                state := .sealed .demand (some (s.policy.settleLimit * 1000))
                waiters := d.waiters ++ [(n, { bucket := b, slot := i, generation := (s.bucket b)[i].generation })] }
            else d })

/-- R86, R85, R91: the first waiter of a settled container is completed as a DUP flagged WAITED when its member still stands, and
repeats its lookup otherwise, before which the next is not completed; after the last waiter, however it is completed, the SETTLE
completion is written with the counts. R99, R192: in PASSTHROUGH every waiter repeats its lookup, which is a reading of the model
(notes/assumptions/34.md). One event for each waiter, the turns, and the last waiter's VERDICT before the completion are the model's
choice (notes/assumptions/28.md, 12.md, 13.md). -/
def Obligations.WaitersComplete : Prop :=
  (∀ (s : State) (n : LaneNo) (p : PortNo) (c : Chunk) (q : Nat) (errs : List DramError) (g : Settling) (ref : SlotRef)
    (later : List (LaneNo × SlotRef)) (woken : Lane),
    s.Poised n p c q { Stalls.clear with waiting := true } → s.settlings = [g] → g.waiters = (n, ref) :: later →
    woken = { s.lane n with waitTarget := none, stalls := Stalls.clear } →
    (∀ x id v, s.device ≠ .passthrough → ref ∈ g.members → s.Readable errs ref.bucket → s.Holds ref x →
      id = ref.bucket * 262144 + ref.slot.val * 16384 + ref.generation →
      v =
        ({ lane := n, seq := q, kind := .dup, resurrected := match x.state with | .zero _ => true | _ => false,
           waited := c.waited, reason := .none, cut := c.cut, offset := c.first, length := c.length, chunkId := some id,
           container := x.container, place := x.offset, fingerprint := c.fingerprint, check := c.check,
           tag := (s.lane n).tag, cls := .cold } : Verdict) →
      (later ≠ [] →
        ∃ t, exec (.waiterCompletion g.container errs) s = .next t ∧
          s.SlotBecomes t ref.bucket ref.slot { generation := ref.generation, entry := some (x.increment 1 s.epoch) } ∧
          s.LaneBecomes t n (woken.disposed q { seq := q, what := .ref id, length := c.length } true) ∧
          s.Wrote t p (.verdict v) (s.port p).advanced ∧
          t = { s with
            ports := t.ports, memory := t.memory, lanes := t.lanes, index := t.index
            settlings := [{ g with waiters := later, dups := g.dups + 1 }]
            damage := (s.damage ++ errs).filter fun d => decide (d.place ≠ .journal n (s.lane n).journal.length) }) ∧
      (∀ ring unit, later = [] → g.stray = false → s.canWrite g.sender = true → (s.port p).Rings ring →
        (g.sender = p → 2 ≤ (s.port p).free) → unit = (fun k => if k = p then (s.port k).advanced else s.port k) →
        ∃ t, exec (.waiterCompletion g.container errs) s = .next t ∧
          s.SlotBecomes t ref.bucket ref.slot { generation := ref.generation, entry := some (x.increment 1 s.epoch) } ∧
          s.LaneBecomes t n (woken.disposed q { seq := q, what := .ref id, length := c.length } true) ∧
          t.ringRecord p (s.port p).producer = (Response.verdict v).bytes p (s.port p).pass ∧
          t.ringRecord g.sender (unit g.sender).producer =
            (Response.completion
              { kind := 0x0B, tag := g.tag, outcome := .ok,
                fields :=
                  [.num 4 g.container, .num 4 g.settled, .num 4 g.zeros, .num 2 (g.dups + 1), .num 2 g.repeats] }).bytes
              g.sender (unit g.sender).pass ∧
          (∀ k, t.port k = if k = g.sender then { (unit k).advanced with hand := none } else unit k) ∧
          (∀ k, k ≠ p → k ≠ g.sender → t.memory[k] = s.memory[k]) ∧
          t = { s with
            ports := t.ports, memory := t.memory, lanes := t.lanes, index := t.index, settlings := []
            damage := (s.damage ++ errs).filter fun d => decide (d.place ≠ .journal n (s.lane n).journal.length) })) ∧
    (later ≠ [] → s.device = .passthrough ∨ ref ∉ g.members →
      ∃ t, exec (.waiterCompletion g.container errs) s = .next t ∧ s.LaneBecomes t n woken ∧
        t = { s with
          lanes := t.lanes, damage := s.damage ++ errs
          turns := [{ waiters := [n], settled := some g.container }]
          settlings := [{ g with waiters := later, repeats := g.repeats + 1 }] }) ∧
    (later = [] → s.device = .passthrough ∨ ref ∉ g.members → g.stray = false → s.canWrite g.sender = true →
      ∃ t, exec (.waiterCompletion g.container errs) s = .next t ∧ s.LaneBecomes t n woken ∧
        s.Wrote t g.sender
          (.completion
            { kind := 0x0B, tag := g.tag, outcome := .ok,
              fields :=
                [.num 4 g.container, .num 4 g.settled, .num 4 g.zeros, .num 2 g.dups, .num 2 (g.repeats + 1)] })
          { (s.port g.sender).advanced with hand := none } ∧
        t = { s with
          ports := t.ports, memory := t.memory, lanes := t.lanes, damage := s.damage ++ errs
          turns := [{ waiters := [n], settled := some g.container }]
          settlings := [] })) ∧
  (∀ (s : State) (k : Nat) (errs : List DramError), (∃ q ∈ s.turns, q.settled = some k) →
    exec (.waiterCompletion k errs) s = .next s)

/-- R87, R90, R92, R93, R110: a SEALED container whose settle deadline passes, or the oldest one, OPEN or SEALED, of an aborting
lane, is withdrawn: its members' slots become FREE, it leaves the table and its lane, joins the port's recently-withdrawn list, and a
WITHDRAWN notice is written; an expiry sets SETTLE_EXPIRED at the port. R91: its waiters are handed their turns to repeat their
lookups. R76: the lanes waiting for a container are retested. R101, R102, R103, R104, R106: it is counted by a lane that is
CHECKPOINTING, CLOSING or in a journal-full commit, and ends its wait when it was the last, with the lane's record. R111, R113: the
last one of an abort with an empty journal ends it, with the ABORTED record, which is discarded and counted when the lane has no
owner port or its port has failed. That an expiry is taken at 0 ms, how the turns are kept, that the lane's record comes before the
flag, and the mark of a failed port, are the model's choice (notes/assumptions/2.md, 12.md, 33.md, 11.md). -/
def Obligations.ContainersAreWithdrawn : Prop :=
  ∀ (s : State) (errs : List DramError) (k : Container) (p : PortNo) (l : Lane) (reason : SealReason)
    (entry : SlotRef → Entry) (ws : List LaneNo) (rest : List Container) (recent : List Nat) (since : Nat),
    s.container? k.number = some k → k.ownerPort = p → s.lane k.ownerLane = l → s.canWrite p = true → (s.port p).notices = [] → s.turns = [] → s.Unwatched → s.Alert →
    Memory.wf s = true → slotsDistinct k.members →
    (∀ m ∈ k.members, s.Holds m (entry m) ∧ s.Readable errs m.bucket) →
    ws = k.waiters.map Prod.fst → k.ownerLane ∉ ws → (∀ m ∈ ws, (s.lane m).stalls.ringFull = false) →
    rest = (s.table.filter fun m => decide (m.number ≠ k.number)) →
    recent = (if (s.port p).recent.length < 16 then (s.port p).recent else (s.port p).recent.drop 1) ++ [k.number] →
    since = (if l.withdrawnSince < 65535 then l.withdrawnSince + 1 else 65535) →
    (∀ (c : Instr) (cause : WithdrawCause) (unit : Port) (counted : Lane),
      (c = .settleDeadlineExpiry k.number errs ∧ k.state = .sealed reason (some 0) ∧ l.abort = none ∧ cause = .expired ∧
          unit = (s.port p).flagged .settleExpired .none ∧
          (l.Quiet ∧ counted = l ∨
            (l.state = .checkpointing ∨ l.state = .closing ∨ l.state = .active ∧ l.stalls.journalFull = true) ∧
              l.held = none ∧ l.run = none ∧ (∃ m ∈ l.unsettled, m ≠ k.number) ∧
              counted = { l with ckWithdrawn := l.ckWithdrawn + 1 }) ∨
        (∃ a later, c = .abortWithdrawal k.ownerLane errs ∧ l.state = .aborting ∧ l.abort = some a ∧ a.walkEnded = false ∧
          l.unsettled = k.number :: later ∧ ((∃ m ∈ later, m ≠ k.number) ∨ l.journal ≠ []) ∧ cause = .aborted ∧ unit = s.port p ∧ counted = l)) →
      ∃ t, exec c s = .next t ∧
        (∀ m ∈ k.members, (t.bucket m.bucket)[m.slot] =
          { generation := if m.generation = 16383 then 0 else m.generation + 1, entry := none }) ∧
        (∀ b i, (∀ m ∈ k.members, ¬(m.bucket = b ∧ m.slot = i)) → (t.bucket b)[i] = (s.bucket b)[i]) ∧
        (∀ m, t.lane m = s.retestedLane rest.length
          (if m = k.ownerLane then
            { counted with
              unsettled := l.unsettled.filter fun m => decide (m ≠ k.number), withdrawnSince := since
              openC := if l.openC = some k.number then none else l.openC
              abort := l.abort.map fun a => { a with withdrawn := a.withdrawn + 1 } }
           else if m ∈ ws then
            { s.lane m with waitTarget := none, stalls := { (s.lane m).stalls with waiting := false } }
           else s.lane m)) ∧
        s.Wrote t p
          (.container
            { kind := .withdrawn cause k.waiters.length, lane := k.ownerLane, container := k.number, fill := k.fill,
              members := k.members.length })
          { unit.advanced with recent := recent } ∧
        t = { s with
          ports := t.ports, memory := t.memory, lanes := t.lanes, index := t.index, damage := s.damage ++ errs
          occupancy := s.occupancy - k.members.length, table := rest
          turns := if ws = [] then [] else [{ waiters := ws, settled := none }] }) ∧
    (∀ (c : Instr) (cause : WithdrawCause) (unit : Port) (g : Ring) (refs : Nat) (record : LaneRecord) (after : Lane)
      (slot : ProfileSlot),
      k.waiters = [] → s.NoneStarvedOfContainers → l.owner = some p → (s.port p).Rings g → 2 ≤ (s.port p).free →
      (∀ m ∈ l.unsettled, m = k.number) → l.run = none → l.held = none → l.grant = none →
      refs = (l.journal.filter fun e => match e.what with | .ref _ => true | .unindexed _ _ => false).length →
      (c = .settleDeadlineExpiry k.number errs ∧ k.state = .sealed reason (some 0) ∧ l.openC ≠ some k.number ∧ l.abort = none ∧
          cause = .expired ∧ unit = (s.port p).flagged .settleExpired .none ∧
          (l.state = .checkpointing ∧ l.stalls = Stalls.clear ∧ l.chunk = none ∧ slot = s.slots[l.slot] ∧
              record =
                { lane := k.ownerLane, forced := false, unresolved := false, detail := 0, stateCode := 0, offset := l.offset,
                  nextSeq := l.nextSeq.getD 0, tag := l.keptTag
                  body := .checkpoint refs (l.journal.length - refs) l.ckSettled (l.ckWithdrawn + 1) since } ∧
              after = { l with
                state := .active, unsettled := [], journal := [], withdrawnSince := 0, ckWithdrawn := l.ckWithdrawn + 1
                keptTag := none, stalls := if l.items = [] then { Stalls.clear with starved := true } else Stalls.clear } ∨
            l.state = .closing ∧ after = Lane.free ∧ s.slots[l.slot].LosesLane slot ∧
              record =
                { lane := k.ownerLane, forced := false, unresolved := false, detail := 0, stateCode := 0, offset := l.offset,
                  nextSeq := l.nextSeq.getD 0, tag := l.keptTag
                  body := .closed refs (l.journal.length - refs) l.ckSettled (l.ckWithdrawn + 1) since } ∨
            l.state = .active ∧ l.stalls = { Stalls.clear with journalFull := true } ∧ slot = s.slots[l.slot] ∧
              record =
                { lane := k.ownerLane, forced := true, unresolved := false, detail := 0, stateCode := 0, offset := l.offset,
                  nextSeq := l.nextSeq.getD 0, tag := none
                  body := .checkpoint refs (l.journal.length - refs) l.ckSettled (l.ckWithdrawn + 1) since } ∧
              after = { l with
                unsettled := [], journal := [], withdrawnSince := 0, ckWithdrawn := l.ckWithdrawn + 1
                stalls := Stalls.clear }) ∨
        (∃ a, c = .abortWithdrawal k.ownerLane errs ∧ k.number ∈ l.unsettled ∧ l.state = .aborting ∧ l.abort = some a ∧
          a.walkEnded = false ∧ a.discard = false ∧ l.journal = [] ∧ cause = .aborted ∧ unit = s.port p ∧
          s.slots[l.slot].LosesLane slot ∧ after = Lane.free ∧
          record =
            { lane := k.ownerLane, forced := false, unresolved := false, detail := a.cause.code, stateCode := a.stateAt.code,
              offset := l.offset, nextSeq := l.nextSeq.getD 0, tag := none
              body := .aborted (a.withdrawn + 1) a.released a.pinned a.stale a.underflow a.poisoned a.skipped })) →
      ∃ t, exec c s = .next t ∧
        t.ringRecord p (s.port p).producer =
          (Response.container
            { kind := .withdrawn cause 0, lane := k.ownerLane, container := k.number, fill := k.fill,
              members := k.members.length }).bytes p (s.port p).pass ∧
        t.ringRecord p (s.port p).advanced.producer = (Response.lane record).bytes p (s.port p).advanced.pass ∧
        t.port p = { unit.advanced.advanced with recent := recent } ∧
        (∀ q, q ≠ p → t.port q = s.port q ∧ t.memory[q] = s.memory[q]) ∧ s.LaneBecomes t k.ownerLane after ∧
        t = { s with
          ports := t.ports, memory := t.memory, lanes := t.lanes, index := t.index, damage := s.damage ++ errs
          occupancy := s.occupancy - k.members.length, table := rest, slots := s.slots.set l.slot slot }) ∧
    (∀ (a : AbortRecord) (slot : ProfileSlot),
      k.waiters = [] → s.NoneStarvedOfContainers → k.number ∈ l.unsettled → (∀ m ∈ l.unsettled, m = k.number) →
      l.state = .aborting → l.abort = some a → a.walkEnded = false → l.journal = [] → (l.owner = none ∨ a.discard = true) →
      s.slots[l.slot].LosesLane slot →
      ∃ t, exec (.abortWithdrawal k.ownerLane errs) s = .next t ∧ s.LaneBecomes t k.ownerLane Lane.free ∧
        s.Wrote t p
          (.container
            { kind := .withdrawn .aborted 0, lane := k.ownerLane, container := k.number, fill := k.fill,
              members := k.members.length })
          { (s.port p).advanced with recent := recent } ∧
        t = { s with
          ports := t.ports, memory := t.memory, lanes := t.lanes, index := t.index, damage := s.damage ++ errs
          occupancy := s.occupancy - k.members.length, table := rest, slots := s.slots.set l.slot slot
          discarded := min 4294967295 (s.discarded + (1 + bit l.run.isSome + bit l.held.isSome)) })

/-- R111, R113, R190: each walk step takes the newest journal entry of an aborting lane: a REF entry is decremented as R18 states
and counted by its result, an UNINDEXED entry is skipped, a place in error is counted poisoned; after the oldest the ABORTED
record is written with the counts, and the lane is FREE; a lane without an ATTACHED owner port, or whose port has failed since the
abort began, has its records discarded and counted, the mark of which is the model's choice (notes/assumptions/11.md). R63, R65,
R180: a closed run or held verdict that finds no position then waits for the ring under RING_FULL, before that record. -/
def Obligations.WalkReleasesJournal : Prop :=
  ∀ (s u : State) (n : LaneNo) (l : Lane) (a a' : AbortRecord) (js : List JournalEntry) (e : JournalEntry) (errs : List DramError),
    s.lane n = l → l.state = .aborting → l.unsettled = [] → l.abort = some a → a.walkEnded = false → l.journal = js ++ [e] →
    (∀ d ∈ s.damage ++ errs, d ≠ { place := .journal n js.length, error := .single }) →
    (if { place := .journal n js.length, error := .uncorrectable } ∈ s.damage ++ errs then
      u = { s with damage := s.damage ++ errs } ∧ a' = { a with poisoned := a.poisoned + 1 }
     else
      match e.what with
      | .ref id =>
        ∃ res, State.decrement { s with damage := s.damage ++ errs } id = (res, u) ∧ u.poisonCount = s.poisonCount ∧
          a' =
            (match res with
              | .released => { a with released := a.released + 1 }
              | .pinned => { a with pinned := a.pinned + 1 }
              | .stale => { a with stale := a.stale + 1 }
              | .underflow => { a with underflow := a.underflow + 1 }
              | .poisoned => { a with poisoned := a.poisoned + 1 })
      | .unindexed _ _ => u = { s with damage := s.damage ++ errs } ∧ a' = { a with skipped := a.skipped + 1 }) →
    (js ≠ [] →
      ∃ t, exec (.walkStep n errs) s = .next t ∧ s.LaneBecomes t n { l with journal := js, abort := some a' } ∧
        t = { u with lanes := t.lanes }) ∧
    (∀ p slot, js = [] → l.owner = some p → a.discard = false → l.run = none → l.held = none → u.canWrite p = true →
      u.slots[l.slot].LosesLane slot →
      ∃ t, exec (.walkStep n errs) s = .next t ∧ s.LaneBecomes t n Lane.free ∧
        u.Wrote t p
          (.lane
            { lane := n, forced := false, unresolved := false, detail := a.cause.code, stateCode := a.stateAt.code,
              offset := l.offset, nextSeq := l.nextSeq.getD 0, tag := none,
              body := .aborted a'.withdrawn a'.released a'.pinned a'.stale a'.underflow a'.poisoned a'.skipped })
          (u.port p).advanced ∧
        t = { u with ports := t.ports, memory := t.memory, lanes := t.lanes, slots := u.slots.set l.slot slot }) ∧
    (∀ p, js = [] → l.owner = some p → a.discard = false → ((∃ r, l.run = some r ∧ r.closed = true) ∨ l.held ≠ none) →
      u.attached p = true → u.canWrite p = false → Writer.lane n ∉ (u.port p).waiting →
      ∃ t, exec (.walkStep n errs) s = .next t ∧
        s.LaneBecomes t n { l with
          journal := [], abort := some { a' with walkEnded := true }, stalls := { l.stalls with ringFull := true } } ∧
        t.port p = { u.port p with waiting := (u.port p).waiting ++ [.lane n] } ∧ (∀ q, q ≠ p → t.port q = u.port q) ∧
        t = { u with ports := t.ports, lanes := t.lanes }) ∧
    (∀ slot, js = [] → (∀ p, l.owner = some p → u.attached p = false ∨ a.discard = true) → u.slots[l.slot].LosesLane slot →
      ∃ t, exec (.walkStep n errs) s = .next t ∧ s.LaneBecomes t n Lane.free ∧
        t = { u with
          lanes := t.lanes, slots := u.slots.set l.slot slot
          discarded := min 4294967295 (u.discarded + (1 + bit l.run.isSome + bit l.held.isSome)) })

/-! ### Port failure -/

/-- R156, R157, R158, R159, R160, R181: a watchdog expiry, a link reset or a failed DMA access brings an ATTACHED port to FAILSAFE: its
fail-safe time is now, its watchdog STOPPED, its queue, summary and freeze given up, and every record waiting for its ring discarded
and counted; a sweep of it stops; each of its lanes in service is ORPHANED or, by its fail-safe action, aborted; the other attached
ports see PEER_FAILSAFE naming it. R124: the last freeze given up takes the held advance. R150: its open proposal ends WITHDRAWN, and
it leaves the sets of another's, which applies when the other required ports have consented. That the watchdog expires at 0 ms, what
a failed ring write loses, and that an abandoned lane's run and verdict go at once, are the model's choice (notes/assumptions/2.md,
15.md, 11.md). -/
def Obligations.PortFailureEntersFailSafe : Prop :=
  ∀ (s : State) (p : PortNo) (errs : List DramError) (c : Instr) (takes applies : Prop), s.attached p = true →
    (c = .linkReset p errs ∨ c = .dmaFailure p .extentRead errs ∨ c = .dmaFailure p .ringWrite errs ∨
      c = .watchdogExpiry p errs ∧ (s.port p).watchdog = some 0) →
    s.settlings = [] →
    (takes ↔ (s.port p).freeze = true ∧ (∀ q, q ≠ p → (s.port q).freeze = false) ∧ s.advancePending = true) →
    (applies ↔ ∃ q, s.proposal = some q ∧ q.proposer ≠ p ∧ p ∈ q.required ∧ ∀ k ∈ q.required, k ≠ p → k ∈ q.received) →
    ∃ t, exec c s = .next t ∧ (t.port p).state = .failsafe ∧ (t.port p).watchdog = none ∧
      (t.port p).failSafeTime = some s.now ∧ (t.port p).queue = [] ∧ (t.port p).hand = none ∧ (t.port p).notices = [] ∧
      (t.port p).waiting = [] ∧ (t.port p).attnHeld = false ∧ (t.port p).summary = Summary.empty ∧ (t.port p).freeze = false ∧
      (∀ x ∈ t.scanner.queue, x.port ≠ p) ∧
      (s.scanner.requester = some p → t.scanner.state = .idle ∧ t.scanner.requester = none) ∧
      (∀ q, q ≠ p → s.attached q = true →
        t.attached q = true ∧ (t.port q).summary.mark .peerFailsafe ≠ .clear ∧ p ∈ (t.port q).summary.peers ∧
        (t.port q).queue = (s.port q).queue ∧ (t.port q).hand = (s.port q).hand) ∧
      t.counter = s.counter ∧ t.holds = s.holds ∧
      (takes → t.advancePending = false ∧ t.epoch = (if s.epoch < 4294967295 then s.epoch + 1 else 4294967295) ∧
        t.startRequests = s.startRequests + 1 ∧ (¬applies → t.stagedPolicy = none)) ∧
      (¬takes → t.advancePending = s.advancePending ∧ t.epoch = s.epoch ∧ t.startRequests = s.startRequests) ∧
      (s.proposal = none → t.proposal = none) ∧
      (∀ q, s.proposal = some q →
        (q.proposer = p → t.proposal = none ∧ t.lastEnded = some { body := q.body, outcome := .withdrawn }) ∧
        (q.proposer ≠ p → p ∉ q.required → t.proposal = some q) ∧
        (q.proposer ≠ p → p ∈ q.required → ¬applies →
          t.proposal = some { q with
            required := q.required.filter fun k => decide (k ≠ p), received := q.received.filter fun k => decide (k ≠ p) }) ∧
        (applies → t.proposal = none) ∧
        (applies → ¬takes ∨ s.stagedPolicy = none → t.lastEnded = some
          { body := q.body, outcome := if q.body = .serviceStart ∧ s.device ≠ .rebuild then .voided else .applied })) ∧
      (¬takes → ¬applies →
        (∀ n, (s.lane n).owner = some p → (s.lane n).state.serves = true →
          ((s.lane n).action = .suspend → (t.lane n).state = .orphaned) ∧
          ((s.lane n).action = .abandon →
            (t.lane n).state = .aborting ∧ (t.lane n).run = none ∧ (t.lane n).held = none ∨ (t.lane n).state = .free)) ∧
        (t.port p).recent = (s.port p).recent ∧ t.index = s.index ∧ t.policy = s.policy ∧ t.device = s.device ∧
        ((∀ n, (s.lane n).owner = some p → (s.lane n).state = .free) → c ≠ .dmaFailure p .ringWrite errs →
          t.discarded = min 4294967295
            (s.discarded + (match (s.port p).hand with | some (.completion _ _) => 1 | _ => 0) + (s.port p).notices.length +
              (if (s.port p).attnHeld then 1 else 0) + (s.scanner.queue.filter fun x => decide (x.port = p)).length)) ∧
        (∀ n, (∀ m, (s.lane m).owner = some p ↔ m = n) → (s.lane n).state.serves = true → (s.lane n).action = .abandon →
          (s.lane n).unsettled ≠ [] → c ≠ .dmaFailure p .ringWrite errs → (s.port p).hand = none → (s.port p).notices = [] →
          (s.port p).attnHeld = false → (∀ x ∈ s.scanner.queue, x.port ≠ p) →
          t.discarded = min 4294967295
            (s.discarded + (if (s.lane n).run.isSome then 1 else 0) + (if (s.lane n).held.isSome then 1 else 0))))

/-- R161, R163, R159: a lane orphaned by its port's failure keeps its stream, partial and ended chunk, tags, class, containers and
journal, gives up its owner, engine, items, waits, run and held record, remembers the port and the state it was in, and its orphan
timer starts with the limit in force; LANE_ORPHANED names it at every other attached port. That the watchdog expires at 0 ms is
the model's choice (notes/assumptions/2.md). -/
def Obligations.OrphanedLaneKeepsItsStream : Prop :=
  ∀ (s : State) (p : PortNo) (n : LaneNo) (errs : List DramError) (c : Instr), s.attached p = true →
    (c = .linkReset p errs ∨ c = .dmaFailure p .extentRead errs ∨ c = .watchdogExpiry p errs ∧ (s.port p).watchdog = some 0) →
    s.settlings = [] → s.proposal = none → s.advancePending = false → (s.lane n).owner = some p →
    (s.lane n).state.serves = true → (s.lane n).action = .suspend →
    ∃ t, exec c s = .next t ∧
      t.lane n = { s.lane n with
        state := .orphaned, resume := some (s.lane n).state, former := some p, owner := none, grant := none, items := [],
        waitTarget := none, run := none, held := none, stalls := Stalls.clear } ∧
      t.orphanTimers[n] = some (s.policy.orphanLimit * 1000) ∧
      (∀ m, (s.lane m).owner ≠ some p → t.lane m = s.lane m ∧ t.orphanTimers[m] = s.orphanTimers[m]) ∧
      (∀ q, q ≠ p → s.attached q = true →
        (t.port q).summary.mark .laneOrphaned ≠ .clear ∧ n ∈ (t.port q).summary.orphanedLanes)

/-! ### What every step keeps -/

/-- The state after power-on meets the invariants of the statements that follow. -/
def Obligations.ResetMeetsInvariants : Prop :=
  Memory.wf State.reset = true ∧ State.reset.Bounded ∧ State.reset.Distinct ∧ State.reset.Sound ∧ State.reset.Owned

/-- Every step keeps the index and the ring records in canonical form. -/
def Obligations.StepKeepsMemoryCanonical : Prop :=
  ∀ (s t : State), Memory.wf s = true → step s = .next t → Memory.wf t = true

/-- R14, R53, R74, R79, R92, R93, R117, R123, R130, R134, R172, R181, R188, R189: every step keeps queues, lists and counters
within their bounds. -/
def Obligations.StepKeepsBounds : Prop :=
  ∀ (s t : State), s.Bounded → step s = .next t → t.Bounded

/-- R2, R8: every step on an index in canonical form keeps each entry in the bucket of its fingerprint, and no two entries of the
index with one fingerprint. -/
def Obligations.StepKeepsFingerprintsUnique : Prop :=
  ∀ (s t : State), Memory.wf s = true → s.Distinct → step s = .next t → t.Distinct

/-- R7, R16, R17, R18, R19: every step on an index in canonical form keeps each entry's count in agreement with its state, and its
epochs with one another and with the current epoch. -/
def Obligations.StepKeepsEntriesSound : Prop :=
  ∀ (s t : State), Memory.wf s = true → s.Sound → step s = .next t → t.Sound

/-- R47, R176: every step keeps each lane in service owned by an ATTACHED port. -/
def Obligations.StepKeepsServedLanesOwned : Prop :=
  ∀ (s t : State), s.Owned → step s = .next t → t.Owned

/-- R117, R74: no step but power-on and the end of the initialisation lowers the epoch or the container counter: not a device
reset, nor any failure of a port. -/
def Obligations.StepNeverLowersEpochOrCounter : Prop :=
  ∀ (s t : State), s.epoch ≤ 4294967295 → s.pending.head? ≠ some .powerOn → s.pending.head? ≠ some .initialisationEnd →
    step s = .next t → s.epoch ≤ t.epoch ∧ s.counter ≤ t.counter
end

