-- ==== Sys2Proof/Laws/Sparse.lean ====
section
/-! SUPPORT. Sparse tables: a read after a write, and the canonical form that every operation keeps. -/

namespace Sys2Proof.Machine

variable {α : Type} [DecidableEq α]

/-- A read of another key finds what stood there. -/
theorem sparseGet_sparsePut_ne (d : α) (t : List (Nat × α)) {k a : Nat} (v : α) (h : a ≠ k) :
    sparseGet d (sparsePut d t k v) a = sparseGet d t a := by
  induction t with
  | nil => unfold sparsePut; split <;> simp [sparseGet, h]
  | cons x rest ih =>
    obtain ⟨k', v'⟩ := x
    unfold sparsePut
    split
    · split <;> simp [sparseGet, h]
    · split
      · rename_i hk
        subst hk
        split <;> simp [sparseGet, h]
      · simp only [sparseGet, ih]

/-- A read of the key written finds the value, when it is not what an unlisted key reads as. -/
theorem sparseGet_sparsePut_self_of_ne (d : α) (t : List (Nat × α)) (k : Nat) {v : α} (h : v ≠ d) :
    sparseGet d (sparsePut d t k v) k = v := by
  induction t with
  | nil => simp [sparsePut, sparseGet, h]
  | cons x rest ih =>
    obtain ⟨k', v'⟩ := x
    unfold sparsePut
    split
    · simp [sparseGet]
    · split
      · simp [sparseGet]
      · rename_i hk
        simp [sparseGet, hk, ih]

/-- Below the bound, a table in canonical form lists nothing. -/
theorem sparseGet_of_wfFrom (d : α) (t : List (Nat × α)) {b k : Nat} (h : sparseWfFrom d (some b) t = true) (hk : k ≤ b) :
    sparseGet d t k = d := by
  induction t generalizing b with
  | nil => rfl
  | cons x rest ih =>
    obtain ⟨k', v'⟩ := x
    simp only [sparseWfFrom, Bool.and_eq_true, decide_eq_true_eq] at h
    obtain ⟨⟨hb, -⟩, hr⟩ := h
    have hne : k ≠ k' := by omega
    simp only [sparseGet, hne, if_false]
    exact ih hr (by omega)

/-- A read of the key written finds the value, in a table in canonical form. -/
theorem sparseGet_sparsePut_self (d : α) (t : List (Nat × α)) (b : Option Nat) (k : Nat) (v : α)
    (h : sparseWfFrom d b t = true) : sparseGet d (sparsePut d t k v) k = v := by
  by_cases hv : v = d
  · subst hv
    induction t generalizing b with
    | nil => simp [sparsePut, sparseGet]
    | cons x rest ih =>
      obtain ⟨k', v'⟩ := x
      have h' := h
      simp only [sparseWfFrom, Bool.and_eq_true, decide_eq_true_eq] at h
      obtain ⟨-, hr⟩ := h
      unfold sparsePut
      split
      · rename_i hk
        have hne : k ≠ k' := by omega
        simp only [if_true, sparseGet, hne, if_false]
        exact sparseGet_of_wfFrom v rest hr (by omega)
      · split
        · rename_i hk
          simp only [if_true]
          exact sparseGet_of_wfFrom v rest hr (by omega)
        · rename_i hk
          simp only [sparseGet, hk, if_false]
          exact ih _ hr
  · exact sparseGet_sparsePut_self_of_ne d t k hv

/-- The bound of a table in canonical form may fall. -/
theorem sparseWfFrom_mono (d : α) (t : List (Nat × α)) {b : Option Nat} {n : Nat} (h : sparseWfFrom d (some n) t = true)
    (hb : ∀ m, b = some m → m ≤ n) : sparseWfFrom d b t = true := by
  cases t with
  | nil => rfl
  | cons x rest =>
    obtain ⟨k', v'⟩ := x
    cases b with
    | none => simp only [sparseWfFrom, Bool.and_eq_true, decide_eq_true_eq] at h ⊢; simp [h.1.2, h.2]
    | some m =>
      have := hb m rfl
      simp only [sparseWfFrom, Bool.and_eq_true, decide_eq_true_eq] at h ⊢
      exact ⟨⟨by omega, h.1.2⟩, h.2⟩

/-- A write keeps the canonical form. -/
theorem sparseWfFrom_sparsePut (d : α) (t : List (Nat × α)) (b : Option Nat) (k : Nat) (v : α)
    (h : sparseWfFrom d b t = true) (hk : ∀ m, b = some m → m < k) : sparseWfFrom d b (sparsePut d t k v) = true := by
  induction t generalizing b with
  | nil =>
    unfold sparsePut
    split
    · rfl
    · rename_i hv
      cases b with
      | none => simp [sparseWfFrom, hv]
      | some m => simp [sparseWfFrom, hv, hk m rfl]
  | cons x rest ih =>
    obtain ⟨k', v'⟩ := x
    have h' := h
    simp only [sparseWfFrom, Bool.and_eq_true, decide_eq_true_eq] at h
    obtain ⟨⟨hb, hv'⟩, hr⟩ := h
    unfold sparsePut
    split
    · rename_i hlt
      split
      · exact h'
      · rename_i hv
        simp only [sparseWfFrom, Bool.and_eq_true, decide_eq_true_eq]
        refine ⟨⟨?_, hv⟩, ⟨hlt, hv'⟩, hr⟩
        cases b with
        | none => rfl
        | some m => simpa using hk m rfl
    · split
      · rename_i hge heq
        subst heq
        split
        · exact sparseWfFrom_mono d rest hr (fun m hm => le_of_lt (hk m hm))
        · rename_i hv
          simp only [sparseWfFrom, Bool.and_eq_true, decide_eq_true_eq]
          exact ⟨⟨hb, hv⟩, hr⟩
      · rename_i hge hne
        simp only [sparseWfFrom, Bool.and_eq_true, decide_eq_true_eq]
        refine ⟨⟨hb, hv'⟩, ih _ hr ?_⟩
        intro m hm
        cases hm
        omega

/-- A write keeps the canonical form of a whole table. -/
theorem sparseWf_sparsePut (d : α) (t : List (Nat × α)) (k : Nat) (v : α) (h : sparseWf d t = true) :
    sparseWf d (sparsePut d t k v) = true :=
  sparseWfFrom_sparsePut d t none k v h (by simp)

/-- A map keeps the canonical form. -/
theorem sparseWfFrom_sparseMap (d : α) (f : Nat → α → α) (t : List (Nat × α)) (b : Option Nat)
    (h : sparseWfFrom d b t = true) : sparseWfFrom d b (sparseMap d f t) = true := by
  induction t generalizing b with
  | nil => rfl
  | cons x rest ih =>
    obtain ⟨k, v⟩ := x
    simp only [sparseWfFrom, Bool.and_eq_true, decide_eq_true_eq] at h
    obtain ⟨⟨hb, -⟩, hr⟩ := h
    unfold sparseMap
    split
    · refine sparseWfFrom_mono d _ (ih _ hr) ?_
      intro m hm
      subst hm
      simpa using le_of_lt (by simpa using hb)
    · rename_i hv
      simp only [sparseWfFrom, Bool.and_eq_true, decide_eq_true_eq]
      exact ⟨⟨hb, hv⟩, ih _ hr⟩

/-- A map keeps the canonical form of a whole table. -/
theorem sparseWf_sparseMap (d : α) (f : Nat → α → α) (t : List (Nat × α)) (h : sparseWf d t = true) :
    sparseWf d (sparseMap d f t) = true :=
  sparseWfFrom_sparseMap d f t none h

/-- A read of a mapped table reads the mapped value, when the map keeps what an unlisted key reads as. -/
theorem sparseGet_sparseMap (d : α) (f : Nat → α → α) (t : List (Nat × α)) (b : Option Nat) (k : Nat)
    (h : sparseWfFrom d b t = true) (hd : f k d = d) : sparseGet d (sparseMap d f t) k = f k (sparseGet d t k) := by
  induction t generalizing b with
  | nil => simp [sparseMap, sparseGet, hd]
  | cons x rest ih =>
    obtain ⟨k', v⟩ := x
    simp only [sparseWfFrom, Bool.and_eq_true, decide_eq_true_eq] at h
    obtain ⟨-, hr⟩ := h
    unfold sparseMap
    split
    · rename_i hv
      by_cases hk : k = k'
      · subst hk
        rw [ih _ hr, sparseGet_of_wfFrom d rest hr (le_refl _), hd]
        simp [sparseGet, hv]
      · simp only [sparseGet, hk, if_false]
        exact ih _ hr
    · by_cases hk : k = k'
      · simp [sparseGet, hk]
      · simp only [sparseGet, hk, if_false]
        exact ih _ hr

end Sys2Proof.Machine
end

