-- ==== Sys2Proof/Laws/State.lean ====
section
/-! SUPPORT. What each plain update of State leaves in every field: one lemma for each field and update, true by unfolding. -/

namespace Sys2Proof.Machine

open Sys2Proof

variable (s : State) (p : PortNo) (n : LaneNo)

@[simp] theorem State.setPort_pending (q : Port) : (s.setPort p q).pending = s.pending := rfl
@[simp] theorem State.setPort_initialising (q : Port) : (s.setPort p q).initialising = s.initialising := rfl
@[simp] theorem State.setPort_now (q : Port) : (s.setPort p q).now = s.now := rfl
@[simp] theorem State.setPort_device (q : Port) : (s.setPort p q).device = s.device := rfl
@[simp] theorem State.setPort_ports (q : Port) : (s.setPort p q).ports = s.ports.set p q := rfl
@[simp] theorem State.setPort_lanes (q : Port) : (s.setPort p q).lanes = s.lanes := rfl
@[simp] theorem State.setPort_lastGranted (q : Port) : (s.setPort p q).lastGranted = s.lastGranted := rfl
@[simp] theorem State.setPort_orphanTimers (q : Port) : (s.setPort p q).orphanTimers = s.orphanTimers := rfl
@[simp] theorem State.setPort_expired (q : Port) : (s.setPort p q).expired = s.expired := rfl
@[simp] theorem State.setPort_index (q : Port) : (s.setPort p q).index = s.index := rfl
@[simp] theorem State.setPort_occupancy (q : Port) : (s.setPort p q).occupancy = s.occupancy := rfl
@[simp] theorem State.setPort_collisions (q : Port) : (s.setPort p q).collisions = s.collisions := rfl
@[simp] theorem State.setPort_poisonList (q : Port) : (s.setPort p q).poisonList = s.poisonList := rfl
@[simp] theorem State.setPort_poisonCount (q : Port) : (s.setPort p q).poisonCount = s.poisonCount := rfl
@[simp] theorem State.setPort_correctable (q : Port) : (s.setPort p q).correctable = s.correctable := rfl
@[simp] theorem State.setPort_damage (q : Port) : (s.setPort p q).damage = s.damage := rfl
@[simp] theorem State.setPort_counter (q : Port) : (s.setPort p q).counter = s.counter := rfl
@[simp] theorem State.setPort_table (q : Port) : (s.setPort p q).table = s.table := rfl
@[simp] theorem State.setPort_settlings (q : Port) : (s.setPort p q).settlings = s.settlings := rfl
@[simp] theorem State.setPort_turns (q : Port) : (s.setPort p q).turns = s.turns := rfl
@[simp] theorem State.setPort_strayReleases (q : Port) : (s.setPort p q).strayReleases = s.strayReleases := rfl
@[simp] theorem State.setPort_epoch (q : Port) : (s.setPort p q).epoch = s.epoch := rfl
@[simp] theorem State.setPort_advancePending (q : Port) : (s.setPort p q).advancePending = s.advancePending := rfl
@[simp] theorem State.setPort_absorbed (q : Port) : (s.setPort p q).absorbed = s.absorbed := rfl
@[simp] theorem State.setPort_epochTimer (q : Port) : (s.setPort p q).epochTimer = s.epochTimer := rfl
@[simp] theorem State.setPort_policy (q : Port) : (s.setPort p q).policy = s.policy := rfl
@[simp] theorem State.setPort_stagedPolicy (q : Port) : (s.setPort p q).stagedPolicy = s.stagedPolicy := rfl
@[simp] theorem State.setPort_sweepEndRequests (q : Port) : (s.setPort p q).sweepEndRequests = s.sweepEndRequests := rfl
@[simp] theorem State.setPort_startRequests (q : Port) : (s.setPort p q).startRequests = s.startRequests := rfl
@[simp] theorem State.setPort_holds (q : Port) : (s.setPort p q).holds = s.holds := rfl
@[simp] theorem State.setPort_scanner (q : Port) : (s.setPort p q).scanner = s.scanner := rfl
@[simp] theorem State.setPort_slots (q : Port) : (s.setPort p q).slots = s.slots := rfl
@[simp] theorem State.setPort_proposal (q : Port) : (s.setPort p q).proposal = s.proposal := rfl
@[simp] theorem State.setPort_lastEnded (q : Port) : (s.setPort p q).lastEnded = s.lastEnded := rfl
@[simp] theorem State.setPort_discarded (q : Port) : (s.setPort p q).discarded = s.discarded := rfl
@[simp] theorem State.setPort_memory (q : Port) : (s.setPort p q).memory = s.memory := rfl

@[simp] theorem State.modPort_pending (f : Port → Port) : (s.modPort p f).pending = s.pending := rfl
@[simp] theorem State.modPort_initialising (f : Port → Port) : (s.modPort p f).initialising = s.initialising := rfl
@[simp] theorem State.modPort_now (f : Port → Port) : (s.modPort p f).now = s.now := rfl
@[simp] theorem State.modPort_device (f : Port → Port) : (s.modPort p f).device = s.device := rfl
@[simp] theorem State.modPort_ports (f : Port → Port) : (s.modPort p f).ports = s.ports.set p (f (s.port p)) := rfl
@[simp] theorem State.modPort_lanes (f : Port → Port) : (s.modPort p f).lanes = s.lanes := rfl
@[simp] theorem State.modPort_lastGranted (f : Port → Port) : (s.modPort p f).lastGranted = s.lastGranted := rfl
@[simp] theorem State.modPort_orphanTimers (f : Port → Port) : (s.modPort p f).orphanTimers = s.orphanTimers := rfl
@[simp] theorem State.modPort_expired (f : Port → Port) : (s.modPort p f).expired = s.expired := rfl
@[simp] theorem State.modPort_index (f : Port → Port) : (s.modPort p f).index = s.index := rfl
@[simp] theorem State.modPort_occupancy (f : Port → Port) : (s.modPort p f).occupancy = s.occupancy := rfl
@[simp] theorem State.modPort_collisions (f : Port → Port) : (s.modPort p f).collisions = s.collisions := rfl
@[simp] theorem State.modPort_poisonList (f : Port → Port) : (s.modPort p f).poisonList = s.poisonList := rfl
@[simp] theorem State.modPort_poisonCount (f : Port → Port) : (s.modPort p f).poisonCount = s.poisonCount := rfl
@[simp] theorem State.modPort_correctable (f : Port → Port) : (s.modPort p f).correctable = s.correctable := rfl
@[simp] theorem State.modPort_damage (f : Port → Port) : (s.modPort p f).damage = s.damage := rfl
@[simp] theorem State.modPort_counter (f : Port → Port) : (s.modPort p f).counter = s.counter := rfl
@[simp] theorem State.modPort_table (f : Port → Port) : (s.modPort p f).table = s.table := rfl
@[simp] theorem State.modPort_settlings (f : Port → Port) : (s.modPort p f).settlings = s.settlings := rfl
@[simp] theorem State.modPort_turns (f : Port → Port) : (s.modPort p f).turns = s.turns := rfl
@[simp] theorem State.modPort_strayReleases (f : Port → Port) : (s.modPort p f).strayReleases = s.strayReleases := rfl
@[simp] theorem State.modPort_epoch (f : Port → Port) : (s.modPort p f).epoch = s.epoch := rfl
@[simp] theorem State.modPort_advancePending (f : Port → Port) : (s.modPort p f).advancePending = s.advancePending := rfl
@[simp] theorem State.modPort_absorbed (f : Port → Port) : (s.modPort p f).absorbed = s.absorbed := rfl
@[simp] theorem State.modPort_epochTimer (f : Port → Port) : (s.modPort p f).epochTimer = s.epochTimer := rfl
@[simp] theorem State.modPort_policy (f : Port → Port) : (s.modPort p f).policy = s.policy := rfl
@[simp] theorem State.modPort_stagedPolicy (f : Port → Port) : (s.modPort p f).stagedPolicy = s.stagedPolicy := rfl
@[simp] theorem State.modPort_sweepEndRequests (f : Port → Port) : (s.modPort p f).sweepEndRequests = s.sweepEndRequests := rfl
@[simp] theorem State.modPort_startRequests (f : Port → Port) : (s.modPort p f).startRequests = s.startRequests := rfl
@[simp] theorem State.modPort_holds (f : Port → Port) : (s.modPort p f).holds = s.holds := rfl
@[simp] theorem State.modPort_scanner (f : Port → Port) : (s.modPort p f).scanner = s.scanner := rfl
@[simp] theorem State.modPort_slots (f : Port → Port) : (s.modPort p f).slots = s.slots := rfl
@[simp] theorem State.modPort_proposal (f : Port → Port) : (s.modPort p f).proposal = s.proposal := rfl
@[simp] theorem State.modPort_lastEnded (f : Port → Port) : (s.modPort p f).lastEnded = s.lastEnded := rfl
@[simp] theorem State.modPort_discarded (f : Port → Port) : (s.modPort p f).discarded = s.discarded := rfl
@[simp] theorem State.modPort_memory (f : Port → Port) : (s.modPort p f).memory = s.memory := rfl

@[simp] theorem State.popQueue_pending : (s.popQueue p).pending = s.pending := rfl
@[simp] theorem State.popQueue_initialising : (s.popQueue p).initialising = s.initialising := rfl
@[simp] theorem State.popQueue_now : (s.popQueue p).now = s.now := rfl
@[simp] theorem State.popQueue_device : (s.popQueue p).device = s.device := rfl
@[simp] theorem State.popQueue_ports : (s.popQueue p).ports = s.ports.set p { s.port p with queue := (s.port p).queue.drop 1 } := rfl
@[simp] theorem State.popQueue_lanes : (s.popQueue p).lanes = s.lanes := rfl
@[simp] theorem State.popQueue_lastGranted : (s.popQueue p).lastGranted = s.lastGranted := rfl
@[simp] theorem State.popQueue_orphanTimers : (s.popQueue p).orphanTimers = s.orphanTimers := rfl
@[simp] theorem State.popQueue_expired : (s.popQueue p).expired = s.expired := rfl
@[simp] theorem State.popQueue_index : (s.popQueue p).index = s.index := rfl
@[simp] theorem State.popQueue_occupancy : (s.popQueue p).occupancy = s.occupancy := rfl
@[simp] theorem State.popQueue_collisions : (s.popQueue p).collisions = s.collisions := rfl
@[simp] theorem State.popQueue_poisonList : (s.popQueue p).poisonList = s.poisonList := rfl
@[simp] theorem State.popQueue_poisonCount : (s.popQueue p).poisonCount = s.poisonCount := rfl
@[simp] theorem State.popQueue_correctable : (s.popQueue p).correctable = s.correctable := rfl
@[simp] theorem State.popQueue_damage : (s.popQueue p).damage = s.damage := rfl
@[simp] theorem State.popQueue_counter : (s.popQueue p).counter = s.counter := rfl
@[simp] theorem State.popQueue_table : (s.popQueue p).table = s.table := rfl
@[simp] theorem State.popQueue_settlings : (s.popQueue p).settlings = s.settlings := rfl
@[simp] theorem State.popQueue_turns : (s.popQueue p).turns = s.turns := rfl
@[simp] theorem State.popQueue_strayReleases : (s.popQueue p).strayReleases = s.strayReleases := rfl
@[simp] theorem State.popQueue_epoch : (s.popQueue p).epoch = s.epoch := rfl
@[simp] theorem State.popQueue_advancePending : (s.popQueue p).advancePending = s.advancePending := rfl
@[simp] theorem State.popQueue_absorbed : (s.popQueue p).absorbed = s.absorbed := rfl
@[simp] theorem State.popQueue_epochTimer : (s.popQueue p).epochTimer = s.epochTimer := rfl
@[simp] theorem State.popQueue_policy : (s.popQueue p).policy = s.policy := rfl
@[simp] theorem State.popQueue_stagedPolicy : (s.popQueue p).stagedPolicy = s.stagedPolicy := rfl
@[simp] theorem State.popQueue_sweepEndRequests : (s.popQueue p).sweepEndRequests = s.sweepEndRequests := rfl
@[simp] theorem State.popQueue_startRequests : (s.popQueue p).startRequests = s.startRequests := rfl
@[simp] theorem State.popQueue_holds : (s.popQueue p).holds = s.holds := rfl
@[simp] theorem State.popQueue_scanner : (s.popQueue p).scanner = s.scanner := rfl
@[simp] theorem State.popQueue_slots : (s.popQueue p).slots = s.slots := rfl
@[simp] theorem State.popQueue_proposal : (s.popQueue p).proposal = s.proposal := rfl
@[simp] theorem State.popQueue_lastEnded : (s.popQueue p).lastEnded = s.lastEnded := rfl
@[simp] theorem State.popQueue_discarded : (s.popQueue p).discarded = s.discarded := rfl
@[simp] theorem State.popQueue_memory : (s.popQueue p).memory = s.memory := rfl

@[simp] theorem State.setLane_pending (l : Lane) : (s.setLane n l).pending = s.pending := rfl
@[simp] theorem State.setLane_initialising (l : Lane) : (s.setLane n l).initialising = s.initialising := rfl
@[simp] theorem State.setLane_now (l : Lane) : (s.setLane n l).now = s.now := rfl
@[simp] theorem State.setLane_device (l : Lane) : (s.setLane n l).device = s.device := rfl
@[simp] theorem State.setLane_ports (l : Lane) : (s.setLane n l).ports = s.ports := rfl
@[simp] theorem State.setLane_lanes (l : Lane) : (s.setLane n l).lanes = s.lanes.set n l := rfl
@[simp] theorem State.setLane_lastGranted (l : Lane) : (s.setLane n l).lastGranted = s.lastGranted := rfl
@[simp] theorem State.setLane_orphanTimers (l : Lane) : (s.setLane n l).orphanTimers = s.orphanTimers := rfl
@[simp] theorem State.setLane_expired (l : Lane) : (s.setLane n l).expired = s.expired := rfl
@[simp] theorem State.setLane_index (l : Lane) : (s.setLane n l).index = s.index := rfl
@[simp] theorem State.setLane_occupancy (l : Lane) : (s.setLane n l).occupancy = s.occupancy := rfl
@[simp] theorem State.setLane_collisions (l : Lane) : (s.setLane n l).collisions = s.collisions := rfl
@[simp] theorem State.setLane_poisonList (l : Lane) : (s.setLane n l).poisonList = s.poisonList := rfl
@[simp] theorem State.setLane_poisonCount (l : Lane) : (s.setLane n l).poisonCount = s.poisonCount := rfl
@[simp] theorem State.setLane_correctable (l : Lane) : (s.setLane n l).correctable = s.correctable := rfl
@[simp] theorem State.setLane_damage (l : Lane) : (s.setLane n l).damage = s.damage := rfl
@[simp] theorem State.setLane_counter (l : Lane) : (s.setLane n l).counter = s.counter := rfl
@[simp] theorem State.setLane_table (l : Lane) : (s.setLane n l).table = s.table := rfl
@[simp] theorem State.setLane_settlings (l : Lane) : (s.setLane n l).settlings = s.settlings := rfl
@[simp] theorem State.setLane_turns (l : Lane) : (s.setLane n l).turns = s.turns := rfl
@[simp] theorem State.setLane_strayReleases (l : Lane) : (s.setLane n l).strayReleases = s.strayReleases := rfl
@[simp] theorem State.setLane_epoch (l : Lane) : (s.setLane n l).epoch = s.epoch := rfl
@[simp] theorem State.setLane_advancePending (l : Lane) : (s.setLane n l).advancePending = s.advancePending := rfl
@[simp] theorem State.setLane_absorbed (l : Lane) : (s.setLane n l).absorbed = s.absorbed := rfl
@[simp] theorem State.setLane_epochTimer (l : Lane) : (s.setLane n l).epochTimer = s.epochTimer := rfl
@[simp] theorem State.setLane_policy (l : Lane) : (s.setLane n l).policy = s.policy := rfl
@[simp] theorem State.setLane_stagedPolicy (l : Lane) : (s.setLane n l).stagedPolicy = s.stagedPolicy := rfl
@[simp] theorem State.setLane_sweepEndRequests (l : Lane) : (s.setLane n l).sweepEndRequests = s.sweepEndRequests := rfl
@[simp] theorem State.setLane_startRequests (l : Lane) : (s.setLane n l).startRequests = s.startRequests := rfl
@[simp] theorem State.setLane_holds (l : Lane) : (s.setLane n l).holds = s.holds := rfl
@[simp] theorem State.setLane_scanner (l : Lane) : (s.setLane n l).scanner = s.scanner := rfl
@[simp] theorem State.setLane_slots (l : Lane) : (s.setLane n l).slots = s.slots := rfl
@[simp] theorem State.setLane_proposal (l : Lane) : (s.setLane n l).proposal = s.proposal := rfl
@[simp] theorem State.setLane_lastEnded (l : Lane) : (s.setLane n l).lastEnded = s.lastEnded := rfl
@[simp] theorem State.setLane_discarded (l : Lane) : (s.setLane n l).discarded = s.discarded := rfl
@[simp] theorem State.setLane_memory (l : Lane) : (s.setLane n l).memory = s.memory := rfl

@[simp] theorem State.modLane_pending (f : Lane → Lane) : (s.modLane n f).pending = s.pending := rfl
@[simp] theorem State.modLane_initialising (f : Lane → Lane) : (s.modLane n f).initialising = s.initialising := rfl
@[simp] theorem State.modLane_now (f : Lane → Lane) : (s.modLane n f).now = s.now := rfl
@[simp] theorem State.modLane_device (f : Lane → Lane) : (s.modLane n f).device = s.device := rfl
@[simp] theorem State.modLane_ports (f : Lane → Lane) : (s.modLane n f).ports = s.ports := rfl
@[simp] theorem State.modLane_lanes (f : Lane → Lane) : (s.modLane n f).lanes = s.lanes.set n (f (s.lane n)) := rfl
@[simp] theorem State.modLane_lastGranted (f : Lane → Lane) : (s.modLane n f).lastGranted = s.lastGranted := rfl
@[simp] theorem State.modLane_orphanTimers (f : Lane → Lane) : (s.modLane n f).orphanTimers = s.orphanTimers := rfl
@[simp] theorem State.modLane_expired (f : Lane → Lane) : (s.modLane n f).expired = s.expired := rfl
@[simp] theorem State.modLane_index (f : Lane → Lane) : (s.modLane n f).index = s.index := rfl
@[simp] theorem State.modLane_occupancy (f : Lane → Lane) : (s.modLane n f).occupancy = s.occupancy := rfl
@[simp] theorem State.modLane_collisions (f : Lane → Lane) : (s.modLane n f).collisions = s.collisions := rfl
@[simp] theorem State.modLane_poisonList (f : Lane → Lane) : (s.modLane n f).poisonList = s.poisonList := rfl
@[simp] theorem State.modLane_poisonCount (f : Lane → Lane) : (s.modLane n f).poisonCount = s.poisonCount := rfl
@[simp] theorem State.modLane_correctable (f : Lane → Lane) : (s.modLane n f).correctable = s.correctable := rfl
@[simp] theorem State.modLane_damage (f : Lane → Lane) : (s.modLane n f).damage = s.damage := rfl
@[simp] theorem State.modLane_counter (f : Lane → Lane) : (s.modLane n f).counter = s.counter := rfl
@[simp] theorem State.modLane_table (f : Lane → Lane) : (s.modLane n f).table = s.table := rfl
@[simp] theorem State.modLane_settlings (f : Lane → Lane) : (s.modLane n f).settlings = s.settlings := rfl
@[simp] theorem State.modLane_turns (f : Lane → Lane) : (s.modLane n f).turns = s.turns := rfl
@[simp] theorem State.modLane_strayReleases (f : Lane → Lane) : (s.modLane n f).strayReleases = s.strayReleases := rfl
@[simp] theorem State.modLane_epoch (f : Lane → Lane) : (s.modLane n f).epoch = s.epoch := rfl
@[simp] theorem State.modLane_advancePending (f : Lane → Lane) : (s.modLane n f).advancePending = s.advancePending := rfl
@[simp] theorem State.modLane_absorbed (f : Lane → Lane) : (s.modLane n f).absorbed = s.absorbed := rfl
@[simp] theorem State.modLane_epochTimer (f : Lane → Lane) : (s.modLane n f).epochTimer = s.epochTimer := rfl
@[simp] theorem State.modLane_policy (f : Lane → Lane) : (s.modLane n f).policy = s.policy := rfl
@[simp] theorem State.modLane_stagedPolicy (f : Lane → Lane) : (s.modLane n f).stagedPolicy = s.stagedPolicy := rfl
@[simp] theorem State.modLane_sweepEndRequests (f : Lane → Lane) : (s.modLane n f).sweepEndRequests = s.sweepEndRequests := rfl
@[simp] theorem State.modLane_startRequests (f : Lane → Lane) : (s.modLane n f).startRequests = s.startRequests := rfl
@[simp] theorem State.modLane_holds (f : Lane → Lane) : (s.modLane n f).holds = s.holds := rfl
@[simp] theorem State.modLane_scanner (f : Lane → Lane) : (s.modLane n f).scanner = s.scanner := rfl
@[simp] theorem State.modLane_slots (f : Lane → Lane) : (s.modLane n f).slots = s.slots := rfl
@[simp] theorem State.modLane_proposal (f : Lane → Lane) : (s.modLane n f).proposal = s.proposal := rfl
@[simp] theorem State.modLane_lastEnded (f : Lane → Lane) : (s.modLane n f).lastEnded = s.lastEnded := rfl
@[simp] theorem State.modLane_discarded (f : Lane → Lane) : (s.modLane n f).discarded = s.discarded := rfl
@[simp] theorem State.modLane_memory (f : Lane → Lane) : (s.modLane n f).memory = s.memory := rfl

@[simp] theorem State.setBucket_pending (b : Nat) (v : Bucket) : (s.setBucket b v).pending = s.pending := rfl
@[simp] theorem State.setBucket_initialising (b : Nat) (v : Bucket) : (s.setBucket b v).initialising = s.initialising := rfl
@[simp] theorem State.setBucket_now (b : Nat) (v : Bucket) : (s.setBucket b v).now = s.now := rfl
@[simp] theorem State.setBucket_device (b : Nat) (v : Bucket) : (s.setBucket b v).device = s.device := rfl
@[simp] theorem State.setBucket_ports (b : Nat) (v : Bucket) : (s.setBucket b v).ports = s.ports := rfl
@[simp] theorem State.setBucket_lanes (b : Nat) (v : Bucket) : (s.setBucket b v).lanes = s.lanes := rfl
@[simp] theorem State.setBucket_lastGranted (b : Nat) (v : Bucket) : (s.setBucket b v).lastGranted = s.lastGranted := rfl
@[simp] theorem State.setBucket_orphanTimers (b : Nat) (v : Bucket) : (s.setBucket b v).orphanTimers = s.orphanTimers := rfl
@[simp] theorem State.setBucket_expired (b : Nat) (v : Bucket) : (s.setBucket b v).expired = s.expired := rfl
@[simp] theorem State.setBucket_index (b : Nat) (v : Bucket) : (s.setBucket b v).index = sparsePut Bucket.untouched s.index b v := rfl
@[simp] theorem State.setBucket_occupancy (b : Nat) (v : Bucket) : (s.setBucket b v).occupancy = s.occupancy := rfl
@[simp] theorem State.setBucket_collisions (b : Nat) (v : Bucket) : (s.setBucket b v).collisions = s.collisions := rfl
@[simp] theorem State.setBucket_poisonList (b : Nat) (v : Bucket) : (s.setBucket b v).poisonList = s.poisonList := rfl
@[simp] theorem State.setBucket_poisonCount (b : Nat) (v : Bucket) : (s.setBucket b v).poisonCount = s.poisonCount := rfl
@[simp] theorem State.setBucket_correctable (b : Nat) (v : Bucket) : (s.setBucket b v).correctable = s.correctable := rfl
@[simp] theorem State.setBucket_damage (b : Nat) (v : Bucket) : (s.setBucket b v).damage = s.damage := rfl
@[simp] theorem State.setBucket_counter (b : Nat) (v : Bucket) : (s.setBucket b v).counter = s.counter := rfl
@[simp] theorem State.setBucket_table (b : Nat) (v : Bucket) : (s.setBucket b v).table = s.table := rfl
@[simp] theorem State.setBucket_settlings (b : Nat) (v : Bucket) : (s.setBucket b v).settlings = s.settlings := rfl
@[simp] theorem State.setBucket_turns (b : Nat) (v : Bucket) : (s.setBucket b v).turns = s.turns := rfl
@[simp] theorem State.setBucket_strayReleases (b : Nat) (v : Bucket) : (s.setBucket b v).strayReleases = s.strayReleases := rfl
@[simp] theorem State.setBucket_epoch (b : Nat) (v : Bucket) : (s.setBucket b v).epoch = s.epoch := rfl
@[simp] theorem State.setBucket_advancePending (b : Nat) (v : Bucket) : (s.setBucket b v).advancePending = s.advancePending := rfl
@[simp] theorem State.setBucket_absorbed (b : Nat) (v : Bucket) : (s.setBucket b v).absorbed = s.absorbed := rfl
@[simp] theorem State.setBucket_epochTimer (b : Nat) (v : Bucket) : (s.setBucket b v).epochTimer = s.epochTimer := rfl
@[simp] theorem State.setBucket_policy (b : Nat) (v : Bucket) : (s.setBucket b v).policy = s.policy := rfl
@[simp] theorem State.setBucket_stagedPolicy (b : Nat) (v : Bucket) : (s.setBucket b v).stagedPolicy = s.stagedPolicy := rfl
@[simp] theorem State.setBucket_sweepEndRequests (b : Nat) (v : Bucket) : (s.setBucket b v).sweepEndRequests = s.sweepEndRequests := rfl
@[simp] theorem State.setBucket_startRequests (b : Nat) (v : Bucket) : (s.setBucket b v).startRequests = s.startRequests := rfl
@[simp] theorem State.setBucket_holds (b : Nat) (v : Bucket) : (s.setBucket b v).holds = s.holds := rfl
@[simp] theorem State.setBucket_scanner (b : Nat) (v : Bucket) : (s.setBucket b v).scanner = s.scanner := rfl
@[simp] theorem State.setBucket_slots (b : Nat) (v : Bucket) : (s.setBucket b v).slots = s.slots := rfl
@[simp] theorem State.setBucket_proposal (b : Nat) (v : Bucket) : (s.setBucket b v).proposal = s.proposal := rfl
@[simp] theorem State.setBucket_lastEnded (b : Nat) (v : Bucket) : (s.setBucket b v).lastEnded = s.lastEnded := rfl
@[simp] theorem State.setBucket_discarded (b : Nat) (v : Bucket) : (s.setBucket b v).discarded = s.discarded := rfl
@[simp] theorem State.setBucket_memory (b : Nat) (v : Bucket) : (s.setBucket b v).memory = s.memory := rfl

@[simp] theorem State.arise_pending (errs : List DramError) : (s.arise errs).pending = s.pending := rfl
@[simp] theorem State.arise_initialising (errs : List DramError) : (s.arise errs).initialising = s.initialising := rfl
@[simp] theorem State.arise_now (errs : List DramError) : (s.arise errs).now = s.now := rfl
@[simp] theorem State.arise_device (errs : List DramError) : (s.arise errs).device = s.device := rfl
@[simp] theorem State.arise_ports (errs : List DramError) : (s.arise errs).ports = s.ports := rfl
@[simp] theorem State.arise_lanes (errs : List DramError) : (s.arise errs).lanes = s.lanes := rfl
@[simp] theorem State.arise_lastGranted (errs : List DramError) : (s.arise errs).lastGranted = s.lastGranted := rfl
@[simp] theorem State.arise_orphanTimers (errs : List DramError) : (s.arise errs).orphanTimers = s.orphanTimers := rfl
@[simp] theorem State.arise_expired (errs : List DramError) : (s.arise errs).expired = s.expired := rfl
@[simp] theorem State.arise_index (errs : List DramError) : (s.arise errs).index = s.index := rfl
@[simp] theorem State.arise_occupancy (errs : List DramError) : (s.arise errs).occupancy = s.occupancy := rfl
@[simp] theorem State.arise_collisions (errs : List DramError) : (s.arise errs).collisions = s.collisions := rfl
@[simp] theorem State.arise_poisonList (errs : List DramError) : (s.arise errs).poisonList = s.poisonList := rfl
@[simp] theorem State.arise_poisonCount (errs : List DramError) : (s.arise errs).poisonCount = s.poisonCount := rfl
@[simp] theorem State.arise_correctable (errs : List DramError) : (s.arise errs).correctable = s.correctable := rfl
@[simp] theorem State.arise_damage (errs : List DramError) : (s.arise errs).damage = s.damage ++ errs := rfl
@[simp] theorem State.arise_counter (errs : List DramError) : (s.arise errs).counter = s.counter := rfl
@[simp] theorem State.arise_table (errs : List DramError) : (s.arise errs).table = s.table := rfl
@[simp] theorem State.arise_settlings (errs : List DramError) : (s.arise errs).settlings = s.settlings := rfl
@[simp] theorem State.arise_turns (errs : List DramError) : (s.arise errs).turns = s.turns := rfl
@[simp] theorem State.arise_strayReleases (errs : List DramError) : (s.arise errs).strayReleases = s.strayReleases := rfl
@[simp] theorem State.arise_epoch (errs : List DramError) : (s.arise errs).epoch = s.epoch := rfl
@[simp] theorem State.arise_advancePending (errs : List DramError) : (s.arise errs).advancePending = s.advancePending := rfl
@[simp] theorem State.arise_absorbed (errs : List DramError) : (s.arise errs).absorbed = s.absorbed := rfl
@[simp] theorem State.arise_epochTimer (errs : List DramError) : (s.arise errs).epochTimer = s.epochTimer := rfl
@[simp] theorem State.arise_policy (errs : List DramError) : (s.arise errs).policy = s.policy := rfl
@[simp] theorem State.arise_stagedPolicy (errs : List DramError) : (s.arise errs).stagedPolicy = s.stagedPolicy := rfl
@[simp] theorem State.arise_sweepEndRequests (errs : List DramError) : (s.arise errs).sweepEndRequests = s.sweepEndRequests := rfl
@[simp] theorem State.arise_startRequests (errs : List DramError) : (s.arise errs).startRequests = s.startRequests := rfl
@[simp] theorem State.arise_holds (errs : List DramError) : (s.arise errs).holds = s.holds := rfl
@[simp] theorem State.arise_scanner (errs : List DramError) : (s.arise errs).scanner = s.scanner := rfl
@[simp] theorem State.arise_slots (errs : List DramError) : (s.arise errs).slots = s.slots := rfl
@[simp] theorem State.arise_proposal (errs : List DramError) : (s.arise errs).proposal = s.proposal := rfl
@[simp] theorem State.arise_lastEnded (errs : List DramError) : (s.arise errs).lastEnded = s.lastEnded := rfl
@[simp] theorem State.arise_discarded (errs : List DramError) : (s.arise errs).discarded = s.discarded := rfl
@[simp] theorem State.arise_memory (errs : List DramError) : (s.arise errs).memory = s.memory := rfl

@[simp] theorem State.discard_pending (k : Nat) : (s.discard k).pending = s.pending := rfl
@[simp] theorem State.discard_initialising (k : Nat) : (s.discard k).initialising = s.initialising := rfl
@[simp] theorem State.discard_now (k : Nat) : (s.discard k).now = s.now := rfl
@[simp] theorem State.discard_device (k : Nat) : (s.discard k).device = s.device := rfl
@[simp] theorem State.discard_ports (k : Nat) : (s.discard k).ports = s.ports := rfl
@[simp] theorem State.discard_lanes (k : Nat) : (s.discard k).lanes = s.lanes := rfl
@[simp] theorem State.discard_lastGranted (k : Nat) : (s.discard k).lastGranted = s.lastGranted := rfl
@[simp] theorem State.discard_orphanTimers (k : Nat) : (s.discard k).orphanTimers = s.orphanTimers := rfl
@[simp] theorem State.discard_expired (k : Nat) : (s.discard k).expired = s.expired := rfl
@[simp] theorem State.discard_index (k : Nat) : (s.discard k).index = s.index := rfl
@[simp] theorem State.discard_occupancy (k : Nat) : (s.discard k).occupancy = s.occupancy := rfl
@[simp] theorem State.discard_collisions (k : Nat) : (s.discard k).collisions = s.collisions := rfl
@[simp] theorem State.discard_poisonList (k : Nat) : (s.discard k).poisonList = s.poisonList := rfl
@[simp] theorem State.discard_poisonCount (k : Nat) : (s.discard k).poisonCount = s.poisonCount := rfl
@[simp] theorem State.discard_correctable (k : Nat) : (s.discard k).correctable = s.correctable := rfl
@[simp] theorem State.discard_damage (k : Nat) : (s.discard k).damage = s.damage := rfl
@[simp] theorem State.discard_counter (k : Nat) : (s.discard k).counter = s.counter := rfl
@[simp] theorem State.discard_table (k : Nat) : (s.discard k).table = s.table := rfl
@[simp] theorem State.discard_settlings (k : Nat) : (s.discard k).settlings = s.settlings := rfl
@[simp] theorem State.discard_turns (k : Nat) : (s.discard k).turns = s.turns := rfl
@[simp] theorem State.discard_strayReleases (k : Nat) : (s.discard k).strayReleases = s.strayReleases := rfl
@[simp] theorem State.discard_epoch (k : Nat) : (s.discard k).epoch = s.epoch := rfl
@[simp] theorem State.discard_advancePending (k : Nat) : (s.discard k).advancePending = s.advancePending := rfl
@[simp] theorem State.discard_absorbed (k : Nat) : (s.discard k).absorbed = s.absorbed := rfl
@[simp] theorem State.discard_epochTimer (k : Nat) : (s.discard k).epochTimer = s.epochTimer := rfl
@[simp] theorem State.discard_policy (k : Nat) : (s.discard k).policy = s.policy := rfl
@[simp] theorem State.discard_stagedPolicy (k : Nat) : (s.discard k).stagedPolicy = s.stagedPolicy := rfl
@[simp] theorem State.discard_sweepEndRequests (k : Nat) : (s.discard k).sweepEndRequests = s.sweepEndRequests := rfl
@[simp] theorem State.discard_startRequests (k : Nat) : (s.discard k).startRequests = s.startRequests := rfl
@[simp] theorem State.discard_holds (k : Nat) : (s.discard k).holds = s.holds := rfl
@[simp] theorem State.discard_scanner (k : Nat) : (s.discard k).scanner = s.scanner := rfl
@[simp] theorem State.discard_slots (k : Nat) : (s.discard k).slots = s.slots := rfl
@[simp] theorem State.discard_proposal (k : Nat) : (s.discard k).proposal = s.proposal := rfl
@[simp] theorem State.discard_lastEnded (k : Nat) : (s.discard k).lastEnded = s.lastEnded := rfl
@[simp] theorem State.discard_discarded (k : Nat) : (s.discard k).discarded = addTo Config.max32 k s.discarded := rfl
@[simp] theorem State.discard_memory (k : Nat) : (s.discard k).memory = s.memory := rfl

/-! ### Ports and lanes after an update -/

@[simp] theorem State.port_setPort (q : Port) : (s.setPort p q).port p = q := by simp [State.port, State.setPort]

theorem State.port_setPort_ne (q : Port) {p' : PortNo} (h : p' ≠ p) : (s.setPort p q).port p' = s.port p' := by
  simp only [State.port, State.setPort, Fin.getElem_fin]
  exact Vector.getElem_set_ne p.isLt p'.isLt (fun e => h (Fin.ext e.symm))

@[simp] theorem State.port_modPort (f : Port → Port) : (s.modPort p f).port p = f (s.port p) := by simp [State.modPort]

theorem State.port_modPort_ne (f : Port → Port) {p' : PortNo} (h : p' ≠ p) : (s.modPort p f).port p' = s.port p' := by
  simp [State.modPort, State.port_setPort_ne s p _ h]

@[simp] theorem State.port_popQueue : (s.popQueue p).port p = { s.port p with queue := (s.port p).queue.drop 1 } := by
  simp [State.popQueue]

theorem State.port_popQueue_ne {p' : PortNo} (h : p' ≠ p) : (s.popQueue p).port p' = s.port p' :=
  State.port_modPort_ne s p _ h

@[simp] theorem State.lane_setLane (l : Lane) : (s.setLane n l).lane n = l := by simp [State.lane, State.setLane]

theorem State.lane_setLane_ne (l : Lane) {m : LaneNo} (h : m ≠ n) : (s.setLane n l).lane m = s.lane m := by
  simp only [State.lane, State.setLane, Fin.getElem_fin]
  exact Vector.getElem_set_ne n.isLt m.isLt (fun e => h (Fin.ext e.symm))

@[simp] theorem State.lane_modLane (f : Lane → Lane) : (s.modLane n f).lane n = f (s.lane n) := by simp [State.modLane]

theorem State.lane_modLane_ne (f : Lane → Lane) {m : LaneNo} (h : m ≠ n) : (s.modLane n f).lane m = s.lane m := by
  simp [State.modLane, State.lane_setLane_ne s n _ h]

variable (q : PortNo) (m : LaneNo)

@[simp] theorem State.lane_setPort (r : Port) : (s.setPort p r).lane m = s.lane m := rfl
@[simp] theorem State.lane_modPort (f : Port → Port) : (s.modPort p f).lane m = s.lane m := rfl
@[simp] theorem State.lane_popQueue : (s.popQueue p).lane m = s.lane m := rfl
@[simp] theorem State.lane_arise (errs : List DramError) : (s.arise errs).lane m = s.lane m := rfl
@[simp] theorem State.lane_discard (k : Nat) : (s.discard k).lane m = s.lane m := rfl
@[simp] theorem State.lane_setBucket (b : Nat) (v : Bucket) : (s.setBucket b v).lane m = s.lane m := rfl
@[simp] theorem State.port_setLane (l : Lane) : (s.setLane n l).port q = s.port q := rfl
@[simp] theorem State.port_modLane (f : Lane → Lane) : (s.modLane n f).port q = s.port q := rfl
@[simp] theorem State.port_arise (errs : List DramError) : (s.arise errs).port q = s.port q := rfl
@[simp] theorem State.port_discard (k : Nat) : (s.discard k).port q = s.port q := rfl
@[simp] theorem State.port_setBucket (b : Nat) (v : Bucket) : (s.setBucket b v).port q = s.port q := rfl
@[simp] theorem State.bucket_setPort (r : Port) (b : Nat) : (s.setPort p r).bucket b = s.bucket b := rfl
@[simp] theorem State.bucket_modPort (f : Port → Port) (b : Nat) : (s.modPort p f).bucket b = s.bucket b := rfl
@[simp] theorem State.bucket_popQueue (b : Nat) : (s.popQueue p).bucket b = s.bucket b := rfl
@[simp] theorem State.bucket_setLane (l : Lane) (b : Nat) : (s.setLane n l).bucket b = s.bucket b := rfl
@[simp] theorem State.bucket_modLane (f : Lane → Lane) (b : Nat) : (s.modLane n f).bucket b = s.bucket b := rfl
@[simp] theorem State.bucket_arise (errs : List DramError) (b : Nat) : (s.arise errs).bucket b = s.bucket b := rfl
@[simp] theorem State.bucket_discard (k b : Nat) : (s.discard k).bucket b = s.bucket b := rfl

end Sys2Proof.Machine
end

