-- ==== Sys2Proof/Laws/Ring.lean ====
section
/-! SUPPORT. Records, flags and completions: what each operation on a port's ring can do. -/

namespace Sys2Proof.Machine

open Sys2Proof

variable (s : State) (p : PortNo)

/-! ### Frames: a record, a flag and a waiting writer touch the port units and the rings alone -/

theorem State.ringPut_frame (r : Response) :
    s.ringPut p r = { s with ports := (s.ringPut p r).ports, memory := (s.ringPut p r).memory } := by
  unfold State.ringPut; split <;> rfl

theorem State.join_frame (w : Writer) : s.join p w = { s with ports := (s.join p w).ports } := rfl

theorem State.setFlag_frame (f : Flag) (c : Carry) :
    s.setFlag p f c = { s with ports := (s.setFlag p f c).ports, memory := (s.setFlag p f c).memory } := by
  unfold State.setFlag
  split
  · dsimp only
    split
    · split
      · rw [State.ringPut_frame]; rfl
      · rfl
    · rfl
  · rfl

theorem State.setFlags_frame (ps : List PortNo) (f : Flag) (c : Carry) :
    s.setFlags ps f c = { s with ports := (s.setFlags ps f c).ports, memory := (s.setFlags ps f c).memory } := by
  induction ps generalizing s with
  | nil => rfl
  | cons q rest ih =>
    exact (ih (s.setFlag q f c)).trans
      (congrArg (fun t : State => { t with ports := (s.setFlags (q :: rest) f c).ports, memory := (s.setFlags (q :: rest) f c).memory })
        (s.setFlag_frame q f c))

theorem State.setFlagAll_frame (f : Flag) (c : Carry) :
    s.setFlagAll f c = { s with ports := (s.setFlagAll f c).ports, memory := (s.setFlagAll f c).memory } :=
  State.setFlags_frame s _ f c

theorem State.complete_frame (c : Completion) :
    s.complete p c =
      { s with ports := (s.complete p c).ports, memory := (s.complete p c).memory, discarded := (s.complete p c).discarded } := by
  unfold State.complete
  split
  · split
    · rw [State.ringPut_frame]; rfl
    · rfl
  · rfl

theorem State.reply_frame (r : CommandRecord) (o : Outcome) (fs : List Field) :
    s.reply p r o fs =
      { s with ports := (s.reply p r o fs).ports, memory := (s.reply p r o fs).memory,
               discarded := (s.reply p r o fs).discarded } :=
  State.complete_frame s p _

/-! ### The fields they leave -/

@[simp] theorem State.ringPut_pending (r : Response) : (s.ringPut p r).pending = s.pending := by rw [State.ringPut_frame]
@[simp] theorem State.ringPut_initialising (r : Response) : (s.ringPut p r).initialising = s.initialising := by rw [State.ringPut_frame]
@[simp] theorem State.ringPut_now (r : Response) : (s.ringPut p r).now = s.now := by rw [State.ringPut_frame]
@[simp] theorem State.ringPut_device (r : Response) : (s.ringPut p r).device = s.device := by rw [State.ringPut_frame]
@[simp] theorem State.ringPut_lanes (r : Response) : (s.ringPut p r).lanes = s.lanes := by rw [State.ringPut_frame]
@[simp] theorem State.ringPut_lastGranted (r : Response) : (s.ringPut p r).lastGranted = s.lastGranted := by rw [State.ringPut_frame]
@[simp] theorem State.ringPut_orphanTimers (r : Response) : (s.ringPut p r).orphanTimers = s.orphanTimers := by rw [State.ringPut_frame]
@[simp] theorem State.ringPut_expired (r : Response) : (s.ringPut p r).expired = s.expired := by rw [State.ringPut_frame]
@[simp] theorem State.ringPut_index (r : Response) : (s.ringPut p r).index = s.index := by rw [State.ringPut_frame]
@[simp] theorem State.ringPut_occupancy (r : Response) : (s.ringPut p r).occupancy = s.occupancy := by rw [State.ringPut_frame]
@[simp] theorem State.ringPut_collisions (r : Response) : (s.ringPut p r).collisions = s.collisions := by rw [State.ringPut_frame]
@[simp] theorem State.ringPut_poisonList (r : Response) : (s.ringPut p r).poisonList = s.poisonList := by rw [State.ringPut_frame]
@[simp] theorem State.ringPut_poisonCount (r : Response) : (s.ringPut p r).poisonCount = s.poisonCount := by rw [State.ringPut_frame]
@[simp] theorem State.ringPut_correctable (r : Response) : (s.ringPut p r).correctable = s.correctable := by rw [State.ringPut_frame]
@[simp] theorem State.ringPut_damage (r : Response) : (s.ringPut p r).damage = s.damage := by rw [State.ringPut_frame]
@[simp] theorem State.ringPut_counter (r : Response) : (s.ringPut p r).counter = s.counter := by rw [State.ringPut_frame]
@[simp] theorem State.ringPut_table (r : Response) : (s.ringPut p r).table = s.table := by rw [State.ringPut_frame]
@[simp] theorem State.ringPut_settlings (r : Response) : (s.ringPut p r).settlings = s.settlings := by rw [State.ringPut_frame]
@[simp] theorem State.ringPut_turns (r : Response) : (s.ringPut p r).turns = s.turns := by rw [State.ringPut_frame]
@[simp] theorem State.ringPut_strayReleases (r : Response) : (s.ringPut p r).strayReleases = s.strayReleases := by rw [State.ringPut_frame]
@[simp] theorem State.ringPut_epoch (r : Response) : (s.ringPut p r).epoch = s.epoch := by rw [State.ringPut_frame]
@[simp] theorem State.ringPut_advancePending (r : Response) : (s.ringPut p r).advancePending = s.advancePending := by rw [State.ringPut_frame]
@[simp] theorem State.ringPut_absorbed (r : Response) : (s.ringPut p r).absorbed = s.absorbed := by rw [State.ringPut_frame]
@[simp] theorem State.ringPut_epochTimer (r : Response) : (s.ringPut p r).epochTimer = s.epochTimer := by rw [State.ringPut_frame]
@[simp] theorem State.ringPut_policy (r : Response) : (s.ringPut p r).policy = s.policy := by rw [State.ringPut_frame]
@[simp] theorem State.ringPut_stagedPolicy (r : Response) : (s.ringPut p r).stagedPolicy = s.stagedPolicy := by rw [State.ringPut_frame]
@[simp] theorem State.ringPut_sweepEndRequests (r : Response) : (s.ringPut p r).sweepEndRequests = s.sweepEndRequests := by rw [State.ringPut_frame]
@[simp] theorem State.ringPut_startRequests (r : Response) : (s.ringPut p r).startRequests = s.startRequests := by rw [State.ringPut_frame]
@[simp] theorem State.ringPut_holds (r : Response) : (s.ringPut p r).holds = s.holds := by rw [State.ringPut_frame]
@[simp] theorem State.ringPut_scanner (r : Response) : (s.ringPut p r).scanner = s.scanner := by rw [State.ringPut_frame]
@[simp] theorem State.ringPut_slots (r : Response) : (s.ringPut p r).slots = s.slots := by rw [State.ringPut_frame]
@[simp] theorem State.ringPut_proposal (r : Response) : (s.ringPut p r).proposal = s.proposal := by rw [State.ringPut_frame]
@[simp] theorem State.ringPut_lastEnded (r : Response) : (s.ringPut p r).lastEnded = s.lastEnded := by rw [State.ringPut_frame]
@[simp] theorem State.ringPut_discarded (r : Response) : (s.ringPut p r).discarded = s.discarded := by rw [State.ringPut_frame]

@[simp] theorem State.join_pending (w : Writer) : (s.join p w).pending = s.pending := by rw [State.join_frame]
@[simp] theorem State.join_initialising (w : Writer) : (s.join p w).initialising = s.initialising := by rw [State.join_frame]
@[simp] theorem State.join_now (w : Writer) : (s.join p w).now = s.now := by rw [State.join_frame]
@[simp] theorem State.join_device (w : Writer) : (s.join p w).device = s.device := by rw [State.join_frame]
@[simp] theorem State.join_lanes (w : Writer) : (s.join p w).lanes = s.lanes := by rw [State.join_frame]
@[simp] theorem State.join_lastGranted (w : Writer) : (s.join p w).lastGranted = s.lastGranted := by rw [State.join_frame]
@[simp] theorem State.join_orphanTimers (w : Writer) : (s.join p w).orphanTimers = s.orphanTimers := by rw [State.join_frame]
@[simp] theorem State.join_expired (w : Writer) : (s.join p w).expired = s.expired := by rw [State.join_frame]
@[simp] theorem State.join_index (w : Writer) : (s.join p w).index = s.index := by rw [State.join_frame]
@[simp] theorem State.join_occupancy (w : Writer) : (s.join p w).occupancy = s.occupancy := by rw [State.join_frame]
@[simp] theorem State.join_collisions (w : Writer) : (s.join p w).collisions = s.collisions := by rw [State.join_frame]
@[simp] theorem State.join_poisonList (w : Writer) : (s.join p w).poisonList = s.poisonList := by rw [State.join_frame]
@[simp] theorem State.join_poisonCount (w : Writer) : (s.join p w).poisonCount = s.poisonCount := by rw [State.join_frame]
@[simp] theorem State.join_correctable (w : Writer) : (s.join p w).correctable = s.correctable := by rw [State.join_frame]
@[simp] theorem State.join_damage (w : Writer) : (s.join p w).damage = s.damage := by rw [State.join_frame]
@[simp] theorem State.join_counter (w : Writer) : (s.join p w).counter = s.counter := by rw [State.join_frame]
@[simp] theorem State.join_table (w : Writer) : (s.join p w).table = s.table := by rw [State.join_frame]
@[simp] theorem State.join_settlings (w : Writer) : (s.join p w).settlings = s.settlings := by rw [State.join_frame]
@[simp] theorem State.join_turns (w : Writer) : (s.join p w).turns = s.turns := by rw [State.join_frame]
@[simp] theorem State.join_strayReleases (w : Writer) : (s.join p w).strayReleases = s.strayReleases := by rw [State.join_frame]
@[simp] theorem State.join_epoch (w : Writer) : (s.join p w).epoch = s.epoch := by rw [State.join_frame]
@[simp] theorem State.join_advancePending (w : Writer) : (s.join p w).advancePending = s.advancePending := by rw [State.join_frame]
@[simp] theorem State.join_absorbed (w : Writer) : (s.join p w).absorbed = s.absorbed := by rw [State.join_frame]
@[simp] theorem State.join_epochTimer (w : Writer) : (s.join p w).epochTimer = s.epochTimer := by rw [State.join_frame]
@[simp] theorem State.join_policy (w : Writer) : (s.join p w).policy = s.policy := by rw [State.join_frame]
@[simp] theorem State.join_stagedPolicy (w : Writer) : (s.join p w).stagedPolicy = s.stagedPolicy := by rw [State.join_frame]
@[simp] theorem State.join_sweepEndRequests (w : Writer) : (s.join p w).sweepEndRequests = s.sweepEndRequests := by rw [State.join_frame]
@[simp] theorem State.join_startRequests (w : Writer) : (s.join p w).startRequests = s.startRequests := by rw [State.join_frame]
@[simp] theorem State.join_holds (w : Writer) : (s.join p w).holds = s.holds := by rw [State.join_frame]
@[simp] theorem State.join_scanner (w : Writer) : (s.join p w).scanner = s.scanner := by rw [State.join_frame]
@[simp] theorem State.join_slots (w : Writer) : (s.join p w).slots = s.slots := by rw [State.join_frame]
@[simp] theorem State.join_proposal (w : Writer) : (s.join p w).proposal = s.proposal := by rw [State.join_frame]
@[simp] theorem State.join_lastEnded (w : Writer) : (s.join p w).lastEnded = s.lastEnded := by rw [State.join_frame]
@[simp] theorem State.join_discarded (w : Writer) : (s.join p w).discarded = s.discarded := by rw [State.join_frame]
@[simp] theorem State.join_memory (w : Writer) : (s.join p w).memory = s.memory := by rw [State.join_frame]

@[simp] theorem State.setFlag_pending (f : Flag) (c : Carry) : (s.setFlag p f c).pending = s.pending := by rw [State.setFlag_frame]
@[simp] theorem State.setFlag_initialising (f : Flag) (c : Carry) : (s.setFlag p f c).initialising = s.initialising := by rw [State.setFlag_frame]
@[simp] theorem State.setFlag_now (f : Flag) (c : Carry) : (s.setFlag p f c).now = s.now := by rw [State.setFlag_frame]
@[simp] theorem State.setFlag_device (f : Flag) (c : Carry) : (s.setFlag p f c).device = s.device := by rw [State.setFlag_frame]
@[simp] theorem State.setFlag_lanes (f : Flag) (c : Carry) : (s.setFlag p f c).lanes = s.lanes := by rw [State.setFlag_frame]
@[simp] theorem State.setFlag_lastGranted (f : Flag) (c : Carry) : (s.setFlag p f c).lastGranted = s.lastGranted := by rw [State.setFlag_frame]
@[simp] theorem State.setFlag_orphanTimers (f : Flag) (c : Carry) : (s.setFlag p f c).orphanTimers = s.orphanTimers := by rw [State.setFlag_frame]
@[simp] theorem State.setFlag_expired (f : Flag) (c : Carry) : (s.setFlag p f c).expired = s.expired := by rw [State.setFlag_frame]
@[simp] theorem State.setFlag_index (f : Flag) (c : Carry) : (s.setFlag p f c).index = s.index := by rw [State.setFlag_frame]
@[simp] theorem State.setFlag_occupancy (f : Flag) (c : Carry) : (s.setFlag p f c).occupancy = s.occupancy := by rw [State.setFlag_frame]
@[simp] theorem State.setFlag_collisions (f : Flag) (c : Carry) : (s.setFlag p f c).collisions = s.collisions := by rw [State.setFlag_frame]
@[simp] theorem State.setFlag_poisonList (f : Flag) (c : Carry) : (s.setFlag p f c).poisonList = s.poisonList := by rw [State.setFlag_frame]
@[simp] theorem State.setFlag_poisonCount (f : Flag) (c : Carry) : (s.setFlag p f c).poisonCount = s.poisonCount := by rw [State.setFlag_frame]
@[simp] theorem State.setFlag_correctable (f : Flag) (c : Carry) : (s.setFlag p f c).correctable = s.correctable := by rw [State.setFlag_frame]
@[simp] theorem State.setFlag_damage (f : Flag) (c : Carry) : (s.setFlag p f c).damage = s.damage := by rw [State.setFlag_frame]
@[simp] theorem State.setFlag_counter (f : Flag) (c : Carry) : (s.setFlag p f c).counter = s.counter := by rw [State.setFlag_frame]
@[simp] theorem State.setFlag_table (f : Flag) (c : Carry) : (s.setFlag p f c).table = s.table := by rw [State.setFlag_frame]
@[simp] theorem State.setFlag_settlings (f : Flag) (c : Carry) : (s.setFlag p f c).settlings = s.settlings := by rw [State.setFlag_frame]
@[simp] theorem State.setFlag_turns (f : Flag) (c : Carry) : (s.setFlag p f c).turns = s.turns := by rw [State.setFlag_frame]
@[simp] theorem State.setFlag_strayReleases (f : Flag) (c : Carry) : (s.setFlag p f c).strayReleases = s.strayReleases := by rw [State.setFlag_frame]
@[simp] theorem State.setFlag_epoch (f : Flag) (c : Carry) : (s.setFlag p f c).epoch = s.epoch := by rw [State.setFlag_frame]
@[simp] theorem State.setFlag_advancePending (f : Flag) (c : Carry) : (s.setFlag p f c).advancePending = s.advancePending := by rw [State.setFlag_frame]
@[simp] theorem State.setFlag_absorbed (f : Flag) (c : Carry) : (s.setFlag p f c).absorbed = s.absorbed := by rw [State.setFlag_frame]
@[simp] theorem State.setFlag_epochTimer (f : Flag) (c : Carry) : (s.setFlag p f c).epochTimer = s.epochTimer := by rw [State.setFlag_frame]
@[simp] theorem State.setFlag_policy (f : Flag) (c : Carry) : (s.setFlag p f c).policy = s.policy := by rw [State.setFlag_frame]
@[simp] theorem State.setFlag_stagedPolicy (f : Flag) (c : Carry) : (s.setFlag p f c).stagedPolicy = s.stagedPolicy := by rw [State.setFlag_frame]
@[simp] theorem State.setFlag_sweepEndRequests (f : Flag) (c : Carry) : (s.setFlag p f c).sweepEndRequests = s.sweepEndRequests := by rw [State.setFlag_frame]
@[simp] theorem State.setFlag_startRequests (f : Flag) (c : Carry) : (s.setFlag p f c).startRequests = s.startRequests := by rw [State.setFlag_frame]
@[simp] theorem State.setFlag_holds (f : Flag) (c : Carry) : (s.setFlag p f c).holds = s.holds := by rw [State.setFlag_frame]
@[simp] theorem State.setFlag_scanner (f : Flag) (c : Carry) : (s.setFlag p f c).scanner = s.scanner := by rw [State.setFlag_frame]
@[simp] theorem State.setFlag_slots (f : Flag) (c : Carry) : (s.setFlag p f c).slots = s.slots := by rw [State.setFlag_frame]
@[simp] theorem State.setFlag_proposal (f : Flag) (c : Carry) : (s.setFlag p f c).proposal = s.proposal := by rw [State.setFlag_frame]
@[simp] theorem State.setFlag_lastEnded (f : Flag) (c : Carry) : (s.setFlag p f c).lastEnded = s.lastEnded := by rw [State.setFlag_frame]
@[simp] theorem State.setFlag_discarded (f : Flag) (c : Carry) : (s.setFlag p f c).discarded = s.discarded := by rw [State.setFlag_frame]

@[simp] theorem State.setFlags_pending (ps : List PortNo) (f : Flag) (c : Carry) : (s.setFlags ps f c).pending = s.pending := by rw [State.setFlags_frame]
@[simp] theorem State.setFlags_initialising (ps : List PortNo) (f : Flag) (c : Carry) : (s.setFlags ps f c).initialising = s.initialising := by rw [State.setFlags_frame]
@[simp] theorem State.setFlags_now (ps : List PortNo) (f : Flag) (c : Carry) : (s.setFlags ps f c).now = s.now := by rw [State.setFlags_frame]
@[simp] theorem State.setFlags_device (ps : List PortNo) (f : Flag) (c : Carry) : (s.setFlags ps f c).device = s.device := by rw [State.setFlags_frame]
@[simp] theorem State.setFlags_lanes (ps : List PortNo) (f : Flag) (c : Carry) : (s.setFlags ps f c).lanes = s.lanes := by rw [State.setFlags_frame]
@[simp] theorem State.setFlags_lastGranted (ps : List PortNo) (f : Flag) (c : Carry) : (s.setFlags ps f c).lastGranted = s.lastGranted := by rw [State.setFlags_frame]
@[simp] theorem State.setFlags_orphanTimers (ps : List PortNo) (f : Flag) (c : Carry) : (s.setFlags ps f c).orphanTimers = s.orphanTimers := by rw [State.setFlags_frame]
@[simp] theorem State.setFlags_expired (ps : List PortNo) (f : Flag) (c : Carry) : (s.setFlags ps f c).expired = s.expired := by rw [State.setFlags_frame]
@[simp] theorem State.setFlags_index (ps : List PortNo) (f : Flag) (c : Carry) : (s.setFlags ps f c).index = s.index := by rw [State.setFlags_frame]
@[simp] theorem State.setFlags_occupancy (ps : List PortNo) (f : Flag) (c : Carry) : (s.setFlags ps f c).occupancy = s.occupancy := by rw [State.setFlags_frame]
@[simp] theorem State.setFlags_collisions (ps : List PortNo) (f : Flag) (c : Carry) : (s.setFlags ps f c).collisions = s.collisions := by rw [State.setFlags_frame]
@[simp] theorem State.setFlags_poisonList (ps : List PortNo) (f : Flag) (c : Carry) : (s.setFlags ps f c).poisonList = s.poisonList := by rw [State.setFlags_frame]
@[simp] theorem State.setFlags_poisonCount (ps : List PortNo) (f : Flag) (c : Carry) : (s.setFlags ps f c).poisonCount = s.poisonCount := by rw [State.setFlags_frame]
@[simp] theorem State.setFlags_correctable (ps : List PortNo) (f : Flag) (c : Carry) : (s.setFlags ps f c).correctable = s.correctable := by rw [State.setFlags_frame]
@[simp] theorem State.setFlags_damage (ps : List PortNo) (f : Flag) (c : Carry) : (s.setFlags ps f c).damage = s.damage := by rw [State.setFlags_frame]
@[simp] theorem State.setFlags_counter (ps : List PortNo) (f : Flag) (c : Carry) : (s.setFlags ps f c).counter = s.counter := by rw [State.setFlags_frame]
@[simp] theorem State.setFlags_table (ps : List PortNo) (f : Flag) (c : Carry) : (s.setFlags ps f c).table = s.table := by rw [State.setFlags_frame]
@[simp] theorem State.setFlags_settlings (ps : List PortNo) (f : Flag) (c : Carry) : (s.setFlags ps f c).settlings = s.settlings := by rw [State.setFlags_frame]
@[simp] theorem State.setFlags_turns (ps : List PortNo) (f : Flag) (c : Carry) : (s.setFlags ps f c).turns = s.turns := by rw [State.setFlags_frame]
@[simp] theorem State.setFlags_strayReleases (ps : List PortNo) (f : Flag) (c : Carry) : (s.setFlags ps f c).strayReleases = s.strayReleases := by rw [State.setFlags_frame]
@[simp] theorem State.setFlags_epoch (ps : List PortNo) (f : Flag) (c : Carry) : (s.setFlags ps f c).epoch = s.epoch := by rw [State.setFlags_frame]
@[simp] theorem State.setFlags_advancePending (ps : List PortNo) (f : Flag) (c : Carry) : (s.setFlags ps f c).advancePending = s.advancePending := by rw [State.setFlags_frame]
@[simp] theorem State.setFlags_absorbed (ps : List PortNo) (f : Flag) (c : Carry) : (s.setFlags ps f c).absorbed = s.absorbed := by rw [State.setFlags_frame]
@[simp] theorem State.setFlags_epochTimer (ps : List PortNo) (f : Flag) (c : Carry) : (s.setFlags ps f c).epochTimer = s.epochTimer := by rw [State.setFlags_frame]
@[simp] theorem State.setFlags_policy (ps : List PortNo) (f : Flag) (c : Carry) : (s.setFlags ps f c).policy = s.policy := by rw [State.setFlags_frame]
@[simp] theorem State.setFlags_stagedPolicy (ps : List PortNo) (f : Flag) (c : Carry) : (s.setFlags ps f c).stagedPolicy = s.stagedPolicy := by rw [State.setFlags_frame]
@[simp] theorem State.setFlags_sweepEndRequests (ps : List PortNo) (f : Flag) (c : Carry) : (s.setFlags ps f c).sweepEndRequests = s.sweepEndRequests := by rw [State.setFlags_frame]
@[simp] theorem State.setFlags_startRequests (ps : List PortNo) (f : Flag) (c : Carry) : (s.setFlags ps f c).startRequests = s.startRequests := by rw [State.setFlags_frame]
@[simp] theorem State.setFlags_holds (ps : List PortNo) (f : Flag) (c : Carry) : (s.setFlags ps f c).holds = s.holds := by rw [State.setFlags_frame]
@[simp] theorem State.setFlags_scanner (ps : List PortNo) (f : Flag) (c : Carry) : (s.setFlags ps f c).scanner = s.scanner := by rw [State.setFlags_frame]
@[simp] theorem State.setFlags_slots (ps : List PortNo) (f : Flag) (c : Carry) : (s.setFlags ps f c).slots = s.slots := by rw [State.setFlags_frame]
@[simp] theorem State.setFlags_proposal (ps : List PortNo) (f : Flag) (c : Carry) : (s.setFlags ps f c).proposal = s.proposal := by rw [State.setFlags_frame]
@[simp] theorem State.setFlags_lastEnded (ps : List PortNo) (f : Flag) (c : Carry) : (s.setFlags ps f c).lastEnded = s.lastEnded := by rw [State.setFlags_frame]
@[simp] theorem State.setFlags_discarded (ps : List PortNo) (f : Flag) (c : Carry) : (s.setFlags ps f c).discarded = s.discarded := by rw [State.setFlags_frame]

@[simp] theorem State.setFlagAll_pending (f : Flag) (c : Carry) : (s.setFlagAll f c).pending = s.pending := by rw [State.setFlagAll_frame]
@[simp] theorem State.setFlagAll_initialising (f : Flag) (c : Carry) : (s.setFlagAll f c).initialising = s.initialising := by rw [State.setFlagAll_frame]
@[simp] theorem State.setFlagAll_now (f : Flag) (c : Carry) : (s.setFlagAll f c).now = s.now := by rw [State.setFlagAll_frame]
@[simp] theorem State.setFlagAll_device (f : Flag) (c : Carry) : (s.setFlagAll f c).device = s.device := by rw [State.setFlagAll_frame]
@[simp] theorem State.setFlagAll_lanes (f : Flag) (c : Carry) : (s.setFlagAll f c).lanes = s.lanes := by rw [State.setFlagAll_frame]
@[simp] theorem State.setFlagAll_lastGranted (f : Flag) (c : Carry) : (s.setFlagAll f c).lastGranted = s.lastGranted := by rw [State.setFlagAll_frame]
@[simp] theorem State.setFlagAll_orphanTimers (f : Flag) (c : Carry) : (s.setFlagAll f c).orphanTimers = s.orphanTimers := by rw [State.setFlagAll_frame]
@[simp] theorem State.setFlagAll_expired (f : Flag) (c : Carry) : (s.setFlagAll f c).expired = s.expired := by rw [State.setFlagAll_frame]
@[simp] theorem State.setFlagAll_index (f : Flag) (c : Carry) : (s.setFlagAll f c).index = s.index := by rw [State.setFlagAll_frame]
@[simp] theorem State.setFlagAll_occupancy (f : Flag) (c : Carry) : (s.setFlagAll f c).occupancy = s.occupancy := by rw [State.setFlagAll_frame]
@[simp] theorem State.setFlagAll_collisions (f : Flag) (c : Carry) : (s.setFlagAll f c).collisions = s.collisions := by rw [State.setFlagAll_frame]
@[simp] theorem State.setFlagAll_poisonList (f : Flag) (c : Carry) : (s.setFlagAll f c).poisonList = s.poisonList := by rw [State.setFlagAll_frame]
@[simp] theorem State.setFlagAll_poisonCount (f : Flag) (c : Carry) : (s.setFlagAll f c).poisonCount = s.poisonCount := by rw [State.setFlagAll_frame]
@[simp] theorem State.setFlagAll_correctable (f : Flag) (c : Carry) : (s.setFlagAll f c).correctable = s.correctable := by rw [State.setFlagAll_frame]
@[simp] theorem State.setFlagAll_damage (f : Flag) (c : Carry) : (s.setFlagAll f c).damage = s.damage := by rw [State.setFlagAll_frame]
@[simp] theorem State.setFlagAll_counter (f : Flag) (c : Carry) : (s.setFlagAll f c).counter = s.counter := by rw [State.setFlagAll_frame]
@[simp] theorem State.setFlagAll_table (f : Flag) (c : Carry) : (s.setFlagAll f c).table = s.table := by rw [State.setFlagAll_frame]
@[simp] theorem State.setFlagAll_settlings (f : Flag) (c : Carry) : (s.setFlagAll f c).settlings = s.settlings := by rw [State.setFlagAll_frame]
@[simp] theorem State.setFlagAll_turns (f : Flag) (c : Carry) : (s.setFlagAll f c).turns = s.turns := by rw [State.setFlagAll_frame]
@[simp] theorem State.setFlagAll_strayReleases (f : Flag) (c : Carry) : (s.setFlagAll f c).strayReleases = s.strayReleases := by rw [State.setFlagAll_frame]
@[simp] theorem State.setFlagAll_epoch (f : Flag) (c : Carry) : (s.setFlagAll f c).epoch = s.epoch := by rw [State.setFlagAll_frame]
@[simp] theorem State.setFlagAll_advancePending (f : Flag) (c : Carry) : (s.setFlagAll f c).advancePending = s.advancePending := by rw [State.setFlagAll_frame]
@[simp] theorem State.setFlagAll_absorbed (f : Flag) (c : Carry) : (s.setFlagAll f c).absorbed = s.absorbed := by rw [State.setFlagAll_frame]
@[simp] theorem State.setFlagAll_epochTimer (f : Flag) (c : Carry) : (s.setFlagAll f c).epochTimer = s.epochTimer := by rw [State.setFlagAll_frame]
@[simp] theorem State.setFlagAll_policy (f : Flag) (c : Carry) : (s.setFlagAll f c).policy = s.policy := by rw [State.setFlagAll_frame]
@[simp] theorem State.setFlagAll_stagedPolicy (f : Flag) (c : Carry) : (s.setFlagAll f c).stagedPolicy = s.stagedPolicy := by rw [State.setFlagAll_frame]
@[simp] theorem State.setFlagAll_sweepEndRequests (f : Flag) (c : Carry) : (s.setFlagAll f c).sweepEndRequests = s.sweepEndRequests := by rw [State.setFlagAll_frame]
@[simp] theorem State.setFlagAll_startRequests (f : Flag) (c : Carry) : (s.setFlagAll f c).startRequests = s.startRequests := by rw [State.setFlagAll_frame]
@[simp] theorem State.setFlagAll_holds (f : Flag) (c : Carry) : (s.setFlagAll f c).holds = s.holds := by rw [State.setFlagAll_frame]
@[simp] theorem State.setFlagAll_scanner (f : Flag) (c : Carry) : (s.setFlagAll f c).scanner = s.scanner := by rw [State.setFlagAll_frame]
@[simp] theorem State.setFlagAll_slots (f : Flag) (c : Carry) : (s.setFlagAll f c).slots = s.slots := by rw [State.setFlagAll_frame]
@[simp] theorem State.setFlagAll_proposal (f : Flag) (c : Carry) : (s.setFlagAll f c).proposal = s.proposal := by rw [State.setFlagAll_frame]
@[simp] theorem State.setFlagAll_lastEnded (f : Flag) (c : Carry) : (s.setFlagAll f c).lastEnded = s.lastEnded := by rw [State.setFlagAll_frame]
@[simp] theorem State.setFlagAll_discarded (f : Flag) (c : Carry) : (s.setFlagAll f c).discarded = s.discarded := by rw [State.setFlagAll_frame]

@[simp] theorem State.complete_pending (c : Completion) : (s.complete p c).pending = s.pending := by rw [State.complete_frame]
@[simp] theorem State.complete_initialising (c : Completion) : (s.complete p c).initialising = s.initialising := by rw [State.complete_frame]
@[simp] theorem State.complete_now (c : Completion) : (s.complete p c).now = s.now := by rw [State.complete_frame]
@[simp] theorem State.complete_device (c : Completion) : (s.complete p c).device = s.device := by rw [State.complete_frame]
@[simp] theorem State.complete_lanes (c : Completion) : (s.complete p c).lanes = s.lanes := by rw [State.complete_frame]
@[simp] theorem State.complete_lastGranted (c : Completion) : (s.complete p c).lastGranted = s.lastGranted := by rw [State.complete_frame]
@[simp] theorem State.complete_orphanTimers (c : Completion) : (s.complete p c).orphanTimers = s.orphanTimers := by rw [State.complete_frame]
@[simp] theorem State.complete_expired (c : Completion) : (s.complete p c).expired = s.expired := by rw [State.complete_frame]
@[simp] theorem State.complete_index (c : Completion) : (s.complete p c).index = s.index := by rw [State.complete_frame]
@[simp] theorem State.complete_occupancy (c : Completion) : (s.complete p c).occupancy = s.occupancy := by rw [State.complete_frame]
@[simp] theorem State.complete_collisions (c : Completion) : (s.complete p c).collisions = s.collisions := by rw [State.complete_frame]
@[simp] theorem State.complete_poisonList (c : Completion) : (s.complete p c).poisonList = s.poisonList := by rw [State.complete_frame]
@[simp] theorem State.complete_poisonCount (c : Completion) : (s.complete p c).poisonCount = s.poisonCount := by rw [State.complete_frame]
@[simp] theorem State.complete_correctable (c : Completion) : (s.complete p c).correctable = s.correctable := by rw [State.complete_frame]
@[simp] theorem State.complete_damage (c : Completion) : (s.complete p c).damage = s.damage := by rw [State.complete_frame]
@[simp] theorem State.complete_counter (c : Completion) : (s.complete p c).counter = s.counter := by rw [State.complete_frame]
@[simp] theorem State.complete_table (c : Completion) : (s.complete p c).table = s.table := by rw [State.complete_frame]
@[simp] theorem State.complete_settlings (c : Completion) : (s.complete p c).settlings = s.settlings := by rw [State.complete_frame]
@[simp] theorem State.complete_turns (c : Completion) : (s.complete p c).turns = s.turns := by rw [State.complete_frame]
@[simp] theorem State.complete_strayReleases (c : Completion) : (s.complete p c).strayReleases = s.strayReleases := by rw [State.complete_frame]
@[simp] theorem State.complete_epoch (c : Completion) : (s.complete p c).epoch = s.epoch := by rw [State.complete_frame]
@[simp] theorem State.complete_advancePending (c : Completion) : (s.complete p c).advancePending = s.advancePending := by rw [State.complete_frame]
@[simp] theorem State.complete_absorbed (c : Completion) : (s.complete p c).absorbed = s.absorbed := by rw [State.complete_frame]
@[simp] theorem State.complete_epochTimer (c : Completion) : (s.complete p c).epochTimer = s.epochTimer := by rw [State.complete_frame]
@[simp] theorem State.complete_policy (c : Completion) : (s.complete p c).policy = s.policy := by rw [State.complete_frame]
@[simp] theorem State.complete_stagedPolicy (c : Completion) : (s.complete p c).stagedPolicy = s.stagedPolicy := by rw [State.complete_frame]
@[simp] theorem State.complete_sweepEndRequests (c : Completion) : (s.complete p c).sweepEndRequests = s.sweepEndRequests := by rw [State.complete_frame]
@[simp] theorem State.complete_startRequests (c : Completion) : (s.complete p c).startRequests = s.startRequests := by rw [State.complete_frame]
@[simp] theorem State.complete_holds (c : Completion) : (s.complete p c).holds = s.holds := by rw [State.complete_frame]
@[simp] theorem State.complete_scanner (c : Completion) : (s.complete p c).scanner = s.scanner := by rw [State.complete_frame]
@[simp] theorem State.complete_slots (c : Completion) : (s.complete p c).slots = s.slots := by rw [State.complete_frame]
@[simp] theorem State.complete_proposal (c : Completion) : (s.complete p c).proposal = s.proposal := by rw [State.complete_frame]
@[simp] theorem State.complete_lastEnded (c : Completion) : (s.complete p c).lastEnded = s.lastEnded := by rw [State.complete_frame]

@[simp] theorem State.reply_pending (r : CommandRecord) (o : Outcome) (fs : List Field) : (s.reply p r o fs).pending = s.pending := by rw [State.reply_frame]
@[simp] theorem State.reply_initialising (r : CommandRecord) (o : Outcome) (fs : List Field) : (s.reply p r o fs).initialising = s.initialising := by rw [State.reply_frame]
@[simp] theorem State.reply_now (r : CommandRecord) (o : Outcome) (fs : List Field) : (s.reply p r o fs).now = s.now := by rw [State.reply_frame]
@[simp] theorem State.reply_device (r : CommandRecord) (o : Outcome) (fs : List Field) : (s.reply p r o fs).device = s.device := by rw [State.reply_frame]
@[simp] theorem State.reply_lanes (r : CommandRecord) (o : Outcome) (fs : List Field) : (s.reply p r o fs).lanes = s.lanes := by rw [State.reply_frame]
@[simp] theorem State.reply_lastGranted (r : CommandRecord) (o : Outcome) (fs : List Field) : (s.reply p r o fs).lastGranted = s.lastGranted := by rw [State.reply_frame]
@[simp] theorem State.reply_orphanTimers (r : CommandRecord) (o : Outcome) (fs : List Field) : (s.reply p r o fs).orphanTimers = s.orphanTimers := by rw [State.reply_frame]
@[simp] theorem State.reply_expired (r : CommandRecord) (o : Outcome) (fs : List Field) : (s.reply p r o fs).expired = s.expired := by rw [State.reply_frame]
@[simp] theorem State.reply_index (r : CommandRecord) (o : Outcome) (fs : List Field) : (s.reply p r o fs).index = s.index := by rw [State.reply_frame]
@[simp] theorem State.reply_occupancy (r : CommandRecord) (o : Outcome) (fs : List Field) : (s.reply p r o fs).occupancy = s.occupancy := by rw [State.reply_frame]
@[simp] theorem State.reply_collisions (r : CommandRecord) (o : Outcome) (fs : List Field) : (s.reply p r o fs).collisions = s.collisions := by rw [State.reply_frame]
@[simp] theorem State.reply_poisonList (r : CommandRecord) (o : Outcome) (fs : List Field) : (s.reply p r o fs).poisonList = s.poisonList := by rw [State.reply_frame]
@[simp] theorem State.reply_poisonCount (r : CommandRecord) (o : Outcome) (fs : List Field) : (s.reply p r o fs).poisonCount = s.poisonCount := by rw [State.reply_frame]
@[simp] theorem State.reply_correctable (r : CommandRecord) (o : Outcome) (fs : List Field) : (s.reply p r o fs).correctable = s.correctable := by rw [State.reply_frame]
@[simp] theorem State.reply_damage (r : CommandRecord) (o : Outcome) (fs : List Field) : (s.reply p r o fs).damage = s.damage := by rw [State.reply_frame]
@[simp] theorem State.reply_counter (r : CommandRecord) (o : Outcome) (fs : List Field) : (s.reply p r o fs).counter = s.counter := by rw [State.reply_frame]
@[simp] theorem State.reply_table (r : CommandRecord) (o : Outcome) (fs : List Field) : (s.reply p r o fs).table = s.table := by rw [State.reply_frame]
@[simp] theorem State.reply_settlings (r : CommandRecord) (o : Outcome) (fs : List Field) : (s.reply p r o fs).settlings = s.settlings := by rw [State.reply_frame]
@[simp] theorem State.reply_turns (r : CommandRecord) (o : Outcome) (fs : List Field) : (s.reply p r o fs).turns = s.turns := by rw [State.reply_frame]
@[simp] theorem State.reply_strayReleases (r : CommandRecord) (o : Outcome) (fs : List Field) : (s.reply p r o fs).strayReleases = s.strayReleases := by rw [State.reply_frame]
@[simp] theorem State.reply_epoch (r : CommandRecord) (o : Outcome) (fs : List Field) : (s.reply p r o fs).epoch = s.epoch := by rw [State.reply_frame]
@[simp] theorem State.reply_advancePending (r : CommandRecord) (o : Outcome) (fs : List Field) : (s.reply p r o fs).advancePending = s.advancePending := by rw [State.reply_frame]
@[simp] theorem State.reply_absorbed (r : CommandRecord) (o : Outcome) (fs : List Field) : (s.reply p r o fs).absorbed = s.absorbed := by rw [State.reply_frame]
@[simp] theorem State.reply_epochTimer (r : CommandRecord) (o : Outcome) (fs : List Field) : (s.reply p r o fs).epochTimer = s.epochTimer := by rw [State.reply_frame]
@[simp] theorem State.reply_policy (r : CommandRecord) (o : Outcome) (fs : List Field) : (s.reply p r o fs).policy = s.policy := by rw [State.reply_frame]
@[simp] theorem State.reply_stagedPolicy (r : CommandRecord) (o : Outcome) (fs : List Field) : (s.reply p r o fs).stagedPolicy = s.stagedPolicy := by rw [State.reply_frame]
@[simp] theorem State.reply_sweepEndRequests (r : CommandRecord) (o : Outcome) (fs : List Field) : (s.reply p r o fs).sweepEndRequests = s.sweepEndRequests := by rw [State.reply_frame]
@[simp] theorem State.reply_startRequests (r : CommandRecord) (o : Outcome) (fs : List Field) : (s.reply p r o fs).startRequests = s.startRequests := by rw [State.reply_frame]
@[simp] theorem State.reply_holds (r : CommandRecord) (o : Outcome) (fs : List Field) : (s.reply p r o fs).holds = s.holds := by rw [State.reply_frame]
@[simp] theorem State.reply_scanner (r : CommandRecord) (o : Outcome) (fs : List Field) : (s.reply p r o fs).scanner = s.scanner := by rw [State.reply_frame]
@[simp] theorem State.reply_slots (r : CommandRecord) (o : Outcome) (fs : List Field) : (s.reply p r o fs).slots = s.slots := by rw [State.reply_frame]
@[simp] theorem State.reply_proposal (r : CommandRecord) (o : Outcome) (fs : List Field) : (s.reply p r o fs).proposal = s.proposal := by rw [State.reply_frame]
@[simp] theorem State.reply_lastEnded (r : CommandRecord) (o : Outcome) (fs : List Field) : (s.reply p r o fs).lastEnded = s.lastEnded := by rw [State.reply_frame]

@[simp] theorem State.lane_ringPut (r : Response) (n : LaneNo) : (s.ringPut p r).lane n = s.lane n :=
  by
  unfold State.lane; simp
@[simp] theorem State.lane_join (w : Writer) (n : LaneNo) : (s.join p w).lane n = s.lane n := rfl
@[simp] theorem State.lane_setFlag (f : Flag) (c : Carry) (n : LaneNo) : (s.setFlag p f c).lane n = s.lane n :=
  by
  unfold State.lane; simp
@[simp] theorem State.lane_setFlags (ps : List PortNo) (f : Flag) (c : Carry) (n : LaneNo) :
    (s.setFlags ps f c).lane n = s.lane n :=
  by
  unfold State.lane; simp
@[simp] theorem State.lane_setFlagAll (f : Flag) (c : Carry) (n : LaneNo) : (s.setFlagAll f c).lane n = s.lane n :=
  by
  unfold State.lane; simp
@[simp] theorem State.lane_complete (c : Completion) (n : LaneNo) : (s.complete p c).lane n = s.lane n :=
  by
  unfold State.lane; simp
@[simp] theorem State.lane_reply (r : CommandRecord) (o : Outcome) (fs : List Field) (n : LaneNo) :
    (s.reply p r o fs).lane n = s.lane n :=
  by
  unfold State.lane; simp
@[simp] theorem State.bucket_ringPut (r : Response) (b : Nat) : (s.ringPut p r).bucket b = s.bucket b :=
  by
  unfold State.bucket; simp
@[simp] theorem State.bucket_join (w : Writer) (b : Nat) : (s.join p w).bucket b = s.bucket b := rfl
@[simp] theorem State.bucket_setFlag (f : Flag) (c : Carry) (b : Nat) : (s.setFlag p f c).bucket b = s.bucket b :=
  by
  unfold State.bucket; simp
@[simp] theorem State.bucket_setFlags (ps : List PortNo) (f : Flag) (c : Carry) (b : Nat) :
    (s.setFlags ps f c).bucket b = s.bucket b :=
  by
  unfold State.bucket; simp
@[simp] theorem State.bucket_setFlagAll (f : Flag) (c : Carry) (b : Nat) : (s.setFlagAll f c).bucket b = s.bucket b :=
  by
  unfold State.bucket; simp
@[simp] theorem State.bucket_complete (c : Completion) (b : Nat) : (s.complete p c).bucket b = s.bucket b :=
  by
  unfold State.bucket; simp
@[simp] theorem State.bucket_reply (r : CommandRecord) (o : Outcome) (fs : List Field) (b : Nat) :
    (s.reply p r o fs).bucket b = s.bucket b :=
  by
  unfold State.bucket; simp

/-! ### A record on the ring -/

/-- A response record is not empty. -/
theorem Response.bytes_ne_nil (r : Response) (pass : Bool) : r.bytes p pass ≠ [] := by
  have overlay_ne : ∀ (fs : List (Nat × List Byte)) (acc : List Byte), acc ≠ [] →
      fs.foldl (fun r f => overlay r f.1 f.2) acc ≠ [] := by
    intro fs
    induction fs with
    | nil => intro acc h; exact h
    | cons f rest ih =>
      intro acc h
      refine ih _ ?_
      intro he
      simp only [overlay, List.append_eq_nil_iff, List.take_eq_nil_iff, List.drop_eq_nil_iff] at he
      obtain ⟨⟨h1, h2⟩, h3⟩ := he
      rw [h2] at h3
      rcases h1 with h1 | h1
      · rw [h1] at h3
        exact h (List.length_eq_zero_iff.mp (by simpa using h3))
      · exact h h1
  unfold Response.bytes layOut
  intro he
  rw [List.take_eq_nil_iff] at he
  rcases he with he | he
  · exact absurd he (by decide)
  · exact overlay_ne _ _ (by simp) he

/-- A record on the ring of `p` leaves every other port unit. -/
theorem State.ringPut_port_ne (r : Response) {q : PortNo} (h : q ≠ p) : (s.ringPut p r).port q = s.port q := by
  unfold State.ringPut
  split
  · rfl
  · simp only [State.port_setPort_ne _ _ _ h]; rfl

/-- A record on the ring of `p` leaves every other port's ring. -/
theorem State.ringPut_memory_ne (r : Response) {q : PortNo} (h : q ≠ p) : (s.ringPut p r).memory[q] = s.memory[q] := by
  unfold State.ringPut
  split
  · rfl
  · simp only [State.setPort_memory, Fin.getElem_fin]
    exact Vector.getElem_set_ne p.isLt q.isLt (fun e => h (Fin.ext e.symm))

/-- The port unit after a record on its ring. -/
theorem State.ringPut_port (r : Response) : (s.ringPut p r).port p = (s.port p).advanced := by
  unfold State.ringPut Port.advanced
  cases h : (s.port p).ring with
  | none => simp
  | some g => simp [h]

/-- A port whose ring has a free position has a ring. -/
theorem State.canWrite_ring {s : State} {p : PortNo} (h : s.canWrite p = true) : ∃ g, (s.port p).ring = some g := by
  cases hg : (s.port p).ring with
  | none => simp [State.canWrite, Port.free, hg] at h
  | some g => exact ⟨g, rfl⟩

theorem State.canWrite_attached {s : State} {p : PortNo} (h : s.canWrite p = true) : s.attached p = true := by
  simp only [State.canWrite, Bool.and_eq_true] at h
  exact h.1.1

/-- One record on the ring: it stands at the producer index under the pass mark, and nothing else of the rings or of the other
port units changes. -/
theorem State.wrote_ringPut (r : Response) (h : (s.port p).ring.isSome = true) :
    s.Wrote (s.ringPut p r) p r (s.port p).advanced := by
  obtain ⟨g, hg⟩ := Option.isSome_iff_exists.mp h
  have hmem : (s.ringPut p r).memory[p] =
      sparsePut [] s.memory[p] (ringAddress g (s.port p).producer) (r.bytes p (s.port p).pass) := by
    unfold State.ringPut
    simp [hg, State.setPort]
  refine ⟨?_, s.ringPut_port p r, fun q hq => ⟨s.ringPut_port_ne p r hq, s.ringPut_memory_ne p r hq⟩, ?_⟩
  · unfold State.ringRecord
    have hr : ((s.ringPut p r).port p).ring = some g := by
      rw [s.ringPut_port p r]; simp [Port.advanced, hg]
    rw [hr]
    simp only [hmem]
    exact sparseGet_sparsePut_self_of_ne _ _ _ (Response.bytes_ne_nil p r _)
  · intro g' a hg' ha
    rw [hg] at hg'
    cases hg'
    rw [hmem]
    exact sparseGet_sparsePut_ne _ _ _ ha

/-- A completion that finds a free position. -/
theorem State.complete_eq {s : State} {p : PortNo} (h : s.canWrite p = true) (c : Completion) :
    s.complete p c = (s.ringPut p (.completion c)).modPort p fun q => { q with hand := none } := by
  unfold State.complete
  simp [State.canWrite_attached h, h]

/-- A completion that finds a free position is written there, and no command is in hand any more. -/
theorem State.wrote_complete {s : State} {p : PortNo} (h : s.canWrite p = true) (c : Completion) :
    s.Wrote (s.complete p c) p (.completion c) { (s.port p).advanced with hand := none } := by
  obtain ⟨g, hg⟩ := State.canWrite_ring h
  have w := s.wrote_ringPut p (.completion c) (by simp [hg])
  rw [State.complete_eq h]
  refine ⟨?_, ?_, ?_, ?_⟩
  · have h1 := w.record
    unfold State.ringRecord at h1 ⊢
    simp only [State.port_modPort, State.modPort_memory] at h1 ⊢
    exact h1
  · simp [w.port]
  · intro q hq
    have := w.otherPorts q hq
    simp only [State.modPort_memory]
    exact ⟨by rw [State.port_modPort_ne _ _ _ hq]; exact this.1, this.2⟩
  · intro g a hg ha
    simpa using w.ring g a hg ha

/-- A completion that finds a free position discards nothing. -/
theorem State.complete_discarded {s : State} {p : PortNo} (h : s.canWrite p = true) (c : Completion) :
    (s.complete p c).discarded = s.discarded := by
  rw [State.complete_eq h]; simp

/-- Whether a completion finds a free position depends on the port unit alone. -/
theorem State.canWrite_congr {s t : State} {p : PortNo} (h1 : (t.port p).state = (s.port p).state)
    (h2 : (t.port p).ring = (s.port p).ring) (h3 : (t.port p).producer = (s.port p).producer)
    (h4 : (t.port p).consumer = (s.port p).consumer) (h5 : (t.port p).waiting = (s.port p).waiting) :
    t.canWrite p = s.canWrite p := by
  unfold State.canWrite State.attached Port.free
  rw [h1, h2, h3, h4, h5]

/-- A record written in a state with the port units and the ring records of `s`. -/
theorem State.Wrote.of_same {s e t : State} {p : PortNo} {r : Response} {q : Port} (h : e.Wrote t p r q) (hp : e.ports = s.ports)
    (hm : e.memory = s.memory) : s.Wrote t p r q := by
  have hport : ∀ k, e.port k = s.port k := fun k => by simp only [State.port, hp]
  refine ⟨?_, h.port, fun k hk => ?_, fun g a hg ha => ?_⟩
  · rw [← hport p]; exact h.record
  · rw [← hport k, ← hm]; exact h.otherPorts k hk
  · rw [← hm]; exact h.ring g a (by rw [hport]; exact hg) (by rw [hport]; exact ha)

/-- A record put on the ring of a port that can write, in a state with the port units and the ring records of `s`. -/
theorem State.wrote_ringPut_of {s e : State} {p : PortNo} (h : s.canWrite p = true) (hp : e.ports = s.ports)
    (hm : e.memory = s.memory) (r : Response) : s.Wrote (e.ringPut p r) p r (s.port p).advanced := by
  have hport : e.port p = s.port p := by simp only [State.port, hp]
  obtain ⟨g, hg⟩ := State.canWrite_ring h
  have hw := e.wrote_ringPut p r (by rw [hport, hg]; rfl)
  rw [hport] at hw
  exact hw.of_same hp hm

end Sys2Proof.Machine
end

