-- ==== Sys2Proof/Laws/Commands.lean ====
section
/-! SUPPORT. Taking a command and answering it: what the two can do. -/

namespace Sys2Proof.Machine

open Sys2Proof

variable {s : State} {p : PortNo} {r : CommandRecord} {kind : Nat}

theorem State.Takes.front (h : s.Takes p r kind) : s.front? p = some r := h.1

theorem State.Takes.kind_eq (h : s.Takes p r kind) : recKind r = kind := h.2.1

theorem State.Takes.writes (h : s.Takes p r kind) : s.canWrite p = true := h.2.2

theorem State.Takes.isAttached (h : s.Takes p r kind) : s.attached p = true := State.canWrite_attached h.2.2

theorem State.Takes.state_eq (h : s.Takes p r kind) : (s.port p).state = .attached := by
  simpa [State.attached] using h.isAttached

theorem State.front?_spec {s : State} {p : PortNo} {r : CommandRecord} (h : s.front? p = some r) :
    s.initialising = false ∧ (s.port p).hand = none ∧ (s.port p).queue.head? = some r := by
  unfold State.front? at h
  split at h
  · cases h
  · rename_i hn
    exact ⟨by simpa using fun h => hn (.inl h), by simpa using fun h => hn (.inr h), h⟩

/-- The command of a port that takes it is carried out by `body`. -/
theorem State.onCommand_takes (h : s.Takes p r kind) (body : CommandRecord → State → State) :
    s.onCommand p kind body = .next (body r (s.popQueue p)) := by
  unfold State.onCommand
  simp [h.front, h.isAttached, h.kind_eq]

/-- A state whose port unit is that of `s` but for what a ring does not depend on can write to the ring as `s` can. -/
theorem State.Takes.canWrite_of (h : s.Takes p r kind) {e : State} (change : Port → Port)
    (hp : e.port p = change ((s.popQueue p).port p))
    (hc : ∀ q : Port, (change q).state = q.state ∧ (change q).ring = q.ring ∧ (change q).producer = q.producer ∧
      (change q).consumer = q.consumer ∧ (change q).waiting = q.waiting) : e.canWrite p = true := by
  have hq := hc ((s.popQueue p).port p)
  rw [← h.writes]
  refine State.canWrite_congr ?_ ?_ ?_ ?_ ?_ <;> rw [hp]
  · simpa using hq.1
  · simpa using hq.2.1
  · simpa using hq.2.2.1
  · simpa using hq.2.2.2.1
  · simpa using hq.2.2.2.2

/-- A port unit changed in what a ring does not depend on. -/
structure RingNeutral (change : Port → Port) : Prop where
  state : ∀ q, (change q).state = q.state
  ring : ∀ q, (change q).ring = q.ring
  producer : ∀ q, (change q).producer = q.producer
  consumer : ∀ q, (change q).consumer = q.consumer
  waiting : ∀ q, (change q).waiting = q.waiting
  pass : ∀ q, (change q).pass = q.pass
  commutes : ∀ q : Port,
    { (change { q with queue := q.queue.drop 1 }).advanced with hand := none } = change q.answered

theorem ringNeutral_id : RingNeutral id where
  state _ := rfl
  ring _ := rfl
  producer _ := rfl
  consumer _ := rfl
  waiting _ := rfl
  pass _ := rfl
  commutes q := by
    obtain ⟨_, _, _, ring⟩ := q
    cases ring <;> rfl

/-- A command that takes effect with `e`, which leaves the rings and the other port units, and changes its own port unit by
`change`: its reply answers it. -/
theorem State.Takes.answered (h : s.Takes p r kind) {e : State} {change : Port → Port} (hc : RingNeutral change)
    (hp : e.port p = change ((s.popQueue p).port p)) (hq : ∀ q, q ≠ p → e.port q = s.port q) (hm : e.memory = s.memory)
    (o : Outcome) (fs : List Field) :
    s.Answered (e.reply p r o fs) p r o fs change ∧ (e.reply p r o fs).discarded = e.discarded := by
  have hw : e.canWrite p = true :=
    h.canWrite_of change hp fun q => ⟨hc.state q, hc.ring q, hc.producer q, hc.consumer q, hc.waiting q⟩
  have w := State.wrote_complete hw { kind := recKind r, tag := recTag r, outcome := o, fields := fs }
  have hpr : (e.port p).producer = (s.port p).producer := by rw [hp, hc.producer]; simp
  have hpa : (e.port p).pass = (s.port p).pass := by rw [hp, hc.pass]; simp
  have hri : (e.port p).ring = (s.port p).ring := by rw [hp, hc.ring]; simp
  refine ⟨⟨?_, ?_, ?_, ?_⟩, State.complete_discarded hw _⟩
  · have := w.record
    rw [hpr, hpa] at this
    exact this
  · have h1 := w.port
    rw [hp] at h1
    unfold State.reply
    rw [h1, State.port_popQueue]
    exact hc.commutes (s.port p)
  · intro q hne
    have := w.otherPorts q hne
    rw [hq q hne, hm] at this
    exact this
  · intro g a hg ha
    have := w.ring g a (by rw [hri]; exact hg) (by rw [hpr]; exact ha)
    rw [hm] at this
    exact this

/-- A command that takes effect with `e`, which has the port units and the ring records of the state in which it was taken: its
reply answers it and changes nothing but those. -/
theorem State.Takes.answers (h : s.Takes p r kind) (e : State) (hp : e.ports = (s.popQueue p).ports) (hm : e.memory = s.memory)
    (o : Outcome) (fs : List Field) :
    s.Answered (e.reply p r o fs) p r o fs ∧
      e.reply p r o fs = { e with ports := (e.reply p r o fs).ports, memory := (e.reply p r o fs).memory } := by
  have hport : ∀ q, e.port q = (s.popQueue p).port q := fun q => by simp only [State.port, hp]
  have a := h.answered (e := e) ringNeutral_id (hport p)
    (fun q hq => by rw [hport, State.port_popQueue_ne s p hq]) hm o fs
  refine ⟨a.1, ?_⟩
  have hf := e.reply_frame p r o fs
  rw [a.2] at hf
  exact hf

/-- A refused command: answered, and nothing else changes. -/
theorem State.Takes.refused (h : s.Takes p r kind) (o : Outcome) : s.Refused ((s.popQueue p).refuse p r o) p r o := by
  have a := h.answered (e := s.popQueue p) ringNeutral_id rfl (fun q hq => State.port_popQueue_ne s p hq) rfl o []
  refine ⟨a.1, ?_⟩
  unfold State.refuse
  have hf := (s.popQueue p).reply_frame p r o []
  rw [a.2] at hf
  exact hf

end Sys2Proof.Machine
end

