-- ==== Sys2Proof/Laws/Flags.lean ====
section
/-! SUPPORT. Flags set in summaries that hold a flag already, where no ATTENTION record is made (R182, R183), and the flags of a
change of occupancy (R26). -/

namespace Sys2Proof.Machine

open Sys2Proof

variable {s : State} {p : PortNo}

/-- A summary in which a flag has been set is not empty. -/
theorem Summary.raise_isEmpty (m : Summary) (f : Flag) : (m.raise f).isEmpty = false := by
  have hne : (m.raise f).mark f ≠ .clear := by
    simp only [Summary.mark, Summary.raise, Fin.getElem_fin, Vector.getElem_set_self]
    cases m.marks[(f.place : Nat)] <;> simp [Mark.raise]
  unfold Summary.isEmpty
  rw [List.all_eq_false]
  exact ⟨(m.raise f).marks[f.place], by simp, by simpa [Summary.mark] using hne⟩

theorem Summary.carry_marks (m : Summary) (f : Flag) (c : Carry) : (m.carry f c).marks = m.marks := by
  unfold Summary.carry
  split <;> rfl

theorem Summary.carry_isEmpty (m : Summary) (f : Flag) (c : Carry) : (m.carry f c).isEmpty = m.isEmpty := by
  unfold Summary.isEmpty
  rw [Summary.carry_marks]

theorem Port.flagged_state (q : Port) (f : Flag) (c : Carry) : (q.flagged f c).state = q.state := by
  unfold Port.flagged; split <;> rfl

theorem State.flaggedAt_port (among : PortNo → Bool) (f : Flag) (c : Carry) (q : PortNo) :
    (s.flaggedAt among f c).port q = if among q then (s.port q).flagged f c else s.port q := by
  simp [State.flaggedAt, State.port]

/-- A flag set where the summary holds one already: the port unit is flagged, and no record is made. -/
theorem State.setFlag_loud (f : Flag) (c : Carry) (h : s.attached p = true → (s.port p).summary.isEmpty = false) :
    s.setFlag p f c = s.flaggedAt (fun q => decide (q = p)) f c := by
  have hports : ∀ t : State, t = { s with ports := t.ports } → (∀ q, t.port q = (s.flaggedAt (fun q => decide (q = p)) f c).port q) →
      t = s.flaggedAt (fun q => decide (q = p)) f c := by
    intro t ht hq
    rw [ht]
    unfold State.flaggedAt
    congr 1
    ext q hq'
    have := hq ⟨q, hq'⟩
    simpa [State.port, State.flaggedAt] using this
  unfold State.setFlag
  by_cases ha : s.attached p = true
  · simp only [ha, if_true, h ha, Bool.false_and, Bool.false_eq_true, if_false]
    refine hports _ rfl fun q => ?_
    rw [State.flaggedAt_port]
    have hst : (s.port p).state = .attached := by simpa [State.attached] using ha
    by_cases hq : q = p
    · subst hq; simp [Port.flagged, hst]
    · rw [State.port_modPort_ne _ _ _ hq]; simp [hq]
  · simp only [ha]
    refine hports _ rfl fun q => ?_
    rw [State.flaggedAt_port]
    have hst : (s.port p).state ≠ .attached := by simpa [State.attached] using ha
    by_cases hq : q = p
    · subst hq; simp [Port.flagged, hst]
    · simp [hq]

theorem State.flaggedAt_attached (among : PortNo → Bool) (f : Flag) (c : Carry) (q : PortNo) :
    (s.flaggedAt among f c).attached q = s.attached q := by
  simp only [State.attached, State.flaggedAt_port]
  split
  · rw [Port.flagged_state]
  · rfl

/-- Where every attached port's summary holds a flag, it does so after flags have been set. -/
theorem State.Alert.flaggedAt (h : s.Alert) (among : PortNo → Bool) (f : Flag) (c : Carry) : (s.flaggedAt among f c).Alert := by
  intro q hq
  rw [State.flaggedAt_attached] at hq
  rw [State.flaggedAt_port]
  have hst : (s.port q).state = .attached := by simpa [State.attached] using hq
  split
  · simp only [Port.flagged, hst, if_true, Summary.carry_isEmpty, Summary.raise_isEmpty]
  · exact h q hq

/-- A flag set at some ports, each once, where every attached port's summary holds one already. -/
theorem State.setFlags_loud (f : Flag) (c : Carry) (h : s.Alert) {ps : List PortNo} (hn : ps.Nodup) :
    s.setFlags ps f c = s.flaggedAt (fun q => decide (q ∈ ps)) f c := by
  unfold State.setFlags
  induction ps generalizing s with
  | nil =>
    simp only [List.foldl_nil, List.not_mem_nil, decide_false, State.flaggedAt, Bool.false_eq_true, if_false]
    have : (Vector.ofFn fun q => s.port q) = s.ports := by ext q hq; simp [State.port]
    rw [this]
  | cons p ps ih =>
    rw [List.nodup_cons] at hn
    rw [List.foldl_cons, State.setFlag_loud f c (h p), ih (h.flaggedAt _ f c) hn.2]
    unfold State.flaggedAt
    congr 1
    ext q hq
    rw [Vector.getElem_ofFn, Vector.getElem_ofFn]
    by_cases hp : (⟨q, hq⟩ : PortNo) = p
    · subst hp
      simp [hn.1, State.port]
    · simp [hp, State.port]

/-- A flag set at every attached port, where every attached port's summary holds one already. -/
theorem State.setFlagAll_loud (f : Flag) (c : Carry) (h : s.Alert) : s.setFlagAll f c = s.flaggedAt (fun _ => true) f c := by
  have : (fun q => decide (q ∈ allPorts)) = fun _ => true := by funext q; simp [allPorts]
  unfold State.setFlagAll
  rw [State.setFlags_loud f c h (by simp [allPorts, List.nodup_finRange]), this]

/-! ### Crossings of watched thresholds -/

theorem Port.sees_eq (q : Port) (a b : Nat) :
    q.sees a b = (decide (q.state = .attached) && watched q.watchMode q.watchThreshold a b) := by
  unfold Port.sees watched
  cases q.watchMode <;> simp [Bool.decide_and]

theorem Port.flagged_detached {q : Port} (h : q.state ≠ .attached) (f : Flag) (c : Carry) : q.flagged f c = q := by
  simp [Port.flagged, h]

/-- The crossings of a change of occupancy, judged by some ports, each once, where every attached port's summary holds a flag. -/
theorem State.crossings_loud (a b : Nat) (h : s.Alert) {ps : List PortNo} (hn : ps.Nodup) :
    ps.foldl (fun t p => if watched (t.port p).watchMode (t.port p).watchThreshold a b then t.setFlag p .occupancy .none else t) s =
      s.flaggedAt (fun q => decide (q ∈ ps) && (s.port q).sees a b) .occupancy .none := by
  induction ps generalizing s with
  | nil =>
    have : (Vector.ofFn fun q => s.port q) = s.ports := by ext q hq; simp [State.port]
    simp [State.flaggedAt, this]
  | cons p ps ih =>
    rw [List.nodup_cons] at hn
    have hs : (if watched (s.port p).watchMode (s.port p).watchThreshold a b then s.setFlag p .occupancy .none else s) =
        s.flaggedAt (fun q => decide (q = p) && (s.port q).sees a b) .occupancy .none := by
      have same : ∀ among : PortNo → Bool, (∀ q, (s.flaggedAt among .occupancy .none).port q = s.port q) →
          s = s.flaggedAt among .occupancy .none := by
        intro among hq
        have : (Vector.ofFn fun q => if among q = true then (s.port q).flagged .occupancy .none else s.port q) = s.ports := by
          ext q hq'
          simpa [State.flaggedAt, State.port] using hq ⟨q, hq'⟩
        simp only [State.flaggedAt, this]
      split
      · next hw =>
        by_cases ha : (s.port p).state = .attached
        · rw [State.setFlag_loud _ _ (h p)]
          congr 1
          funext q
          by_cases hq : q = p
          · subst hq; simp [Port.sees_eq, hw, ha]
          · simp [hq]
        · have : s.setFlag p .occupancy .none = s := by simp [State.setFlag, State.attached, ha]
          rw [this]
          refine same _ fun q => ?_
          rw [State.flaggedAt_port]
          by_cases hq : q = p
          · subst hq; simp [Port.sees_eq, ha]
          · simp [hq]
      · next hw =>
        refine same _ fun q => ?_
        rw [State.flaggedAt_port]
        by_cases hq : q = p
        · subst hq; simp [Port.sees_eq, hw]
        · simp [hq]
    rw [List.foldl_cons, hs, ih (h.flaggedAt _ _ _) hn.2]
    unfold State.flaggedAt
    congr 1
    ext q hq
    rw [Vector.getElem_ofFn, Vector.getElem_ofFn]
    by_cases hp : (⟨q, hq⟩ : PortNo) = p
    · subst hp; simp [hn.1, State.port]
    · simp [hp, State.port]

/-- A change of occupancy that makes no ATTENTION record sets OCCUPANCY at the ports that watch its crossing (R25, R26). -/
theorem State.changeOccupancy_quiet {b : Nat} (h : s.CrossesQuietly b) :
    s.changeOccupancy b = { s.crossed b with occupancy := b } := by
  rcases h with h | h
  · have := State.crossings_loud (s := { s with occupancy := b }) s.occupancy b h (List.nodup_finRange 4)
    rw [State.changeOccupancy, allPorts, this]
    simp [State.crossed, State.flaggedAt, State.port]
    rfl
  · have hc : s.crossed b = s := by
      have : (Vector.ofFn fun q => s.port q) = s.ports := by ext q hq; simp [State.port]
      simp [State.crossed, State.flaggedAt, h, this]
    have hn : ∀ ps : List PortNo,
        ps.foldl (fun t p => if watched (t.port p).watchMode (t.port p).watchThreshold s.occupancy b then
          t.setFlag p .occupancy .none else t) { s with occupancy := b } = { s with occupancy := b } := by
      intro ps
      induction ps with
      | nil => rfl
      | cons p ps ih =>
        rw [List.foldl_cons]
        have : (if watched (({ s with occupancy := b } : State).port p).watchMode
              (({ s with occupancy := b } : State).port p).watchThreshold s.occupancy b then
            State.setFlag { s with occupancy := b } p .occupancy .none else { s with occupancy := b }) = { s with occupancy := b } := by
          have hp := h p
          rw [Port.sees_eq] at hp
          by_cases ha : (s.port p).state = .attached
          · have hw : watched (s.port p).watchMode (s.port p).watchThreshold s.occupancy b = false := by simpa [ha] using hp
            exact if_neg (by simpa [State.port] using hw)
          · have hs : State.setFlag { s with occupancy := b } p .occupancy .none = { s with occupancy := b } := by
              have : State.attached { s with occupancy := b } p = false := decide_eq_false ha
              simp [State.setFlag, this]
            rw [hs, ite_self]
        rw [this, ih]
    rw [State.changeOccupancy, hn, hc]

end Sys2Proof.Machine
end

