-- ==== Sys2Proof/Laws/Index.lean ====
section
/-! SUPPORT. The chunk index: reads of a bucket, searches in it, the change of one slot, and a change of occupancy that no port
watches. -/

namespace Sys2Proof.Machine

open Sys2Proof

variable {s : State} {b : Nat} {i : Fin 16}

/-! ### Reads -/

theorem State.hasError_of_none {at_ : DramPlace} (h : ∀ d ∈ s.damage, d.place ≠ at_) (e : EccError) : s.hasError at_ e = false := by
  simp only [State.hasError, List.any_eq_false, Bool.and_eq_true, decide_eq_true_eq, not_and]
  exact fun d hd hp => absurd hp (h d hd)

/-- A bucket not on the poison list in which no error stands is read as it is. -/
theorem State.readBucket_clean (h : b ∉ s.poisonList) (he : ∀ d ∈ s.damage, d.place ≠ .bucket b) :
    s.readBucket b = (false, s) := by
  simp [State.readBucket, h, State.hasError_of_none he]

theorem State.readBucket_arise {errs : List DramError} (h : s.Readable errs b) :
    (s.arise errs).readBucket b = (false, s.arise errs) :=
  State.readBucket_clean (s := s.arise errs) h.1 h.2

/-- A bucket on the poison list is not read. -/
theorem State.readBucket_poisoned (h : b ∈ s.poisonList) : s.readBucket b = (true, s) := by simp [State.readBucket, h]

/-! ### Chunk IDs and searches -/

/-- A number of bucket, slot and generation decodes to them (R3). -/
theorem decodeId_of {g : Nat} (hg : g < 16384) :
    decodeId (b * 262144 + i.val * 16384 + g) = { bucket := b, slot := i, generation := g } := by
  have := i.isLt
  unfold decodeId
  congr 1
  · omega
  · ext; simp only []; omega
  · omega

theorem List.find?_finRange {n : Nat} {f : Fin n → Bool} {k : Fin n} (h : f k = true) (hl : ∀ j, j < k → f j = false) :
    (List.finRange n).find? f = some k := by
  rw [List.find?_eq_some_iff_getElem]
  refine ⟨h, k.val, by simp, by simp, fun j hj => ?_⟩
  simp only [List.getElem_finRange, Bool.not_eq_true', Fin.cast_mk]
  exact hl _ hj

theorem List.find?_finRange_none {n : Nat} {f : Fin n → Bool} (h : ∀ j, f j = false) : (List.finRange n).find? f = none := by
  simp [List.find?_eq_none, h]

theorem List.findSome?_finRange {n : Nat} {α : Type} {f : Fin n → Option α} {k : Fin n} {a : α} (h : f k = some a)
    (hl : ∀ j, j < k → f j = none) : (List.finRange n).findSome? f = some a := by
  rw [List.findSome?_eq_some_iff]
  refine ⟨(List.finRange n).take k.val, k, (List.finRange n).drop (k.val + 1), ?_, h, ?_⟩
  · have := List.take_append_drop k.val (List.finRange n)
    rw [List.drop_eq_getElem_cons (by simp)] at this
    simpa using this.symm
  · intro j hj
    rw [List.mem_take_iff_getElem] at hj
    obtain ⟨m, hm, rfl⟩ := hj
    refine hl _ ?_
    simp only [List.getElem_finRange, Fin.cast_mk]
    have : m < k.val := by omega
    exact this

/-- The search finds the lowest-numbered slot whose entry has the fingerprint. -/
theorem findFingerprint_first {v : Bucket} {fp : List Byte} {x : Entry} (h : v.FirstWith fp i x) :
    findFingerprint v fp = some (i, x) := by
  refine List.findSome?_finRange (k := i) ?_ fun j hj => ?_
  · simp only [h.1, h.2.1, if_true]
  · have := h.2.2 j hj
    cases hv : v[j].entry with
    | none => simp only []
    | some y => rw [hv] at this; simp only []; rw [if_neg]; simpa using this

theorem findFingerprint_lacks {v : Bucket} {fp : List Byte} (h : v.Lacks fp) : findFingerprint v fp = none := by
  unfold findFingerprint
  rw [List.findSome?_eq_none_iff]
  intro j _
  have := h j
  cases hv : v[j].entry with
  | none => simp only []
  | some y => rw [hv] at this; simp only []; rw [if_neg]; simpa using this

theorem freeSlot?_first {v : Bucket} (h : v.FirstFree i) : freeSlot? v = some i :=
  List.find?_finRange (by rw [h.1]; rfl) fun j hj => by simpa [Option.isSome_iff_ne_none] using h.2 j hj

theorem freeSlot?_full {v : Bucket} (h : ∀ j : Fin 16, v[j].entry ≠ none) : freeSlot? v = none :=
  List.find?_finRange_none fun j => by simpa [Option.isSome_iff_ne_none] using h j

theorem State.entry?_of {m : SlotRef} {x : Entry} (h : s.Holds m x) : s.entry? m = some x := by
  have h' : (s.bucket m.bucket)[m.slot] = { generation := m.generation, entry := some x } := h
  simp [State.entry?, entryAt, h']

/-! ### One slot changes -/

theorem State.bucket_setBucket_ne {v : Bucket} {b' : Nat} (h : b' ≠ b) : (s.setBucket b v).bucket b' = s.bucket b' :=
  sparseGet_sparsePut_ne _ _ _ h

theorem State.bucket_setBucket_of_ne {v : Bucket} (h : v ≠ Bucket.untouched) : (s.setBucket b v).bucket b = v :=
  sparseGet_sparsePut_self_of_ne _ _ _ h

theorem State.bucket_setBucket_of_wf {v : Bucket} (h : sparseWf Bucket.untouched s.index = true) :
    (s.setBucket b v).bucket b = v :=
  sparseGet_sparsePut_self _ _ _ _ _ h

theorem putEntry_ne_untouched (v : Bucket) (x : Entry) : putEntry v i x ≠ Bucket.untouched := by
  intro h
  have := congrArg (fun w : Bucket => w[i].entry) h
  simp [putEntry, Bucket.untouched] at this

/-- An entry put into a slot: the slot keeps its generation, and no other slot changes. -/
theorem State.slotBecomes_updateEntry (x : Entry) :
    s.SlotBecomes (s.updateEntry b i x) b i { generation := (s.bucket b)[i].generation, entry := some x } := by
  have hb : (s.updateEntry b i x).bucket b = putEntry (s.bucket b) i x :=
    State.bucket_setBucket_of_ne (putEntry_ne_untouched _ _)
  refine ⟨?_, fun b' j hne => ?_⟩
  · rw [hb]; simp [putEntry]
  · by_cases h : b' = b
    · subst h
      have hj : j ≠ i := fun e => hne ⟨rfl, e⟩
      rw [hb]
      simp [putEntry, Vector.getElem_set_ne, Fin.val_ne_of_ne (Ne.symm hj)]
    · unfold State.updateEntry
      rw [State.bucket_setBucket_ne h]

/-- The generation after a removal: 16,383 is followed by 0 (R1, R9). -/
theorem nextGeneration_eq (g : Nat) : nextGeneration g = if g = 16383 then 0 else g + 1 := by
  simp [nextGeneration, Config.generations]

/-- A slot cleared: its generation rises, and no other slot changes. -/
theorem State.slotBecomes_clearSlot (h : sparseWf Bucket.untouched s.index = true) :
    s.SlotBecomes (s.setBucket b (clearSlot (s.bucket b) i)) b i
      { generation := if (s.bucket b)[i].generation = 16383 then 0 else (s.bucket b)[i].generation + 1, entry := none } := by
  have hb := State.bucket_setBucket_of_wf (s := s) (b := b) (v := clearSlot (s.bucket b) i) h
  refine ⟨?_, fun b' j hne => ?_⟩
  · rw [hb]; simp [clearSlot, nextGeneration_eq]
  · by_cases h : b' = b
    · subst h
      have hj : j ≠ i := fun e => hne ⟨rfl, e⟩
      rw [hb]
      simp [clearSlot, Vector.getElem_set_ne, Fin.val_ne_of_ne (Ne.symm hj)]
    · rw [State.bucket_setBucket_ne h]

/-! ### Occupancy -/

/-- A change of occupancy that no port watches sets no flag (R26). -/
theorem State.changeOccupancy_unwatched (h : s.Unwatched) (k : Nat) : s.changeOccupancy k = { s with occupancy := k } := by
  unfold State.changeOccupancy
  have key : ∀ (ps : List PortNo) (t : State), t.Unwatched →
      ps.foldl (fun t p => if watched (t.port p).watchMode (t.port p).watchThreshold s.occupancy k = true
        then t.setFlag p .occupancy .none else t) t = t := by
    intro ps
    induction ps with
    | nil => intro t _; rfl
    | cons p ps ih =>
      intro t ht
      have hw : watched (t.port p).watchMode (t.port p).watchThreshold s.occupancy k = false := by rw [ht p]; rfl
      simp only [List.foldl_cons, hw, Bool.false_eq_true, if_false]
      exact ih t ht
  exact key _ _ h

end Sys2Proof.Machine
end

