-- ==== Sys2Proof/Laws/Lanes.lean ====
section
/-! SUPPORT. Lanes with nothing to write, to stall on or to close, the disposal of a chunk whose verdict the ring takes, the class
of a full window, and the retest. -/

namespace Sys2Proof.Machine

open Sys2Proof

variable {s : State} {n : LaneNo}

theorem State.lane_setLane_self (l : Lane) : (s.setLane n l).lane n = l := by simp

theorem State.setLane_lane : s.setLane n (s.lane n) = s := by
  unfold State.setLane State.lane
  congr 1
  exact Vector.set_getElem_self ..

theorem State.setLane_setLane (l l' : Lane) : (s.setLane n l).setLane n l' = s.setLane n l' := by
  simp [State.setLane, Vector.set_set]

theorem State.laneBecomes_setLane (l : Lane) : s.LaneBecomes (s.setLane n l) n l :=
  ⟨by simp, fun m hm => by simp [State.lane, State.setLane, Vector.getElem_set_ne, Fin.val_ne_of_ne (Ne.symm hm)]⟩

/-- A retest frees no lane when none waits for a container (R76). -/
theorem State.retest_none (h : s.NoneStarvedOfContainers) : s.retest = s := by
  unfold State.retest
  have : (s.lanes.map fun l =>
      if (l.stalls.noContainer && s.canTake l.owner) = true then { l with stalls := { l.stalls with noContainer := false } } else l) =
      s.lanes := by
    ext m hm
    have := h ⟨m, hm⟩
    simp only [State.lane, Fin.getElem_fin] at this
    simp [this]
  rw [this]

/-! ### Records and runs -/

/-- A lane with no record to write writes none. -/
theorem State.kick_none (h : (s.lane n).hasRecord = false) (k : Nat) : s.kick n k = s := by
  cases k with
  | zero => rfl
  | succ k =>
    unfold State.kick
    simp only [h, Bool.false_and, Bool.false_eq_true, if_false]
    split <;> rfl

theorem Lane.hasClosedRun_none {l : Lane} (h : l.run = none) : l.hasClosedRun = false := by simp [Lane.hasClosedRun, h]

/-- An ACTIVE lane at rest has no record to write. -/
theorem Lane.Quiet.hasRecord {l : Lane} (h : l.Quiet) : l.hasRecord = false := by
  have hr : l.hasClosedRun = false := by
    unfold Lane.hasClosedRun
    cases hl : l.run with
    | none => rfl
    | some r => exact h.run r hl
  have hd : l.due = none := by
    unfold Lane.due
    split
    · rfl
    · simp [h.active, h.journal]
  simp [Lane.hasRecord, h.active, hr, h.held, hd]

/-- A lane that waits with containers to settle has no record to write. -/
theorem Lane.hasRecord_waits {l : Lane} (hs : l.state = .checkpointing ∨ l.state = .closing) (hr : l.run = none) (hh : l.held = none)
    (hu : l.unsettled ≠ []) : l.hasRecord = false := by
  have hd : l.due = none := by
    unfold Lane.due
    rcases hs with hs | hs <;> simp [hr, hh, hs, hu]
  rcases hs with hs | hs <;> simp [Lane.hasRecord, hs, hh, hd, Lane.hasClosedRun_none hr]

theorem State.walkCheck_none (h : (s.lane n).state ≠ .aborting ∨ (s.lane n).unsettled ≠ [] ∨ (s.lane n).journal ≠ []) :
    s.walkCheck n = s := by
  unfold State.walkCheck
  rw [if_neg]
  rintro ⟨h1, h2, h3, -⟩
  rcases h with h | h | h
  · exact h h1
  · exact h h2
  · exact h h3

/-- A lane with no record to write and no walk to end goes on as it is. -/
theorem State.progress_none (h : (s.lane n).hasRecord = false)
    (hw : (s.lane n).state ≠ .aborting ∨ (s.lane n).unsettled ≠ [] ∨ (s.lane n).journal ≠ []) : s.progress n = s := by
  unfold State.progress
  rw [State.kick_none h, State.walkCheck_none hw]

theorem State.closeRun_none (h : (s.lane n).run = none) : s.closeRun n = s := by
  unfold State.closeRun
  rw [h]

/-- A stall of a lane without a run: the cause joins, and the grant ends (R63). -/
theorem State.stall_eq (h : (s.lane n).run = none) (cause : Stalls → Stalls) :
    s.stall n cause = s.setLane n { s.lane n with stalls := cause (s.lane n).stalls, grant := none } := by
  unfold State.stall
  rw [State.closeRun_none (by simp [State.modLane, h])]
  rfl

/-! ### Starving and grants -/

/-- A lane with an item or an ended chunk does not starve (R64). -/
theorem State.starveCheck_none (h : (s.lane n).items ≠ [] ∨ (s.lane n).chunk ≠ none) : s.starveCheck n = s := by
  unfold State.starveCheck
  rw [if_neg]
  rintro ⟨-, h1, h2, -⟩
  rcases h with h | h
  · exact h h1
  · exact h h2

/-- An ACTIVE lane with neither item nor chunk starves (R64). -/
theorem State.starveCheck_starves (ha : (s.lane n).state = .active) (hi : (s.lane n).items = []) (hc : (s.lane n).chunk = none)
    (hs : (s.lane n).stalls.starved = false) (hh : (s.lane n).held = none) (hr : (s.lane n).run = none) :
    s.starveCheck n =
      s.setLane n { s.lane n with stalls := { (s.lane n).stalls with starved := true }, grant := none } := by
  unfold State.starveCheck
  rw [if_pos ⟨ha, hi, hc, hs, by simp [hh]⟩, State.stall_eq hr]

theorem State.grantCheck_none (h : (s.lane n).grant = none) : s.grantCheck n = s := by
  unfold State.grantCheck State.modLane
  simp only [h]
  exact State.setLane_lane

/-! ### The disposal of a chunk -/

/-- A chunk disposed of by a lane whose ring takes the VERDICT, which joins no run, ends no window and fills no journal: the journal
place is written, the lane record takes the verdict, and the VERDICT is written (R66, R68). -/
theorem State.dispose_plain {p : PortNo} {c : Chunk} {r : Result} {q : Nat} (ho : (s.lane n).owner = some p)
    (hw : s.canWrite p = true) (hr : (s.lane n).run = none) (hh : (s.lane n).held = none) (hc : (s.lane n).cls = .cold)
    (hwin : (s.lane n).windowChunks < 255) (hg : (s.lane n).grant = none) (hi : (s.lane n).items ≠ [])
    (hs : (s.lane n).nextSeq = some q) (hq : q < 4294967295) (hj : (s.lane n).journal.length < 229375) :
    s.dispose n c r =
      ((s.writeJournalPlace n (s.lane n).journal.length).setLane n
        ((s.lane n).disposed q (journalEntry q c r) (decide (r.kind = .dup)))).ringPut p (.verdict (verdictOf n (s.lane n) q c r)) := by
  have e1 : s.journalChunk n q c r =
      (s.writeJournalPlace n (s.lane n).journal.length).setLane n
        { s.lane n with nextSeq := some (q + 1), journal := (s.lane n).journal ++ [journalEntry q c r] } := by
    unfold State.journalChunk
    have h1 : (s.lane n).journal.length + 1 ≠ Config.journalHigh := by simp only [Config.journalHigh]; omega
    have h2 : q ≠ Config.max32 := by simp only [Config.max32]; omega
    simp only [h1, h2, if_false]
    rfl
  have e2 : ∀ (t : State) (l : Lane), l.cls = .cold → l.windowChunks < 255 → ∀ dup,
      (t.setLane n l).countVerdict n dup =
        t.setLane n { l with windowChunks := l.windowChunks + 1, windowDups := l.windowDups + bit dup } := by
    intro t l h1 h2 dup
    have h3 : l.windowChunks + 1 ≠ 256 := by omega
    unfold State.countVerdict
    simp [h1, State.modLane, Lane.count, h3, State.setLane_setLane]
  unfold State.dispose
  simp only [hs, Option.getD_some, e1]
  rw [e2 _ _ (by exact hc) (by exact hwin)]
  simp only [State.modLane, State.lane_setLane_self, State.setLane_setLane]
  have e3 : ∀ (t : State) (l : Lane) (v : Verdict), t.canWrite p = true → l.owner = some p → l.run = none → l.held = none →
      l.cls = .cold → (t.setLane n l).report n v = (t.setLane n l).ringPut p (.verdict v) := by
    intro t l v h1 h2 h3 h4 h5
    unfold State.report
    rw [if_neg (by simp [Lane.joinsRun, h5]), State.closeRun_none (by simpa using h3)]
    unfold State.writeVerdict State.mayWrite
    have h1' : (t.setLane n l).canWrite p = true := h1
    simp [h2, h1', h3, h4]
  have hw' : (s.writeJournalPlace n (s.lane n).journal.length).canWrite p = true := hw
  rw [e3 _ _ _ hw' (by exact ho) (by exact hr) (by exact hh) (by exact hc)]
  have e4 : ∀ (t : State) (l : Lane) (v : Response), l.items ≠ [] → l.grant = none →
      (((t.setLane n l).ringPut p v).starveCheck n).grantCheck n = (t.setLane n l).ringPut p v := by
    intro t l v h1 h2
    have hl : ((t.setLane n l).ringPut p v).lane n = l := by simp
    rw [State.starveCheck_none (.inl (by rw [hl]; exact h1)), State.grantCheck_none (by rw [hl]; exact h2)]
  rw [e4 _ _ _ (by exact hi) (by exact hg)]
  rfl

/-! ### Class windows and retests -/

/-- The class a full window is judged to have (R70, R71). -/
theorem Lane.judge_windowClass (l : Lane) (d : Nat) :
    { l with windowChunks := 0, windowDups := 0 }.judge (windowClass d) = l.judged d := by
  have hw : windowClass d = if d ≤ 63 then .cold else if d ≤ 191 then .mixed else .hot := by
    simp only [windowClass, show d < 64 ↔ d ≤ 63 by omega, show d < 192 ↔ d ≤ 191 by omega]
  unfold Lane.judge Lane.judged
  rw [hw]
  generalize (if d ≤ 63 then LaneClass.cold else if d ≤ 191 then .mixed else .hot) = w
  by_cases h : w = l.cls
  · simp [h]
  · by_cases hc : l.candidate = some w
    · by_cases ha : l.agreement = 2 <;> simp [h, hc, ha]
    · simp [h, hc]

theorem Lane.noContainer_false {l : Lane} (h : l.stalls.noContainer = false) :
    { l with stalls := { l.stalls with noContainer := false } } = l := by rw [← h]

/-- What a retest does to a lane (R76). -/
theorem State.retest_lane (m : LaneNo) : s.retest.lane m = s.retestedLane s.table.length (s.lane m) := by
  have hc : s.canTake (s.lane m).owner = true ↔ s.counter ≤ 4294967295 ∧ s.table.length < 256 ∧
      ∃ p, (s.lane m).owner = some p ∧ (s.port p).notices.length < 256 := by
    cases ho : (s.lane m).owner with
    | none => simp [State.canTake]
    | some p =>
      simp only [State.canTake, Bool.and_eq_true, decide_eq_true_eq, and_assoc, Option.some.injEq, exists_eq_left']
      exact Iff.rfl
  have hl : s.retest.lane m =
      if (s.lane m).stalls.noContainer && s.canTake (s.lane m).owner then
        { s.lane m with stalls := { (s.lane m).stalls with noContainer := false } } else s.lane m := by
    simp [State.retest, State.lane]
  rw [hl, State.retestedLane]
  by_cases h : s.canTake (s.lane m).owner = true
  · rw [if_pos (hc.mp h), h, Bool.and_true]
    split
    · rfl
    · next hn => exact (Lane.noContainer_false (by simpa using hn)).symm
  · rw [if_neg (hc.not.mp h)]
    simp [h]

end Sys2Proof.Machine
end

