-- ==== Sys2Proof/WellFormed.lean ====
section
/-! DEFINITION. When a command's operands are values the part can meet. The port, lane and record operands are well formed by
their types; the checks below bound the rest. -/

namespace Sys2Proof

/-- An error lies at a place that exists: one of the 4,194,304 buckets (R1) or one of a journal's 262,144 places (R98). -/
def DramError.wf (e : DramError) : Bool :=
  match e.place with
  | .bucket b => decide (b < Config.buckets)
  | .journal _ k => decide (k < Config.journalSlots)

/-- Every error of a list lies at a place that exists. -/
def dramErrorsWf (errs : List DramError) : Bool := errs.all DramError.wf

/-- A command is well formed: its DRAM errors lie at places that exist, a consumer-index write carries a 32-bit value, and a
container number is one the counter can give, 1 to 4,294,967,295 (R74). -/
def Instr.wf (i : Instr) : Bool :=
  match i with
  | .consumerIndexWrite _ v errs => decide (v ≤ Config.max32) && dramErrorsWf errs
  | .settleDeadlineExpiry c errs => decide (1 ≤ c) && decide (c ≤ Config.max32) && dramErrorsWf errs
  | .waiterCompletion c errs => decide (1 ≤ c) && decide (c ≤ Config.max32) && dramErrorsWf errs
  | .detach _ errs | .readJournal _ errs | .settle _ errs | .releaseDecrement _ errs | .insert _ errs
  | .queryByFingerprint _ errs | .queryByChunkId _ errs | .epochAdvance _ errs | .epochThaw _ errs
  | .propose _ errs | .consent _ errs | .linkReset _ errs | .dmaFailure _ _ errs | .watchdogExpiry _ errs
  | .epochTimerExpiry errs | .sweepEndRequest errs | .bucketExamination errs | .lookup _ errs
  | .abortWithdrawal _ errs | .walkStep _ errs => dramErrorsWf errs
  | .powerOn | .initialisationEnd | .commandWrite _ _ | .commandRemovedUnattached _ | .unknownCommandKind _
  | .attach _ | .openLane _ | .feed _ | .mark _ | .setLaneWeight _ | .laneStatus _ | .abortLane _ | .adoptLane _
  | .release _ | .epochFreeze _ | .holdPlace _ | .holdLift _ | .holdList _ | .sweepStart _ | .sweepStop _
  | .withdraw _ | .readAttention _ | .deviceStatus _ | .orphanLimitExpiry _ | .consentDeadlineExpiry | .startRequest
  | .engineGrant | .byteTaken _ _ | .cutReached _ | .tagReached _ | .checkpointReached _ | .endReached _ => true

end Sys2Proof
end

