-- ==== Sys2Proof/Laws/PerInstr.lean ====
section
/-! SUPPORT. Statements about every command, one lemma for each constructor: what well-formedness asks of its operands. -/

namespace Sys2Proof.Laws

open Sys2Proof

/-- The DRAM errors a command carries. -/
def errsOf : Instr → List DramError
  | .consumerIndexWrite _ _ errs => errs
  | .detach _ errs => errs
  | .readJournal _ errs => errs
  | .settle _ errs => errs
  | .releaseDecrement _ errs => errs
  | .insert _ errs => errs
  | .queryByFingerprint _ errs => errs
  | .queryByChunkId _ errs => errs
  | .epochAdvance _ errs => errs
  | .epochThaw _ errs => errs
  | .propose _ errs => errs
  | .consent _ errs => errs
  | .linkReset _ errs => errs
  | .dmaFailure _ _ errs => errs
  | .watchdogExpiry _ errs => errs
  | .settleDeadlineExpiry _ errs => errs
  | .epochTimerExpiry errs => errs
  | .sweepEndRequest errs => errs
  | .bucketExamination errs => errs
  | .lookup _ errs => errs
  | .waiterCompletion _ errs => errs
  | .abortWithdrawal _ errs => errs
  | .walkStep _ errs => errs
  | .powerOn | .initialisationEnd | .commandWrite _ _ | .commandRemovedUnattached _ | .unknownCommandKind _ | .attach _ |
    .openLane _ | .feed _ | .mark _ | .setLaneWeight _ | .laneStatus _ | .abortLane _ | .adoptLane _ | .release _ |
    .epochFreeze _ | .holdPlace _ | .holdLift _ | .holdList _ | .sweepStart _ | .sweepStop _ | .withdraw _ | .readAttention _
    | .deviceStatus _ | .orphanLimitExpiry _ | .consentDeadlineExpiry | .startRequest | .engineGrant | .byteTaken _ _ |
    .cutReached _ | .tagReached _ | .checkpointReached _ | .endReached _ => []

/-- The number operands a command carries lie in their ranges: a consumer index is a 32-bit value, a container number one that the
counter gives (R74, R178). -/
def NumbersInRange : Instr → Prop
  | .consumerIndexWrite _ v _ => v ≤ 4294967295
  | .settleDeadlineExpiry c _ => 1 ≤ c ∧ c ≤ 4294967295
  | .waiterCompletion c _ => 1 ≤ c ∧ c ≤ 4294967295
  | .powerOn | .initialisationEnd | .commandWrite _ _ | .commandRemovedUnattached _ | .unknownCommandKind _ | .attach _ |
    .detach _ _ | .openLane _ | .feed _ | .mark _ | .setLaneWeight _ | .laneStatus _ | .abortLane _ | .adoptLane _ |
    .readJournal _ _ | .settle _ _ | .release _ | .releaseDecrement _ _ | .insert _ _ | .queryByFingerprint _ _ |
    .queryByChunkId _ _ | .epochAdvance _ _ | .epochFreeze _ | .epochThaw _ _ | .holdPlace _ | .holdLift _ | .holdList _ |
    .sweepStart _ | .sweepStop _ | .propose _ _ | .consent _ _ | .withdraw _ | .readAttention _ | .deviceStatus _ | .linkReset
    _ _ | .dmaFailure _ _ _ | .watchdogExpiry _ _ | .orphanLimitExpiry _ | .epochTimerExpiry _ | .consentDeadlineExpiry |
    .sweepEndRequest _ | .startRequest | .bucketExamination _ | .engineGrant | .byteTaken _ _ | .cutReached _ | .tagReached _
    | .checkpointReached _ | .endReached _ | .lookup _ _ | .abortWithdrawal _ _ | .walkStep _ _ => True

/-- A command is well formed exactly when its numbers lie in their ranges and its DRAM errors at a bucket below 4,194,304 or a
journal place below 262,144 (R1, R98). -/
def OperandsWf.Statement (i : Instr) : Prop :=
  i.wf = true ↔ NumbersInRange i ∧ ∀ e ∈ errsOf i,
    (∀ b, e.place = .bucket b → b < 4194304) ∧ (∀ n k, e.place = .journal n k → k < 262144)

theorem dramError_wf_iff (e : DramError) :
    e.wf = true ↔ (∀ b, e.place = .bucket b → b < 4194304) ∧ (∀ n k, e.place = .journal n k → k < 262144) := by
  unfold DramError.wf
  cases h : e.place <;> simp [Config.buckets, Config.journalSlots] <;> exact decide_eq_true_iff

theorem dramErrorsWf_iff (errs : List DramError) :
    dramErrorsWf errs = true ↔ ∀ e ∈ errs,
      (∀ b, e.place = .bucket b → b < 4194304) ∧ (∀ n k, e.place = .journal n k → k < 262144) := by
  simp only [dramErrorsWf, List.all_eq_true, dramError_wf_iff]

theorem operandsWf_plain {i : Instr} (hw : i.wf = true) (hn : NumbersInRange i) (he : errsOf i = []) : OperandsWf.Statement i := by
  simp [OperandsWf.Statement, hw, hn, he]

theorem operandsWf_errs {i : Instr} (hw : i.wf = dramErrorsWf (errsOf i)) (hn : NumbersInRange i) : OperandsWf.Statement i := by
  rw [OperandsWf.Statement, hw, dramErrorsWf_iff]
  exact (and_iff_right hn).symm

theorem OperandsWf.powerOn : OperandsWf.Statement (.powerOn) :=
  operandsWf_plain rfl trivial rfl

theorem OperandsWf.initialisationEnd : OperandsWf.Statement (.initialisationEnd) :=
  operandsWf_plain rfl trivial rfl

theorem OperandsWf.commandWrite (port : PortNo) (record : CommandRecord) : OperandsWf.Statement (.commandWrite port record) :=
  operandsWf_plain rfl trivial rfl

theorem OperandsWf.consumerIndexWrite (port : PortNo) (value : Nat) (errs : List DramError) : OperandsWf.Statement (.consumerIndexWrite port value errs) := by
  simp only [OperandsWf.Statement, Instr.wf, Bool.and_eq_true, decide_eq_true_eq, dramErrorsWf_iff]
  rfl

theorem OperandsWf.commandRemovedUnattached (port : PortNo) : OperandsWf.Statement (.commandRemovedUnattached port) :=
  operandsWf_plain rfl trivial rfl

theorem OperandsWf.unknownCommandKind (port : PortNo) : OperandsWf.Statement (.unknownCommandKind port) :=
  operandsWf_plain rfl trivial rfl

theorem OperandsWf.attach (port : PortNo) : OperandsWf.Statement (.attach port) :=
  operandsWf_plain rfl trivial rfl

theorem OperandsWf.detach (port : PortNo) (errs : List DramError) : OperandsWf.Statement (.detach port errs) :=
  operandsWf_errs rfl trivial

theorem OperandsWf.openLane (port : PortNo) : OperandsWf.Statement (.openLane port) :=
  operandsWf_plain rfl trivial rfl

theorem OperandsWf.feed (port : PortNo) : OperandsWf.Statement (.feed port) :=
  operandsWf_plain rfl trivial rfl

theorem OperandsWf.mark (port : PortNo) : OperandsWf.Statement (.mark port) :=
  operandsWf_plain rfl trivial rfl

theorem OperandsWf.setLaneWeight (port : PortNo) : OperandsWf.Statement (.setLaneWeight port) :=
  operandsWf_plain rfl trivial rfl

theorem OperandsWf.laneStatus (port : PortNo) : OperandsWf.Statement (.laneStatus port) :=
  operandsWf_plain rfl trivial rfl

theorem OperandsWf.abortLane (port : PortNo) : OperandsWf.Statement (.abortLane port) :=
  operandsWf_plain rfl trivial rfl

theorem OperandsWf.adoptLane (port : PortNo) : OperandsWf.Statement (.adoptLane port) :=
  operandsWf_plain rfl trivial rfl

theorem OperandsWf.readJournal (port : PortNo) (errs : List DramError) : OperandsWf.Statement (.readJournal port errs) :=
  operandsWf_errs rfl trivial

theorem OperandsWf.settle (port : PortNo) (errs : List DramError) : OperandsWf.Statement (.settle port errs) :=
  operandsWf_errs rfl trivial

theorem OperandsWf.release (port : PortNo) : OperandsWf.Statement (.release port) :=
  operandsWf_plain rfl trivial rfl

theorem OperandsWf.releaseDecrement (work : ReleaseRef) (errs : List DramError) : OperandsWf.Statement (.releaseDecrement work errs) :=
  operandsWf_errs rfl trivial

theorem OperandsWf.insert (port : PortNo) (errs : List DramError) : OperandsWf.Statement (.insert port errs) :=
  operandsWf_errs rfl trivial

theorem OperandsWf.queryByFingerprint (port : PortNo) (errs : List DramError) : OperandsWf.Statement (.queryByFingerprint port errs) :=
  operandsWf_errs rfl trivial

theorem OperandsWf.queryByChunkId (port : PortNo) (errs : List DramError) : OperandsWf.Statement (.queryByChunkId port errs) :=
  operandsWf_errs rfl trivial

theorem OperandsWf.epochAdvance (port : PortNo) (errs : List DramError) : OperandsWf.Statement (.epochAdvance port errs) :=
  operandsWf_errs rfl trivial

theorem OperandsWf.epochFreeze (port : PortNo) : OperandsWf.Statement (.epochFreeze port) :=
  operandsWf_plain rfl trivial rfl

theorem OperandsWf.epochThaw (port : PortNo) (errs : List DramError) : OperandsWf.Statement (.epochThaw port errs) :=
  operandsWf_errs rfl trivial

theorem OperandsWf.holdPlace (port : PortNo) : OperandsWf.Statement (.holdPlace port) :=
  operandsWf_plain rfl trivial rfl

theorem OperandsWf.holdLift (port : PortNo) : OperandsWf.Statement (.holdLift port) :=
  operandsWf_plain rfl trivial rfl

theorem OperandsWf.holdList (port : PortNo) : OperandsWf.Statement (.holdList port) :=
  operandsWf_plain rfl trivial rfl

theorem OperandsWf.sweepStart (port : PortNo) : OperandsWf.Statement (.sweepStart port) :=
  operandsWf_plain rfl trivial rfl

theorem OperandsWf.sweepStop (port : PortNo) : OperandsWf.Statement (.sweepStop port) :=
  operandsWf_plain rfl trivial rfl

theorem OperandsWf.propose (port : PortNo) (errs : List DramError) : OperandsWf.Statement (.propose port errs) :=
  operandsWf_errs rfl trivial

theorem OperandsWf.consent (port : PortNo) (errs : List DramError) : OperandsWf.Statement (.consent port errs) :=
  operandsWf_errs rfl trivial

theorem OperandsWf.withdraw (port : PortNo) : OperandsWf.Statement (.withdraw port) :=
  operandsWf_plain rfl trivial rfl

theorem OperandsWf.readAttention (port : PortNo) : OperandsWf.Statement (.readAttention port) :=
  operandsWf_plain rfl trivial rfl

theorem OperandsWf.deviceStatus (port : PortNo) : OperandsWf.Statement (.deviceStatus port) :=
  operandsWf_plain rfl trivial rfl

theorem OperandsWf.linkReset (port : PortNo) (errs : List DramError) : OperandsWf.Statement (.linkReset port errs) :=
  operandsWf_errs rfl trivial

theorem OperandsWf.dmaFailure (port : PortNo) (access : DmaAccess) (errs : List DramError) : OperandsWf.Statement (.dmaFailure port access errs) :=
  operandsWf_errs rfl trivial

theorem OperandsWf.watchdogExpiry (port : PortNo) (errs : List DramError) : OperandsWf.Statement (.watchdogExpiry port errs) :=
  operandsWf_errs rfl trivial

theorem OperandsWf.settleDeadlineExpiry (container : Nat) (errs : List DramError) : OperandsWf.Statement (.settleDeadlineExpiry container errs) := by
  simp only [OperandsWf.Statement, Instr.wf, Bool.and_eq_true, decide_eq_true_eq, dramErrorsWf_iff]
  rfl

theorem OperandsWf.orphanLimitExpiry (lane : LaneNo) : OperandsWf.Statement (.orphanLimitExpiry lane) :=
  operandsWf_plain rfl trivial rfl

theorem OperandsWf.epochTimerExpiry (errs : List DramError) : OperandsWf.Statement (.epochTimerExpiry errs) :=
  operandsWf_errs rfl trivial

theorem OperandsWf.consentDeadlineExpiry : OperandsWf.Statement (.consentDeadlineExpiry) :=
  operandsWf_plain rfl trivial rfl

theorem OperandsWf.sweepEndRequest (errs : List DramError) : OperandsWf.Statement (.sweepEndRequest errs) :=
  operandsWf_errs rfl trivial

theorem OperandsWf.startRequest : OperandsWf.Statement (.startRequest) :=
  operandsWf_plain rfl trivial rfl

theorem OperandsWf.bucketExamination (errs : List DramError) : OperandsWf.Statement (.bucketExamination errs) :=
  operandsWf_errs rfl trivial

theorem OperandsWf.engineGrant : OperandsWf.Statement (.engineGrant) :=
  operandsWf_plain rfl trivial rfl

theorem OperandsWf.byteTaken (lane : LaneNo) (byte : Byte) : OperandsWf.Statement (.byteTaken lane byte) :=
  operandsWf_plain rfl trivial rfl

theorem OperandsWf.cutReached (lane : LaneNo) : OperandsWf.Statement (.cutReached lane) :=
  operandsWf_plain rfl trivial rfl

theorem OperandsWf.tagReached (lane : LaneNo) : OperandsWf.Statement (.tagReached lane) :=
  operandsWf_plain rfl trivial rfl

theorem OperandsWf.checkpointReached (lane : LaneNo) : OperandsWf.Statement (.checkpointReached lane) :=
  operandsWf_plain rfl trivial rfl

theorem OperandsWf.endReached (lane : LaneNo) : OperandsWf.Statement (.endReached lane) :=
  operandsWf_plain rfl trivial rfl

theorem OperandsWf.lookup (lane : LaneNo) (errs : List DramError) : OperandsWf.Statement (.lookup lane errs) :=
  operandsWf_errs rfl trivial

theorem OperandsWf.waiterCompletion (container : Nat) (errs : List DramError) : OperandsWf.Statement (.waiterCompletion container errs) := by
  simp only [OperandsWf.Statement, Instr.wf, Bool.and_eq_true, decide_eq_true_eq, dramErrorsWf_iff]
  rfl

theorem OperandsWf.abortWithdrawal (lane : LaneNo) (errs : List DramError) : OperandsWf.Statement (.abortWithdrawal lane errs) :=
  operandsWf_errs rfl trivial

theorem OperandsWf.walkStep (lane : LaneNo) (errs : List DramError) : OperandsWf.Statement (.walkStep lane errs) :=
  operandsWf_errs rfl trivial

end Sys2Proof.Laws
end

