-- ==== Sys2Proof/Tests/Slice0.lean ====
section
/-! SUPPORT. The author's own tests: well-formedness, the spec's worked values, one step of commands and events, and for each
statement with hypotheses a concrete state and operands that meet them. -/

namespace Sys2Proof.Tests

set_option Elab.async false

open Sys2Proof Sys2Proof.Machine

/-! ### Small states -/

/-- A command record from its first bytes; the rest are zero. -/
def recordOf (bs : List Nat) : CommandRecord := Vector.ofFn fun i => BitVec.ofNat 8 (bs.getD i.val 0)

/-- A summary with one flag set. -/
def loud : Summary := Summary.empty.raise .queueOverrun

/-- An ATTACHED port with a ring of 256, a queue of commands and a flag set. -/
def unit (queue : List CommandRecord) : Port :=
  { Port.reset with
      state := .attached, queue := queue, ring := some { address := 4096, size := 256 }, watchdog := some 1000, period := 1000,
      summary := loud }

/-- The device in SERVICE, with port 0 attached. -/
def serving : State :=
  { State.reset with
      initialising := false, now := 5000, device := .service, ports := #v[unit [], Port.reset, Port.reset, Port.reset] }

/-- Ports 0 and 1 attached. -/
def both : State := { serving with ports := #v[unit [], unit [], Port.reset, Port.reset] }

/-- The state with one command in port 0's queue. -/
def asked (s : State) (bs : List Nat) : State := s.modPort 0 fun q => { q with queue := [recordOf bs] }

/-- The state after a step that answers one. -/
def after (c : Instr) (s : State) : State :=
  match exec c s with
  | .next t => t
  | .fault _ => State.reset
  | .refused _ => State.reset

/-- The bytes of a record of port 0's ring from an offset on. -/
def ringBytes (s : State) (position offset count : Nat) : List Nat :=
  (((s.ringRecord 0 position).drop offset).take count).map BitVec.toNat

/-- An ACTIVE lane of port 0 with a DATA item of 100 bytes at its head. -/
def laneOn : Lane := { Lane.free with state := .active, owner := some 0, items := [.data 65536 100 0] }

/-- A fingerprint that begins #00 #00 #14, of bucket 5 (R2). -/
def printOf (last : Nat) : List Byte := [0, 0, 20] ++ List.replicate 28 0 ++ [BitVec.ofNat 8 last]

/-- A LIVE entry of bucket 5. -/
def liveEntry (last count : Nat) : Entry :=
  { fingerprint := printOf last, check := 7, state := .live, count := count, container := 9, offset := 64, length := 100, birth := 1,
    lastRef := 1 }

/-- Bucket 5 with an entry in slot 0. -/
def bucketWith (x : Entry) : Bucket := putEntry Bucket.untouched 0 x

/-- The state with that bucket 5. -/
def holding (s : State) (x : Entry) : State := { s with index := [(5, bucketWith x)], occupancy := 1 }

/-- An ended chunk of bucket 5 whose check word is 7. -/
def chunkOf (last : Nat) : Chunk :=
  { length := 100, first := 0, fingerprint := printOf last, check := 7, cut := .content, waited := false }

/-! ### Well-formedness: one ill-formed command for each check -/

theorem test_wf_consumer_index : (Instr.consumerIndexWrite 0 4294967296 []).wf = false := by decide

theorem test_wf_bucket : (Instr.lookup 0 [{ place := .bucket 4194304, error := .single }]).wf = false := by decide

theorem test_wf_journal_place : (Instr.walkStep 0 [{ place := .journal 0 262144, error := .single }]).wf = false := by decide

theorem test_wf_container_zero : (Instr.settleDeadlineExpiry 0 []).wf = false := by decide

theorem test_wf_container_large : (Instr.waiterCompletion 4294967296 []).wf = false := by decide

theorem test_wf_limits : (Instr.settleDeadlineExpiry 4294967295 [{ place := .bucket 4194303, error := .single }]).wf = true := by
  decide

/-! ### Values the spec works out -/

/-- R40: the fingerprint of "abc". -/
theorem test_digest_abc :
    ([0x61, 0x62, 0x63].foldl DigestState.take DigestState.start).finish 3 =
      [0xBA, 0x78, 0x16, 0xBF, 0x8F, 0x01, 0xCF, 0xEA, 0x41, 0x41, 0x40, 0xDE, 0x5D, 0xAE, 0x22, 0x23, 0xB0, 0x03, 0x61, 0xA3,
       0x96, 0x17, 0x7A, 0x9C, 0xB4, 0x10, 0xFF, 0x61, 0xF2, 0x00, 0x15, 0xAD] := by decide +kernel

/-- R41: the check word of "123456789". -/
theorem test_check_word :
    crcFinish ([0x31, 0x32, 0x33, 0x34, 0x35, 0x36, 0x37, 0x38, 0x39].foldl crcTake crcStart) = 0xE3069283 := by decide +kernel

/-- R3: ID 1,359,874 decodes as bucket 5, slot 3 and generation 2. -/
theorem test_decode_id : decodeId 1359874 = { bucket := 5, slot := 3, generation := 2 } := by decide

/-- R2: a fingerprint that begins #00 #00 #14 falls in bucket 5. -/
theorem test_bucket_of : bucketOf (printOf 1) = 5 := by decide

/-- R28: the roll factor of a window of 4. -/
theorem test_roll_factor : rollFactor { window := 4, exponent := 4, minimum := 8, maximum := 32, seed := 0 } = 18191447 := by decide

/-- R32: the window #41 #42 #43 #44. -/
theorem test_direct_hash : directHash [65, 66, 67, 68] = 1187026898 := by decide

/-- R33: the roll to #45. -/
theorem test_rolled_hash : rolledHash 1187026898 18191447 65 69 = 1205287778 := by decide

/-- R33: a roll whose subtraction wraps. -/
theorem test_rolled_hash_wraps : rolledHash 12590 18191447 236 9 = 472977631 := by decide

/-- 11_record_formats: the REF entry of sequence 1,445 for chunk ID 1,310,721 with length 8,192. -/
theorem test_journal_bytes :
    journalBytes { seq := 1445, what := .ref 1310721, length := 8192 } =
      [0xA5, 0x05, 0, 0, 0, 0, 0x20, 0, 1, 0, 0x14, 0, 0, 0, 0, 0] := by decide

/-- R70, R71: the last two of the windows of lane 22, whose duplicates are 230 and 201. -/
theorem test_class_becomes_hot :
    (({ Lane.free with candidate := some .hot, agreement := 1 }.judge (windowClass 230)).judge (windowClass 201)).cls = .hot := by
  decide

/-- R28: Profile (8, 4, 8, 16, 0) is valid, and one with W = 4 and m = 7 is not. -/
theorem test_profile_ranges :
    ({ window := 8, exponent := 4, minimum := 8, maximum := 16, seed := 0 } : Profile).valid = true ∧
      ({ window := 4, exponent := 4, minimum := 7, maximum := 16, seed := 0 } : Profile).valid = false := by decide

/-! ### One step -/

/-- R187: at power-on the initialisation begins, at epoch 1 and counter 1. -/
theorem test_power_on : (after .powerOn serving).initialising = true ∧ (after .powerOn serving).device = .rebuild := by
  decide +kernel

/-- R187: after the initialisation the device is in REBUILD. -/
theorem test_initialisation_end :
    (after .initialisationEnd State.reset).device = .rebuild ∧ (after .initialisationEnd State.reset).initialising = false := by
  decide +kernel

/-- R172: the 65th record is dropped, and QUEUE_OVERRUN gains its again-mark. -/
theorem test_command_write_overrun :
    let s := serving.setPort 0 (unit (List.replicate 64 (recordOf [])))
    ((after (.commandWrite 0 (recordOf [1])) s).port 0).queue.length = 64 ∧
      ((after (.commandWrite 0 (recordOf [1])) s).port 0).summary.mark .queueOverrun = .again := by decide +kernel

/-- 09, "a ring that fills", step 5: consumer index 14 lets the completion at 11 and the notice queue's record at 12 be written. -/
theorem test_consumer_index_grants :
    let s := serving.setPort 0 { unit [] with
      producer := 11, consumer := 12, waiting := [.command, .attention], attnHeld := true
      hand := some (.completion { kind := 14, tag := 5, outcome := .ok, fields := [] } false) }
    ((after (.consumerIndexWrite 0 14 []) s).port 0).producer = 13 ∧
      ringBytes (after (.consumerIndexWrite 0 14 []) s) 11 0 4 = [1, 1, 5, 0] ∧
      ringBytes (after (.consumerIndexWrite 0 14 []) s) 12 0 1 = [7] := by decide +kernel

/-- R174: a FEED to a FAILSAFE port is removed. -/
theorem test_removed_unattached :
    ((after (.commandRemovedUnattached 1) (serving.modPort 1 fun q =>
      { q with state := .failsafe, queue := [recordOf [4]] })).port 1).queue = [] := by decide +kernel

/-- R195: kind #1C is answered BAD_PARAM, its kind and tag echoed. -/
theorem test_unknown_kind :
    ringBytes (after (.unknownCommandKind 0) (asked serving [0x1C, 0, 7, 1])) 0 0 10 = [1, 1, 7, 1, 0, 0, 0, 0, 0x1C, 2] := by
  decide +kernel

/-- R175: a port attaches with a ring of 256 at #1000, a period of 1,000 ms and no watch. -/
theorem test_attach :
    let s := serving.setPort 1 { Port.reset with
      queue := [recordOf [1, 0, 9, 0, 0, 0x10, 0, 0, 0, 0, 0, 0, 0, 1, 0, 0, 0xE8, 3, 0, 0, 0, 0, 0, 0, 0]] }
    ((after (.attach 1) s).port 1).state = .attached ∧ ((after (.attach 1) s).port 1).watchdog = some 1000 ∧
      ((after (.attach 1) s).port 1).producer = 1 := by decide +kernel

/-- R176: a port that owns nothing detaches. -/
theorem test_detach : ((after (.detach 0 []) (asked serving [2])).port 0).state = .detached := by decide +kernel

/-- R51: the lowest FREE lane opens ACTIVE and STARVED with the weight carried. -/
theorem test_open_lane :
    ((after (.openLane 0) (asked serving [3, 0, 0, 0, 0, 0, 0, 15, 0])).lane 0).weight = 15 ∧
      ((after (.openLane 0) (asked serving [3, 0, 0, 0, 0, 0, 0, 15, 0])).lane 0).stalls.starved = true := by decide +kernel

/-- R52, R64: a FEED of 40 bytes joins the queue and removes STARVED. -/
theorem test_feed :
    let s := asked (serving.setLane 2 { laneOn with items := [], stalls := { Stalls.clear with starved := true } })
      [4, 0, 0, 0, 2, 0, 0, 0, 0, 0, 1, 0, 0, 0, 0, 0, 40, 0, 0, 0]
    ((after (.feed 0) s).lane 2).items = [.data 65536 40 0] ∧ ((after (.feed 0) s).lane 2).stalls.starved = false := by
  decide +kernel

/-- R52: a MARK behind an END is refused. -/
theorem test_mark_behind_end :
    ringBytes (after (.mark 0) (asked (serving.setLane 2 { laneOn with items := [.finish] }) [5, 0, 0, 0, 2, 0])) 0 8 2 = [5, 3] := by
  decide +kernel

/-- R58: weight 9 is staged, and the active weight stays. -/
theorem test_set_lane_weight :
    let s := asked (serving.setLane 2 laneOn) [6, 0, 0, 0, 2, 9]
    ((after (.setLaneWeight 0) s).lane 2).staged = some 9 ∧ ((after (.setLaneWeight 0) s).lane 2).weight = 1 := by decide +kernel

/-- R59: the record of a FREE lane is its number and state. -/
theorem test_lane_status :
    ringBytes (after (.laneStatus 0) (asked serving [7, 0, 0, 0, 63])) 0 8 6 = [7, 0, 0, 0, 63, 0] := by decide +kernel

/-- R108, R109: an aborted lane with containers to withdraw is ABORTING, its items gone. -/
theorem test_abort_lane :
    let s := asked (serving.setLane 2 { laneOn with unsettled := [4] }) [8, 0, 0, 0, 2]
    ((after (.abortLane 0) s).lane 2).state = .aborting ∧ ((after (.abortLane 0) s).lane 2).items = [] := by decide +kernel

/-- R166: a lane whose orphan limit has expired is LATE to an adopter. -/
theorem test_adopt_late :
    ringBytes (after (.adoptLane 0) (asked { serving with expired := serving.expired.set 2 true } [9, 0, 0, 0, 2])) 0 8 2 = [9, 8] := by
  decide +kernel

/-- R116: a journal of one entry is returned with its count and its oldest sequence. -/
theorem test_read_journal :
    let s := asked (serving.setLane 2 { laneOn with journal := [{ seq := 1445, what := .ref 1310721, length := 8192 }] })
      [10, 0, 0, 0, 2]
    ringBytes (after (.readJournal 0 []) s) 0 12 17 = [2, 1, 0, 0, 0, 0xA5, 5, 0, 0, 0xA5, 5, 0, 0, 0, 0, 0x20, 0] := by
  decide +kernel

/-- R84: a SETTLE of a number on the recently-withdrawn list is LATE, of any other UNKNOWN. -/
theorem test_settle_late :
    ringBytes (after (.settle 0 []) (asked (serving.modPort 0 fun q => { q with recent := [6] }) [11, 0, 0, 0, 6])) 0 8 2 = [11, 8] ∧
      ringBytes (after (.settle 0 []) (asked serving [11, 0, 0, 0, 6])) 0 8 2 = [11, 5] := by decide +kernel

/-- R114: a RELEASE of two IDs stays in hand with them. -/
theorem test_release :
    ((after (.release 0) (asked serving [12, 2, 0, 0, 0, 0, 0x14, 0, 0, 1, 0, 0x14, 0, 0])).port 0).hand =
      some (.release { tag := 0, ids := [1310720, 1310721], results := [] }) := by decide +kernel

/-- 01, "one slot through two lifetimes", step 5: the third reference given back leaves the entry ZERO. -/
theorem test_release_decrement :
    let s := (holding serving (liveEntry 1 1)).modPort 0 fun q =>
      { q with hand := some (.release { tag := 3, ids := [1310720], results := [.released, .released] }) }
    ((after (.releaseDecrement (.inHand 0) []) s).bucket 5)[0].entry.map (fun x => (x.count, x.state)) =
        some (0, .zero 1) ∧
      ringBytes (after (.releaseDecrement (.inHand 0) []) s) 0 12 4 = [3, 0, 0, 0] := by decide +kernel

/-- 01, "a full bucket, a collision and an INSERT", step 4: the count stops at 16,777,215, PINNED, and the counter is raised to
71. -/
theorem test_insert_pins :
    let s := asked (holding serving { liveEntry 1 16777214 with check := 0x1A2B3C4D })
      ([13, 0, 0, 0, 0x4D, 0x3C, 0x2B, 0x1A, 70, 0, 0, 0, 128, 0, 0, 0, 0x28, 0x23, 0, 0, 5, 0, 0, 0] ++ (printOf 1).map BitVec.toNat)
    ((after (.insert 0 []) s).bucket 5)[0].entry.map (fun x => (x.count, x.state)) = some (16777215, .pinned) ∧
      (after (.insert 0 []) s).counter = 71 := by decide +kernel

/-- R23: a QUERY of an unknown fingerprint. -/
theorem test_query_unknown :
    ringBytes (after (.queryByFingerprint 0 []) (asked serving [14, 0, 0, 0, 0])) 0 8 2 = [14, 5] := by decide +kernel

/-- R24: a QUERY of a stale ID answers STALE with the slot's generation. -/
theorem test_query_stale :
    ringBytes (after (.queryByChunkId 0 [])
      (asked (holding serving (liveEntry 1 1)) [14, 0, 0, 0, 1, 0, 0, 0, 9, 0, 0x14, 0, 0])) 0 8 8 = [14, 11, 0, 0, 0, 0, 0, 0] := by
  decide +kernel

/-- R117, R119: an advance from epoch 1 answers ADVANCED with epoch 2. -/
theorem test_epoch_advance :
    ringBytes (after (.epochAdvance 0 []) (asked serving [15])) 0 12 5 = [0, 2, 0, 0, 0] := by decide +kernel

/-- R123: while port 0 holds a freeze an advance is HELD. -/
theorem test_epoch_advance_held :
    ringBytes (after (.epochAdvance 0 []) (asked (serving.modPort 0 fun q => { q with freeze := true }) [15])) 0 12 7 =
      [2, 1, 0, 0, 0, 1, 1] := by decide +kernel

/-- R122: a freeze is reported in the mask of frozen ports. -/
theorem test_epoch_freeze : ringBytes (after (.epochFreeze 0) (asked serving [16])) 0 12 6 = [1, 0, 0, 0, 0, 1] := by decide +kernel

/-- R124: the last thaw takes the held advance before its completion. -/
theorem test_epoch_thaw :
    ringBytes (after (.epochThaw 0 []) (asked { serving.modPort 0 (fun q => { q with freeze := true }) with advancePending := true }
      [17])) 0 12 6 = [2, 0, 0, 0, 0, 0] := by decide +kernel

/-- R126: the first hold takes place 0. -/
theorem test_hold_place :
    (after (.holdPlace 0) (asked serving [18, 0, 0, 0, 1, 0, 0, 0, 2, 0, 0, 0])).holds[0] =
      some { placer := 0, first := 1, last := 2, label := 0 } := by decide +kernel

/-- R127: hold number 16 names no place. -/
theorem test_hold_lift : ringBytes (after (.holdLift 0) (asked serving [19, 0, 0, 0, 16])) 0 8 2 = [19, 2] := by decide +kernel

/-- R128, R196: an empty table has no holds, a count of 0 to 16 in 2 bytes, and 16 as the next start number. -/
theorem test_hold_list :
    ringBytes (after (.holdList 0) (asked serving [20])) 0 12 2 = [0, 0] ∧
      ringBytes (after (.holdList 0) (asked serving [20])) 0 68 2 = [0, 16] := by decide +kernel

/-- R131: a sweep starts at bucket 0, for the port that asked. -/
theorem test_sweep_start :
    (after (.sweepStart 0) (asked { serving with scanner := { Scanner.reset with cursor := 9 } } [21])).scanner =
      { Scanner.reset with state := .scanning, requester := some 0 } := by decide +kernel

/-- R132: a stopped scanner keeps its cursor. -/
theorem test_sweep_stop :
    (after (.sweepStop 0) (asked { serving with scanner := { Scanner.reset with
      state := .scanning, cursor := 9, requester := some 0 } } [22])).scanner = { Scanner.reset with cursor := 9 } := by decide +kernel

/-- R147: with port 1 attached, a proposal waits for its consent. -/
theorem test_propose :
    (after (.propose 0 []) (asked both [23, 0, 0, 0, 4])).proposal.map Proposal.required = some [1] := by decide +kernel

/-- R150, R153: with no other port attached, SERVICE_START applies at once. -/
theorem test_propose_alone :
    (after (.propose 0 []) (asked { serving with device := .rebuild } [23, 0, 0, 0, 3])).device = .service := by decide +kernel

/-- R148: a differing copy rejects the proposal. -/
theorem test_consent_rejects :
    (after (.consent 0 []) (asked { both with
      proposal := some { body := .deviceReset, proposer := 1, required := [0], received := [], deadline := some 5 } }
      [24, 0, 0, 0, 3])).lastEnded =
      some { body := .deviceReset, outcome := .rejected } := by decide +kernel

/-- R149: WITHDRAW without a proposal is UNKNOWN. -/
theorem test_withdraw : ringBytes (after (.withdraw 0) (asked serving [25])) 0 8 2 = [25, 5] := by decide +kernel

/-- R184: the summary is read and emptied: QUEUE_OVERRUN is flag 13. -/
theorem test_read_attention :
    ringBytes (after (.readAttention 0) (asked serving [26])) 0 12 2 = [0, 0x20] ∧
      ((after (.readAttention 0) (asked serving [26])).port 0).summary = Summary.empty := by decide +kernel

/-- R185: SERVICE at epoch 1. -/
theorem test_device_status : ringBytes (after (.deviceStatus 0) (asked serving [27])) 0 12 5 = [1, 1, 0, 0, 0] := by decide +kernel

/-- R157, R158: a link reset brings an attached port to FAILSAFE at the present time. -/
theorem test_link_reset :
    ((after (.linkReset 0 []) serving).port 0).state = .failsafe ∧
      ((after (.linkReset 0 []) serving).port 0).failSafeTime = some 5000 := by decide +kernel

/-- R157: a failed ring write is lost and counted. -/
theorem test_dma_failure :
    (after (.dmaFailure 0 .ringWrite []) (after (.deviceStatus 0) (asked serving [27]))).discarded = 1 := by decide +kernel

/-- R156, R161: at its watchdog's expiry a port's lanes with action SUSPEND are ORPHANED. -/
theorem test_watchdog_expiry :
    ((after (.watchdogExpiry 0 []) ((serving.setLane 2 laneOn).modPort 0 fun q => { q with watchdog := some 0 })).lane 2).former =
      some 0 := by decide +kernel

/-- R87, R92: an expired container is on the port's recently-withdrawn list. -/
theorem test_settle_deadline_expiry :
    ((after (.settleDeadlineExpiry 4 []) { serving.setLane 2 { laneOn with unsettled := [4] } with
      table := [{ number := 4, ownerLane := 2, ownerPort := 0, state := .sealed .full (some 0), fill := 64, members := [],
                  waiters := [] }] }).port 0).recent = [4] := by decide +kernel

/-- R165: the expired lane is ABORTING, and its expired mark is set. -/
theorem test_orphan_limit_expiry :
    let s : State := { serving.setLane 2 { laneOn with state := .orphaned, owner := none, former := some 3, unsettled := [4] } with
      orphanTimers := serving.orphanTimers.set 2 (some 0) }
    (after (.orphanLimitExpiry 2) s).expired[2] = true ∧ ((after (.orphanLimitExpiry 2) s).lane 2).state = .aborting := by
  decide +kernel

/-- R120: without TIMER in the trigger set the timer restarts and the epoch stands. -/
theorem test_epoch_timer_expiry :
    let s : State := { serving with epochTimer := some 0, policy := { Policy.default with interval := 60 } }
    (after (.epochTimerExpiry []) s).epoch = 1 ∧ (after (.epochTimerExpiry []) s).epochTimer = some 60000 := by decide +kernel

/-- R151: the proposal lapses. -/
theorem test_consent_deadline_expiry :
    (after .consentDeadlineExpiry { both with
      proposal := some { body := .serviceStart, proposer := 0, required := [1], received := [], deadline := some 0 } }).lastEnded =
      some { body := .serviceStart, outcome := .lapsed } := by decide +kernel

/-- R136: a pass-end request is one advance. -/
theorem test_sweep_end_request : (after (.sweepEndRequest []) { serving with sweepEndRequests := 1 }).epoch = 2 := by decide +kernel

/-- R137: a start request begins a CONTINUOUS scanner's next pass. -/
theorem test_start_request :
    (after .startRequest { serving with
      startRequests := 1, scanner := { Scanner.reset with mode := .continuous, requester := some 0 } }).scanner.state =
      .scanning := by decide +kernel

/-- 01, "one slot through two lifetimes", step 8: at epoch 42 with grace 2 the entry ZERO since 40 is reclaimed. -/
theorem test_bucket_examination :
    let s : State := { holding serving { liveEntry 1 0 with state := .zero 40, lastRef := 40 } with
      epoch := 42, scanner := { Scanner.reset with state := .scanning, cursor := 5, requester := some 0 } }
    ((after (.bucketExamination []) s).bucket 5)[0] = { generation := 1, entry := none } ∧
      ringBytes (after (.bucketExamination []) s) 0 8 5 = [0, 0, 0x14, 0, 0] ∧
      (after (.bucketExamination []) s).occupancy = 0 := by decide +kernel

/-- 03, "five lanes on the digest engines": the first ready lane after 7 is 20. -/
theorem test_engine_grant :
    let s : State := { (serving.setLane 20 laneOn).setLane 3 { laneOn with weight := 4 } with lastGranted := 7 }
    (after .engineGrant s).lastGranted = 20 ∧ ((after .engineGrant s).lane 20).grant.map Grant.quota = some 65536 := by
  decide +kernel

/-- 02, "the boundary test, with and without a seed": with seed 13 the eighth byte, #44, ends the chunk with cut CONTENT. -/
theorem test_byte_taken :
    let prof : Profile := { window := 4, exponent := 4, minimum := 8, maximum := 32, seed := 13 }
    let s : State := { serving.setLane 2 { laneOn with
        part := { length := 7, window := [1, 65, 66, 67], hash := some (directHash [1, 65, 66, 67]), digest := DigestState.start,
                  check := crcStart }
        offset := 7, grant := some { engine := 0, quota := 65536, taken := 7 } } with
      slots := serving.slots.set 0 (.active prof 18191447 1) }
    ((after (.byteTaken 2 68) s).lane 2).chunk.map (fun c => (c.length, c.first, c.cut)) = some (8, 0, .content) := by decide +kernel

/-- 02, "a SUPPLIED lane through its items": a CUT after 20 bytes ends a chunk whose first byte is at 40. -/
theorem test_cut_reached :
    let s := serving.setLane 2 { laneOn with
      items := [.cut, .finish], offset := 60, part := { Partial.empty with length := 20 } }
    ((after (.cutReached 2) s).lane 2).chunk.map (fun c => (c.length, c.first, c.cut)) = some (20, 40, .item) := by decide +kernel

/-- R56: a TAG that replaces one sets the overrun mark. -/
theorem test_tag_reached :
    ((after (.tagReached 2) (serving.setLane 2 { laneOn with
      items := [.tag 7], tag := some { value := 6, overrun := false } })).lane 2).tag = some { value := 7, overrun := true } := by
  decide +kernel

/-- R104: with nothing unsettled the CHECKPOINT record is written and the journal emptied. -/
theorem test_checkpoint_reached :
    let s := serving.setLane 2 { laneOn with items := [.checkpoint], journal := [{ seq := 1, what := .ref 0, length := 1 }] }
    ((after (.checkpointReached 2) s).lane 2).journal = [] ∧ ringBytes (after (.checkpointReached 2) s) 0 8 2 = [2, 2] := by
  decide +kernel

/-- R106: the CLOSED record is written and the lane is FREE. -/
theorem test_end_reached :
    let s := serving.setLane 2 { laneOn with items := [.finish] }
    ((after (.endReached 2) s).lane 2).state = .free ∧ ringBytes (after (.endReached 2) s) 0 8 2 = [2, 3] := by decide +kernel

/-- 01, "one slot through two lifetimes", step 1: a lookup creates the PENDING entry, with ID 1,310,720. -/
theorem test_lookup_new :
    let s := serving.setLane 7 { laneOn with chunk := some (chunkOf 1) }
    ((after (.lookup 7 []) s).bucket 5)[0].entry.map (fun x => (x.state, x.count)) = some (.pending 7, 1) ∧
      ringBytes (after (.lookup 7 []) s) 0 32 5 = [0, 0, 0x14, 0, 0] := by decide +kernel

/-- 01, "one slot through two lifetimes", step 3: another lane's lookup waits, and the OPEN container is sealed on demand. -/
theorem test_lookup_waits :
    let s : State := { holding ((serving.setLane 12 { laneOn with chunk := some (chunkOf 1) }).setLane 7
        { laneOn with openC := some 9, unsettled := [9] }) { liveEntry 1 2 with state := .pending 7 } with
      table := [{ number := 9, ownerLane := 7, ownerPort := 0, state := .opened, fill := 128,
                  members := [{ bucket := 5, slot := 0, generation := 0 }], waiters := [] }] }
    ((after (.lookup 12 []) s).lane 12).waitTarget = some 9 ∧
      (after (.lookup 12 []) s).table.map Container.state = [.sealed .demand (some 30000)] := by decide +kernel

/-- 01, "Settled counts at the edges": a waiter's increment resurrects an entry settled as ZERO. -/
theorem test_waiter_completion :
    let s : State := { holding (serving.setLane 12 { laneOn with
        chunk := some { chunkOf 1 with waited := true }, stalls := { Stalls.clear with waiting := true }, waitTarget := some 9 })
        { liveEntry 1 0 with state := .zero 1 } with
      settlings := [{ container := 9, sender := 0, stray := false, tag := 0, members := [{ bucket := 5, slot := 0, generation := 0 }],
                      settled := 1, zeros := 1, dups := 0, repeats := 0,
                      waiters := [(12, { bucket := 5, slot := 0, generation := 0 })] }] }
    ((after (.waiterCompletion 9 []) s).bucket 5)[0].entry.map (fun x => (x.state, x.count)) = some (.live, 1) ∧
      ringBytes (after (.waiterCompletion 9 []) s) 0 10 1 = [3] := by decide +kernel

/-- R192, R99: in PASSTHROUGH a waiter of a settled container takes no increment and ends as NEW_UNINDEXED, flagged WAITED, with an
UNINDEXED entry. -/
theorem test_waiter_completion_passthrough :
    let ref : SlotRef := { bucket := 5, slot := 0, generation := 0 }
    let s : State := { holding (serving.setLane 12 { laneOn with
        chunk := some { chunkOf 1 with waited := true }, stalls := { Stalls.clear with waiting := true }, waitTarget := some 9 })
        (liveEntry 1 1) with
      device := .passthrough
      settlings := [{ container := 9, sender := 0, stray := false, tag := 0, members := [ref], settled := 1, zeros := 0, dups := 0,
                      repeats := 0, waiters := [(12, ref)] }] }
    let t := after (.lookup 12 []) (after (.waiterCompletion 9 []) s)
    t.index = s.index ∧ (t.lane 12).journal.map (fun e => match e.what with | .ref _ => true | .unindexed _ _ => false) = [false] ∧
      ringBytes t 1 8 4 = [12, 2, 2, 1] := by decide +kernel

/-- R110: the oldest container of an aborting lane is withdrawn. -/
theorem test_abort_withdrawal :
    let a : AbortRecord := { cause := .command, stateAt := .active, withdrawn := 0, released := 0, pinned := 0, stale := 0,
                             underflow := 0, poisoned := 0, skipped := 0, walkEnded := false, discard := false }
    let s : State := { serving.setLane 2 { laneOn with state := .aborting, unsettled := [4, 5], abort := some a } with
      table := [{ number := 4, ownerLane := 2, ownerPort := 0, state := .sealed .full (some 9), fill := 64, members := [],
                  waiters := [] }] }
    ((after (.abortWithdrawal 2 []) s).lane 2).unsettled = [5] := by decide +kernel

/-- R111: the newest REF entry is walked first. -/
theorem test_walk_step :
    let a : AbortRecord := { cause := .command, stateAt := .active, withdrawn := 0, released := 0, pinned := 0, stale := 0,
                             underflow := 0, poisoned := 0, skipped := 0, walkEnded := false, discard := false }
    let s := (holding serving (liveEntry 1 2)).setLane 2 { laneOn with
      state := .aborting, abort := some a
      journal := [{ seq := 1, what := .ref 0, length := 1 }, { seq := 2, what := .ref 1310720, length := 1 }] }
    ((after (.walkStep 2 []) s).lane 2).abort.map AbortRecord.released = some 1 ∧
      ((after (.walkStep 2 []) s).bucket 5)[0].entry.map Entry.count = some 1 := by decide +kernel

/-! ### Witnesses: for each statement with hypotheses, a state and operands that meet those of each of its clauses -/

theorem test_meets_StepTakesFrontCommand :
    ({ serving with pending := [.engineGrant] } : State).pending = .engineGrant :: [] ∧ State.reset.pending = [] := by decide

theorem test_meets_CommandWriteJoinsOrDrops :
    (unit (List.replicate 63 (recordOf []))).queue.length < 64 ∧
      (let s := serving.setPort 0 (unit (List.replicate 64 (recordOf [])))
       64 ≤ (s.port 0).queue.length ∧ s.attached 0 = true) ∧
      (let s := serving.setPort 1 { Port.reset with queue := List.replicate 64 (recordOf []) }
       64 ≤ (s.port 1).queue.length ∧ s.attached 1 = false) := by decide +kernel

theorem test_meets_ConsumerIndexWriteMovesIndex :
    serving.attached 1 = false ∧ serving.attached 0 = true ∧ (serving.port 0).ring = some { address := 4096, size := 256 } ∧
      (serving.port 0).waiting = [] ∧ (255 < 256 ∧ ¬256 < 256) := by decide +kernel

/-- A completion, and a notice. -/
def doneQuery : Completion := { kind := 14, tag := 5, outcome := .ok, fields := [] }

def sealedNotice : Notice := { kind := .sealed .full 30, lane := 2, container := 9, fill := 64, members := 1 }

/-- Port 0 at the last position of its ring, with a completion in hand and the ATTENTION record held. -/
def awaiting (waiting : List Writer) (notices : List Notice) : State :=
  serving.setPort 0 { unit [] with
    producer := 255, consumer := 0, waiting := waiting, attnHeld := true, hand := some (.completion doneQuery false)
    notices := notices }

theorem test_meets_GrantsFollowWaitingOrder :
    (∀ ws ∈ [[Writer.command, .attention], [.attention, .notices, .command], []], ∀ v ∈ [0, 2, 255],
      let s := awaiting ws [sealedNotice]
      s.attached 0 = true ∧ v < 256 ∧ s.NoneStarvedOfContainers ∧ (s.port 0).hand = some (.completion doneQuery false) ∧
        (s.port 0).attnHeld = true ∧ ({ s.port 0 with consumer := v } : Port).free = (if v = 0 then 0 else v) ∧
        (s.port 0).waiting.Nodup ∧ (∀ w ∈ (s.port 0).waiting, w = .command ∨ w = .notices ∨ w = .attention) ∧
        (s.port 0).notices = [sealedNotice]) ∧
      (let s := awaiting [.notices, .attention] [sealedNotice, sealedNotice]
       s.attached 0 = true ∧ ({ s.port 0 with consumer := 1 } : Port).free = 1 ∧ s.NoneStarvedOfContainers ∧
         (s.port 0).waiting = [.notices, .attention] ∧ (s.port 0).notices = sealedNotice :: sealedNotice :: []) ∧
      ∀ ws ns, ((awaiting ws ns).port 0).Rings { address := 4096, size := 256 } :=
  ⟨by decide +kernel, by decide +kernel, fun _ _ => ⟨rfl, by decide, (by decide : 255 < 256), (by decide : 0 < 256)⟩⟩

theorem test_meets_StrayCommandsHaveNoEffect :
    (let s := serving.setPort 1 { Port.reset with queue := [recordOf [4]] }
     s.attached 1 = false ∧ s.front? 1 = some (recordOf [4]) ∧ recKind (recordOf [4]) ≠ 1) ∧
      (asked serving [0]).Takes 0 (recordOf [0]) 0 ∧ recKind (recordOf [0]) = 0 ∧
      (asked serving [0x1C]).Takes 0 (recordOf [0x1C]) 0x1C ∧ 0x1C ≤ recKind (recordOf [0x1C]) := by decide +kernel

/-- An ATTACH with a ring of 256, the shortest period and the largest threshold. -/
def attachBytes : List Nat := [1, 0, 9, 0, 0x80, 0x10, 0, 0, 0, 0, 0, 0, 0, 1, 0, 0, 10, 0, 0, 0, 0, 0, 0, 4, 3]

theorem test_meets_AttachOpensRingOrIsRefused :
    (let s := serving.setPort 1 { Port.reset with queue := [recordOf attachBytes] }
     let r := recordOf attachBytes
     s.front? 1 = some r ∧ recKind r = 1 ∧ s.attached 1 = false ∧ (s.port 1).waiting = [] ∧ numAt r 4 8 % 128 = 0 ∧
       (∃ k, 8 ≤ k ∧ k ≤ 16 ∧ numAt r 12 4 = 2 ^ k) ∧ 10 ≤ numAt r 16 4 ∧ numAt r 16 4 ≤ 60000 ∧ numAt r 20 4 ≤ 67108864 ∧
       watchModeOf? (byteAt r 24) = some .both) ∧
      (asked serving attachBytes).Takes 0 (recordOf attachBytes) 1 ∧
      (let r := recordOf [1, 0, 9, 0, 1, 0x10]
       let s := serving.setPort 1 { Port.reset with queue := [r] }
       s.front? 1 = some r ∧ recKind r = 1 ∧ s.attached 1 = false ∧ numAt r 4 8 % 128 ≠ 0) :=
  ⟨⟨by decide +kernel, by decide +kernel, by decide +kernel, by decide +kernel, by decide +kernel, ⟨8, by decide +kernel⟩,
    by decide +kernel, by decide +kernel, by decide +kernel, by decide +kernel⟩, by decide +kernel, by decide +kernel⟩

theorem test_meets_DetachLeavesOrIsBusy :
    (let s := (asked serving [2]).setLane 63 laneOn
     s.Takes 0 (recordOf [2]) 2 ∧ ∃ n, (s.lane n).state ≠ .free ∧ (s.lane n).owner = some 0) ∧
      (let s : State := { asked serving [2] with
          proposal := some { body := .deviceReset, proposer := 0, required := [1], received := [], deadline := none } }
       s.Takes 0 (recordOf [2]) 2 ∧ ∃ q, s.proposal = some q ∧ q.proposer = 0) ∧
      (let s := (asked serving [2]).modPort 0 fun q => { q with freeze := true }
       s.Takes 0 (recordOf [2]) 2 ∧ (s.port 0).freeze = true) ∧
      (let s := asked serving [2]
       s.Takes 0 (recordOf [2]) 2 ∧ (∀ n, (s.lane n).owner = some 0 → (s.lane n).state = .free) ∧ s.proposal = none ∧
         (s.port 0).freeze = false) ∧
      (let s : State := { asked both [2] with
          proposal := some { body := .serviceStart, proposer := 1, required := [0, 2], received := [0, 2], deadline := none } }
       s.Takes 0 (recordOf [2]) 2 ∧ (∀ n, (s.lane n).owner = some 0 → (s.lane n).state = .free) ∧ (s.port 0).freeze = false ∧
         (0 : PortNo) ∈ [(0 : PortNo), 2] ∧ (∀ k ∈ [(0 : PortNo), 2], k ≠ 0 → k ∈ [(0 : PortNo), 2]) ∧
         (∃ k ∈ [(0 : PortNo), 2], k ≠ 0 ∧ k ∉ [(0 : PortNo)]) ∧ (0 : PortNo) ∉ [(2 : PortNo)]) :=
  ⟨⟨by decide +kernel, 63, by decide +kernel⟩, ⟨by decide +kernel, _, rfl, rfl⟩, by decide +kernel, by decide +kernel,
    by decide +kernel⟩

theorem test_meets_ReadAttentionEmptiesSummary : (asked serving [26]).Takes 0 (recordOf [26]) 0x1A := by decide +kernel

/-- The state with no free position in port 0's ring. -/
def fullRing (s : State) : State := s.modPort 0 fun q => { q with producer := 255 }

theorem test_meets_DetachLeavesOrIsBusy_waits :
    (let s := fullRing (asked serving [2])
     s.front? 0 = some (recordOf [2]) ∧ recKind (recordOf [2]) = 2 ∧ s.attached 0 = true ∧ s.canWrite 0 = false ∧
       (∀ n, (s.lane n).owner = some 0 → (s.lane n).state = .free) ∧ s.proposal = none ∧ (s.port 0).freeze = false) ∧
      (let s := (awaiting [.command, .attention, .notices] [sealedNotice]).modPort 0 fun q =>
        { q with hand := some (.completion { doneQuery with kind := 2 } true) }
       s.attached 0 = true ∧ 1 < 256 ∧ 0 < ({ s.port 0 with consumer := 1 } : Port).free ∧
         (s.port 0).hand = some (.completion { doneQuery with kind := 2 } true) ∧
         (s.port 0).waiting = .command :: [.attention, .notices] ∧
         (∀ n, (s.lane n).owner = some 0 → (s.lane n).state = .free) ∧ s.proposal = none ∧ s.scanner.requester ≠ some 0 ∧
         (s.port 0).ring = some { address := 4096, size := 256 } ∧ (s.port 0).producer < 256 ∧ (s.port 0).consumer < 256) := by
  decide +kernel

/-- R176: the port is DETACHED in the step that writes its DETACH completion, and the notice that waits is counted. -/
theorem test_detach_granted :
    let s := (awaiting [.command, .notices] [sealedNotice]).modPort 0 fun q =>
      { q with attnHeld := false, hand := some (.completion { doneQuery with kind := 2 } true) }
    let t := after (.consumerIndexWrite 0 9 []) s
    (t.port 0).state = .detached ∧ ringBytes t 255 8 2 = [2, 0] ∧ t.discarded = 1 := by decide +kernel

theorem test_meets_DeviceStatusReads :
    (asked serving [27]).front? 0 = some (recordOf [27]) ∧ recKind (recordOf [27]) = 0x1B ∧ serving.attached 0 = true ∧
      (asked serving [27]).canWrite 0 = true ∧ (fullRing (asked serving [27])).front? 0 = some (recordOf [27]) ∧
      (fullRing serving).attached 0 = true ∧ (fullRing (asked serving [27])).canWrite 0 = false := by decide +kernel

theorem test_meets_FlagInEmptySummaryMakesAttention :
    let q : Port := { unit (List.replicate 64 (recordOf [])) with summary := Summary.empty }
    let made := (Summary.empty.raise .peerFailsafe).carry .peerFailsafe (.port 3)
    (∀ x, made.mark x =
        if x = .peerFailsafe then (if Summary.empty.mark .peerFailsafe = .clear then .set else .again) else Summary.empty.mark x) ∧
      (made.peers = joinSet Summary.empty.peers 3 ∧ made.journalLanes = Summary.empty.journalLanes ∧
        made.orphanedLanes = Summary.empty.orphanedLanes ∧ made.expiredLanes = Summary.empty.expiredLanes ∧
        made.ending = Summary.empty.ending) ∧
      (let s := serving.setPort 0 q
       s.attached 0 = true ∧ (s.port 0).summary = Summary.empty ∧ (s.port 0).summary.isEmpty = true ∧ (s.port 0).attnHeld = false ∧
         s.canWrite 0 = true ∧ 64 ≤ (s.port 0).queue.length) ∧
      (let s := fullRing (serving.setPort 0 q)
       (s.port 0).summary = Summary.empty ∧ (s.port 0).attnHeld = false ∧ s.canWrite 0 = false ∧
         Writer.attention ∉ (s.port 0).waiting) ∧
      (let s := serving.setPort 0 { q with attnHeld := true }
       s.attached 0 = true ∧ (s.port 0).summary = Summary.empty ∧ (s.port 0).attnHeld = true) ∧
      (serving.attached 1 = false ∧ (serving.port 1).summary = Summary.empty ∧ (serving.port 0).summary.isEmpty = false) := by
  refine ⟨fun x => ?_, by decide, by decide +kernel, by decide +kernel, by decide +kernel, by decide +kernel⟩
  cases x <;> decide

theorem test_meets_OpenLaneTakesLowestFreeLane :
    let r := recordOf [3, 0, 0, 0, 0, 2, 1, 15, 1]
    let s := (asked serving [3, 0, 0, 0, 0, 2, 1, 15, 1]).setLane 0 laneOn
    s.Takes 0 r 3 ∧ s.device ≠ .rebuild ∧ byteAt r 4 = (0 : Fin 4).val ∧ cutSourceOf? (byteAt r 5) = some .supplied ∧
      failActionOf? (byteAt r 6) = some .abandon ∧ 1 ≤ byteAt r 7 ∧ byteAt r 7 ≤ 15 ∧ coalescingOf? (byteAt r 8) = some .off ∧
      s.slots[0] = .active Profile.default (BitVec.ofNat 32 (263 ^ 47)) 0 ∧ (s.lane 1).state = .free ∧
      ∀ m, m < (1 : LaneNo) → (s.lane m).state ≠ .free := by decide +kernel

/-- Every lane open. -/
def allOpen : State := { serving with lanes := Vector.replicate 64 laneOn }

theorem test_meets_LaneCommandsAreRefused_open :
    (let s : State := { asked serving [3] with device := .rebuild }
     s.Takes 0 (recordOf [3]) 3 ∧ s.device = .rebuild) ∧
      (let s := asked serving [3, 0, 0, 0, 1, 0, 0, 1]
       s.Takes 0 (recordOf [3, 0, 0, 0, 1, 0, 0, 1]) 3 ∧ s.device ≠ .rebuild ∧
         byteAt (recordOf [3, 0, 0, 0, 1, 0, 0, 1]) 4 = (1 : Fin 4).val ∧ s.slots[1] = .empty) ∧
      (let r := recordOf [3, 0, 0, 0, 0, 0, 0, 1]
       let s := asked allOpen [3, 0, 0, 0, 0, 0, 0, 1]
       s.Takes 0 r 3 ∧ s.device ≠ .rebuild ∧ byteAt r 4 = (0 : Fin 4).val ∧
         s.slots[0] = .active Profile.default (BitVec.ofNat 32 (263 ^ 47)) 0 ∧ byteAt r 5 ≤ 2 ∧ byteAt r 6 ≤ 1 ∧ 1 ≤ byteAt r 7 ∧
         byteAt r 7 ≤ 15 ∧ byteAt r 8 ≤ 1 ∧ ∀ m, (s.lane m).state ≠ .free) := by decide +kernel

/-- A FEED of the longest item to lane 2. -/
def feedBytes : List Nat := [4, 0, 0, 0, 2, 0, 0, 0, 0, 0, 1, 0, 0, 0, 0, 0, 0, 0, 0, 1]

theorem test_meets_LaneCommandsAreRefused_items :
    ((asked serving [4, 0, 0, 0, 64]).Takes 0 (recordOf [4, 0, 0, 0, 64]) 4 ∧ 64 ≤ recLane (recordOf [4, 0, 0, 0, 64])) ∧
      ((asked serving [5, 0, 0, 0, 2, 4]).Takes 0 (recordOf [5, 0, 0, 0, 2, 4]) 5 ∧ 4 ≤ byteAt (recordOf [5, 0, 0, 0, 2, 4]) 5) ∧
      (recLane (recordOf feedBytes) = (2 : LaneNo).val ∧ (asked serving feedBytes).Takes 0 (recordOf feedBytes) 4 ∧
        1 ≤ numAt (recordOf feedBytes) 16 4 ∧ numAt (recordOf feedBytes) 16 4 ≤ 16777216 ∧ (serving.lane 2).owner ≠ some 0) ∧
      (recLane (recordOf [5, 0, 0, 0, 2, 3]) = (2 : LaneNo).val ∧
        (asked serving [5, 0, 0, 0, 2, 3]).Takes 0 (recordOf [5, 0, 0, 0, 2, 3]) 5 ∧ byteAt (recordOf [5, 0, 0, 0, 2, 3]) 5 ≤ 3) := by
  decide +kernel

/-- Lane 2 ORPHANED, its former port 3 failed at 1,000 ms, of which `now` is `t` later. -/
def orphanedAt (t : Nat) : State :=
  { (serving.setLane 2 { laneOn with
      state := .orphaned, owner := none, former := some 3, resume := some .active, items := [], unsettled := [4] }).modPort 3
      (fun q => { q with state := .failsafe, failSafeTime := some 1000 }) with
    now := 1000 + t, orphanTimers := serving.orphanTimers.set 2 (some 0) }

theorem quietPassed_orphanedAt (bs : List Nat) : (asked (orphanedAt 2000) bs).QuietPassed 2 :=
  ⟨3, 1000, (by decide +kernel : ((orphanedAt 2000).lane 2).former = some 3),
    (by decide +kernel : ((orphanedAt 2000).port 3).failSafeTime = some 1000), (by decide : 1000 + 2000 ≤ 3000)⟩

theorem not_quietPassed_orphanedAt (bs : List Nat) : ¬(asked (orphanedAt 1999) bs).QuietPassed 2 := by
  rintro ⟨q, t, h1, h2, h3⟩
  have e1 : ((asked (orphanedAt 1999) bs).lane 2).former = some 3 :=
    (by decide +kernel : ((orphanedAt 1999).lane 2).former = some 3)
  have e2 : ((asked (orphanedAt 1999) bs).port 3).failSafeTime = some 1000 :=
    (by decide +kernel : ((orphanedAt 1999).port 3).failSafeTime = some 1000)
  have e3 : (asked (orphanedAt 1999) bs).policy.quiet = 2000 := rfl
  have e4 : (asked (orphanedAt 1999) bs).now = 2999 := rfl
  rw [e1] at h1
  cases h1
  rw [e2] at h2
  cases h2
  rw [e3, e4] at h3
  omega

theorem test_meets_LaneCommandsAreRefused_abort :
    ((asked serving [8, 0, 0, 0, 2]).Takes 0 (recordOf [8, 0, 0, 0, 2]) 8 ∧
        ((asked serving [8, 0, 0, 0, 2]).lane 2).state = .free) ∧
      (let s := (asked serving [8, 0, 0, 0, 2]).setLane 2 { laneOn with owner := some 1 }
       s.Takes 0 (recordOf [8, 0, 0, 0, 2]) 8 ∧ (s.lane 2).state ≠ .free ∧ (s.lane 2).state ≠ .aborting ∧
         (s.lane 2).owner = some 1) ∧
      (let s := asked (orphanedAt 1999) [8, 0, 0, 0, 2]
       s.Takes 0 (recordOf [8, 0, 0, 0, 2]) 8 ∧ (s.lane 2).state = .orphaned ∧ (s.lane 2).owner = none ∧ ¬s.QuietPassed 2) ∧
      (let s := asked (orphanedAt 1999) [9, 0, 0, 0, 2]
       s.Takes 0 (recordOf [9, 0, 0, 0, 2]) 9 ∧ (s.lane 2).state = .orphaned ∧ ¬s.QuietPassed 2) ∧
      (let s := asked (orphanedAt 1999) [10, 0, 0, 0, 2]
       s.Takes 0 (recordOf [10, 0, 0, 0, 2]) 10 ∧ numAt (recordOf [10, 0, 0, 0, 2]) 8 4 ≤ 262143 ∧ (s.lane 2).state ≠ .free ∧
         (s.lane 2).owner = none ∧ ¬s.QuietPassed 2) :=
  ⟨by decide +kernel, by decide +kernel,
    ⟨by decide +kernel, by decide +kernel, by decide +kernel, not_quietPassed_orphanedAt _⟩,
    ⟨by decide +kernel, by decide +kernel, not_quietPassed_orphanedAt _⟩,
    ⟨by decide +kernel, by decide +kernel, by decide +kernel, by decide +kernel, not_quietPassed_orphanedAt _⟩⟩

theorem test_meets_LaneCommandsAreRefused_journal :
    ((asked serving [9, 0, 0, 0, 2]).Takes 0 (recordOf [9, 0, 0, 0, 2]) 9 ∧ (serving.lane 2).state ≠ .orphaned) ∧
      ((asked serving [10, 0, 0, 0, 2, 0, 0, 0, 0, 0, 4, 0]).Takes 0 (recordOf [10, 0, 0, 0, 2, 0, 0, 0, 0, 0, 4, 0]) 10 ∧
        262143 < numAt (recordOf [10, 0, 0, 0, 2, 0, 0, 0, 0, 0, 4, 0]) 8 4) ∧
      (numAt (recordOf [10, 0, 0, 0, 2, 0, 0, 0, 0xFF, 0xFF, 3, 0]) 8 4 ≤ 262143 ∧ (serving.lane 2).state = .free) ∧
      (let s := (asked serving [10, 0, 0, 0, 2]).setLane 2 { laneOn with owner := some 1 }
       s.Takes 0 (recordOf [10, 0, 0, 0, 2]) 10 ∧ (s.lane 2).state ≠ .free ∧ (s.lane 2).owner = some 1) := by decide +kernel

theorem test_meets_ItemsJoinTheLaneQueue :
    (let s := (asked serving feedBytes).setLane 2 { laneOn with items := List.replicate 31 .cut, state := .checkpointing }
     s.Takes 0 (recordOf feedBytes) 4 ∧ 1 ≤ numAt (recordOf feedBytes) 16 4 ∧ numAt (recordOf feedBytes) 16 4 ≤ 16777216 ∧
       recLane (recordOf feedBytes) = (2 : LaneNo).val ∧ (s.lane 2).owner = some 0 ∧ (s.lane 2).state = .checkpointing ∧
       Item.finish ∉ (s.lane 2).items ∧ (s.lane 2).items.length < 32) ∧
      (let s := (asked serving [5, 0, 0, 0, 2, 3]).setLane 2 laneOn
       s.Takes 0 (recordOf [5, 0, 0, 0, 2, 3]) 5 ∧ byteAt (recordOf [5, 0, 0, 0, 2, 3]) 5 = 3 ∧ (s.lane 2).state = .active ∧
         Item.finish ∉ (s.lane 2).items) := by decide +kernel

theorem test_meets_SetLaneWeightStagesWeight :
    ((asked serving [6, 0, 0, 0, 2, 16]).Takes 0 (recordOf [6, 0, 0, 0, 2, 16]) 6 ∧
        15 < byteAt (recordOf [6, 0, 0, 0, 2, 16]) 5) ∧
      (let s := (asked serving [6, 0, 0, 0, 2, 15]).setLane 2 { laneOn with state := .closing }
       s.Takes 0 (recordOf [6, 0, 0, 0, 2, 15]) 6 ∧ recLane (recordOf [6, 0, 0, 0, 2, 15]) = (2 : LaneNo).val ∧
         1 ≤ byteAt (recordOf [6, 0, 0, 0, 2, 15]) 5 ∧ byteAt (recordOf [6, 0, 0, 0, 2, 15]) 5 ≤ 15 ∧
         (s.lane 2).owner = some 0 ∧ (s.lane 2).state.serves = true) ∧
      (let s := asked serving [6, 0, 0, 0, 2, 15]
       s.Takes 0 (recordOf [6, 0, 0, 0, 2, 15]) 6 ∧ ¬((s.lane 2).owner = some 0 ∧ (s.lane 2).state.serves = true)) := by
  decide +kernel

theorem test_meets_LaneStatusReads :
    ((asked serving [7, 0, 0, 0, 64]).Takes 0 (recordOf [7, 0, 0, 0, 64]) 7 ∧ 64 ≤ recLane (recordOf [7, 0, 0, 0, 64])) ∧
      ((asked allOpen [7, 0, 0, 0, 63]).Takes 0 (recordOf [7, 0, 0, 0, 63]) 7 ∧
        recLane (recordOf [7, 0, 0, 0, 63]) = (63 : LaneNo).val ∧ (allOpen.lane 63).state ≠ .free) ∧
      (serving.lane 63).state = .free := by decide +kernel

theorem test_meets_AbortedLaneEntersAborting :
    (let s := (asked serving [8, 0, 0, 0, 2]).setLane 2 { laneOn with unsettled := [4] }
     ((s.lane 2).unsettled ≠ [] ∨ (s.lane 2).journal ≠ []) ∧ s.settlings = [] ∧ s.turns = [] ∧
       (∀ q, Writer.lane 2 ∉ (s.port q).waiting) ∧ s.Takes 0 (recordOf [8, 0, 0, 0, 2]) 8 ∧
       recLane (recordOf [8, 0, 0, 0, 2]) = (2 : LaneNo).val ∧ (s.lane 2).owner = some 0 ∧ (s.lane 2).state.serves = true) ∧
      (let s := asked (orphanedAt 2000) [8, 0, 0, 0, 2]
       s.Takes 0 (recordOf [8, 0, 0, 0, 2]) 8 ∧ (s.lane 2).unsettled ≠ [] ∧ (s.lane 2).owner = none ∧
         (s.lane 2).state = .orphaned ∧ s.QuietPassed 2 ∧ s.settlings = [] ∧ s.turns = [] ∧
         (∀ q, Writer.lane 2 ∉ (s.port q).waiting) ∧ s.orphanTimers[2] = some 0 ∧ s.Alert) :=
  ⟨by decide +kernel, by decide +kernel, by decide +kernel, by decide +kernel, by decide +kernel, quietPassed_orphanedAt _,
    by decide +kernel, by decide +kernel, by decide +kernel, by decide +kernel, by decide +kernel⟩

theorem losesLane_active (k : Nat) :
    (ProfileSlot.active Profile.default 0 (k + 1)).LosesLane (.active Profile.default 0 k) := .inl ⟨_, _, _, rfl, rfl⟩

theorem losesLane_retiring : (ProfileSlot.retiring Profile.default 0 1).LosesLane .empty := .inr (.inr ⟨_, _, rfl, rfl⟩)

/-- The state with one lane using profile slot 0. -/
def usedOnce (s : State) : State := { s with slots := s.slots.set 0 (.active Profile.default 0 1) }

theorem test_meets_AbortedLaneEntersAborting_ends :
    (let s := usedOnce ((asked serving [8, 0, 0, 0, 2]).setLane 2 laneOn)
     (s.lane 2).unsettled = [] ∧ (s.lane 2).journal = [] ∧ s.settlings = [] ∧ s.turns = [] ∧
       (∀ q, Writer.lane 2 ∉ (s.port q).waiting) ∧ s.Takes 0 (recordOf [8, 0, 0, 0, 2]) 8 ∧
       recLane (recordOf [8, 0, 0, 0, 2]) = (2 : LaneNo).val ∧ (s.lane 2).owner = some 0 ∧ (s.lane 2).state.serves = true ∧
       (s.lane 2).run = none ∧ (s.lane 2).held = none ∧ 2 ≤ (s.port 0).free ∧
       s.slots[(s.lane 2).slot] = .active Profile.default 0 (0 + 1) ∧ (s.port 0).ring = some { address := 4096, size := 256 } ∧
       (s.port 0).producer < 256 ∧ (s.port 0).consumer < 256) ∧
      (let s := usedOnce ((asked (orphanedAt 2000) [8, 0, 0, 0, 2]).modLane 2 fun l => { l with unsettled := [] })
       (s.lane 2).unsettled = [] ∧ (s.lane 2).journal = [] ∧ s.settlings = [] ∧ s.turns = [] ∧
         (∀ q, Writer.lane 2 ∉ (s.port q).waiting) ∧ s.Takes 0 (recordOf [8, 0, 0, 0, 2]) 8 ∧ (s.lane 2).owner = none ∧
         (s.lane 2).state = .orphaned ∧ s.orphanTimers[2] = some 0 ∧ s.Alert ∧
         s.slots[(s.lane 2).slot] = .active Profile.default 0 (0 + 1) ∧
         (s.lane 2).former = some 3 ∧ (s.port 3).failSafeTime = some 1000 ∧ 1000 + s.policy.quiet ≤ s.now) ∧
      (ProfileSlot.active Profile.default 0 (0 + 1)).LosesLane (.active Profile.default 0 0) :=
  ⟨by decide +kernel, by decide +kernel, losesLane_active 0⟩

/-- R111, R113: an orphaned lane with nothing to undo is FREE at once, its ABORTED record discarded and counted. -/
theorem test_empty_abort :
    let t := after (.orphanLimitExpiry 2) (usedOnce ((orphanedAt 2000).modLane 2 fun l => { l with unsettled := [] }))
    (t.lane 2).state = .free ∧ t.discarded = 1 ∧ t.slots[0] = .active Profile.default 0 0 := by decide +kernel

theorem test_meets_AdoptedLaneResumes :
    (let s := asked (orphanedAt 2000) [9, 0, 0, 0, 2]
     s.Takes 0 (recordOf [9, 0, 0, 0, 2]) 9 ∧ recLane (recordOf [9, 0, 0, 0, 2]) = (2 : LaneNo).val ∧
       (s.lane 2).state = .orphaned ∧ (s.lane 2).former = some 3 ∧ s.QuietPassed 2 ∧ (s.lane 2).resume = some .active ∧
       (s.lane 2).stalls = Stalls.clear ∧ (s.lane 2).run = none ∧ (s.lane 2).held = none ∧ (s.lane 2).items = [] ∧
       (s.lane 2).grant = none ∧ s.NoneStarvedOfContainers ∧ (s.port 0).Rings { address := 4096, size := 256 } ∧
       2 ≤ (s.port 0).free ∧ (s.lane 2).chunk = none) ∧
      (let s := (asked (orphanedAt 2000) [9, 0, 0, 0, 2]).modLane 2 fun l => { l with resume := some .closing }
       (s.lane 2).resume = some .closing ∧ (s.lane 2).unsettled ≠ []) :=
  ⟨⟨by decide +kernel, by decide +kernel, by decide +kernel, by decide +kernel, quietPassed_orphanedAt _, by decide +kernel,
    by decide +kernel, by decide +kernel, by decide +kernel, by decide +kernel, by decide +kernel, by decide +kernel,
    ⟨by decide +kernel, by decide +kernel, by decide +kernel, by decide +kernel⟩, by decide +kernel, by decide +kernel⟩,
    by decide +kernel⟩

theorem test_meets_ReadJournalReturnsEntries :
    let s := (asked serving [10, 0, 0, 0, 2]).setLane 2 { laneOn with
      journal := [{ seq := 1, what := .ref 0, length := 1 }, { seq := 2, what := .unindexed 1 64, length := 1 }] }
    let errs : List DramError := [{ place := .journal 2 1, error := .uncorrectable }]
    s.Takes 0 (recordOf [10, 0, 0, 0, 2]) 10 ∧ recLane (recordOf [10, 0, 0, 0, 2]) = (2 : LaneNo).val ∧
      numAt (recordOf [10, 0, 0, 0, 2]) 8 4 ≤ 262143 ∧ (s.lane 2).state ≠ .free ∧ (s.lane 2).owner = some 0 ∧
      (∀ d ∈ s.damage ++ errs, ∀ k, d ≠ { place := .journal 2 k, error := .single }) := by
  refine ⟨by decide +kernel, by decide +kernel, by decide +kernel, by decide +kernel, by decide +kernel, ?_⟩
  intro d hd k hk
  subst hk
  simp [asked, serving, State.modPort, State.setPort, State.setLane, State.reset] at hd

/-- Two slots of bucket 5 as members. -/
def pair : List SlotRef := [{ bucket := 5, slot := 0, generation := 0 }, { bucket := 5, slot := 15, generation := 16383 }]

/-- An entry of bucket 5 PENDING for a lane. -/
def pendingEntry (n : LaneNo) (last count : Nat) : Entry := { liveEntry last count with state := .pending n }

/-- The entries of the pair: one of count 0, one of the greatest count. -/
def pairEntry (m : SlotRef) : Entry := if m.slot = 0 then pendingEntry 2 1 0 else pendingEntry 2 2 16777215

/-- Bucket 5 with the pair's entries. -/
def pairBucket : Bucket :=
  (putEntry Bucket.untouched 0 (pendingEntry 2 1 0)).set 15 { generation := 16383, entry := some (pendingEntry 2 2 16777215) }

/-- Container 9 of lane 2 and port 0, SEALED, with the pair as its members. -/
def sealedPair (waiters : List (LaneNo × SlotRef)) : Container :=
  { number := 9, ownerLane := 2, ownerPort := 0, state := .sealed .full (some 0), fill := 256, members := pair, waiters := waiters }

/-- Lane 2 with that container, not its open one. -/
def withPair (waiters : List (LaneNo × SlotRef)) : State :=
  { serving.setLane 2 { laneOn with unsettled := [9] } with
    index := [(5, pairBucket)], occupancy := 2, table := [sealedPair waiters] }

theorem quiet_of {l : Lane} (ha : l.state = .active) (hj : l.stalls.journalFull = false) (hh : l.held = none)
    (hr : l.run = none) : l.Quiet :=
  ⟨ha, hj, hh, fun r h => by rw [hr] at h; cases h⟩

theorem test_meets_SettleSettlesMembers (waiters : List (LaneNo × SlotRef)) (h : waiters = [] ∨ waiters = [(12, ⟨5, 0, 0⟩)]) :
    let s := asked (withPair waiters) [11, 0, 0, 0, 9]
    s.Takes 0 (recordOf [11, 0, 0, 0, 9]) 0x0B ∧ 1 ≤ numAt (recordOf [11, 0, 0, 0, 9]) 4 4 ∧
      s.container? (numAt (recordOf [11, 0, 0, 0, 9]) 4 4) = some (sealedPair waiters) ∧ (s.lane 2).Quiet ∧
      (s.lane 2).openC ≠ some 9 ∧ s.settlings = [] ∧ s.NoneStarvedOfContainers ∧ slotsDistinct pair ∧
      (∀ m ∈ pair, s.Holds m (pairEntry m) ∧ s.Readable [] m.bucket) ∧
      (pair.filter fun m => decide ((pairEntry m).count = 0)).length = 1 := by
  rcases h with rfl | rfl <;>
    exact ⟨by decide +kernel, by decide +kernel, by decide +kernel, quiet_of (by decide +kernel) (by decide +kernel) (by decide +kernel)
      (by decide +kernel), by decide +kernel, by decide +kernel,
      by decide +kernel, by decide +kernel, by decide +kernel, by decide +kernel⟩

theorem test_meets_IndexCommandsAreRefused :
    ((asked serving [11]).Takes 0 (recordOf [11]) 0x0B ∧ numAt (recordOf [11]) 4 4 = 0) ∧
      (let s := asked serving [11, 0, 0, 0, 255, 255, 255, 255]
       s.Takes 0 (recordOf [11, 0, 0, 0, 255, 255, 255, 255]) 0x0B ∧ s.container? 4294967295 = none ∧
         numAt (recordOf [11, 0, 0, 0, 255, 255, 255, 255]) 4 4 = 4294967295) ∧
      (let s : State := { asked serving [11, 0, 0, 0, 9] with table := [{ sealedPair [] with ownerPort := 1 }] }
       s.Takes 0 (recordOf [11, 0, 0, 0, 9]) 0x0B ∧ s.container? 9 = some { sealedPair [] with ownerPort := 1 } ∧
         numAt (recordOf [11, 0, 0, 0, 9]) 4 4 = 9) ∧
      (let s : State := { asked serving [11, 0, 0, 0, 9] with table := [{ sealedPair [] with state := .opened }] }
       s.container? 9 = some { sealedPair [] with state := .opened }) ∧
      (let s : State := { asked serving [12, 1] with device := .passthrough }
       s.Takes 0 (recordOf [12, 1]) 0x0C ∧ s.device = .passthrough) ∧
      ((asked serving [12, 0]).Takes 0 (recordOf [12, 0]) 0x0C ∧ byteAt (recordOf [12, 0]) 1 < 1) ∧
      ((asked serving [12, 13]).Takes 0 (recordOf [12, 13]) 0x0C ∧ 12 < byteAt (recordOf [12, 13]) 1) ∧
      (let s : State := { asked serving [13] with device := .passthrough }
       s.Takes 0 (recordOf [13]) 0x0D ∧ s.device = .passthrough) ∧
      ((asked serving [13]).Takes 0 (recordOf [13]) 0x0D ∧ serving.device ≠ .passthrough ∧ numAt (recordOf [13]) 8 4 < 1) := by
  decide +kernel

theorem test_meets_ReleaseTakesDecrementsInOrder :
    ((asked serving [12, 1]).Takes 0 (recordOf [12, 1]) 0x0C ∧ 1 ≤ byteAt (recordOf [12, 1]) 1) ∧
      ((asked serving [12, 12]).Takes 0 (recordOf [12, 12]) 0x0C ∧ byteAt (recordOf [12, 12]) 1 ≤ 12) ∧
      (∀ rest, rest = [] ∨ rest = [7] →
        let w : ReleaseWork := { tag := 3, ids := 1310720 :: rest, results := [.released] }
        let s := (holding serving (liveEntry 1 2)).modPort 0 fun q => { q with hand := some (.release w) }
        (s.port 0).hand = some (.release w) ∧ (s.decrement 1310720).1 = .released ∧
          (s.decrement 1310720).2.poisonCount = s.poisonCount ∧ (s.decrement 1310720).2.canWrite 0 = true) ∧
      (let w : ReleaseWork := { tag := 3, ids := [1310720], results := [.released] }
       let s : State := { holding serving (liveEntry 1 2) with strayReleases := [w] }
       s.strayReleases[0]? = some w ∧ (s.decrement 1310720).2.poisonCount = s.poisonCount) := by
  refine ⟨by decide +kernel, by decide +kernel, ?_, by decide +kernel⟩
  rintro rest (rfl | rfl) <;> decide +kernel

theorem test_meets_CountsFollowState :
    (let s : State := { serving with poisonList := [4194303] }
     4194303 ∈ s.poisonList ∧ 16383 < 16384) ∧
      (serving.Readable [] 4194303 ∧ (serving.bucket 4194303)[(15 : Fin 16)].entry = none) ∧
      (∀ x ∈ [liveEntry 1 1, liveEntry 1 2, { liveEntry 1 16777215 with state := .pinned }, pendingEntry 2 1 0, pendingEntry 2 1 1,
          { liveEntry 1 0 with state := .zero 1 }],
        (holding serving x).Readable [] 5 ∧ ((holding serving x).bucket 5)[(0 : Fin 16)] = { generation := 0, entry := some x }) ∧
      ((liveEntry 1 1).count + 16777213 < 16777215 ∧ 16777215 ≤ (liveEntry 1 1).count + 16777214) := by decide +kernel

/-- An INSERT of container 4,294,967,295 at the last place of 64 bytes, of `n` references, with check word 7. -/
def insertBytes (n : Nat) : List Nat :=
  [13, 0, 0, 0, 7, 0, 0, 0, 255, 255, 255, 255, 0xC0, 0xFF, 0x3F, 0, 64, 0, 0, 0, n % 256, n / 256 % 256, n / 65536, 0] ++
    (printOf 1).map BitVec.toNat

/-- Bucket 5 with every slot taken by another fingerprint. -/
def fullBucket : Bucket := Vector.ofFn fun i => { generation := 0, entry := some (liveEntry (100 + i.val) 1) }

/-- The lanes that count a container and end their wait with their last one. -/
def countingLanes (unsettled : List Nat) (items : List Item) : List Lane :=
  [{ laneOn with state := .checkpointing, unsettled := unsettled, items := items, keptTag := some { value := 6, overrun := true } },
   { laneOn with state := .closing, unsettled := unsettled, items := [] },
   { laneOn with unsettled := unsettled, chunk := some (chunkOf 1), stalls := { Stalls.clear with journalFull := true }
                 ckSettled := 65535, ckWithdrawn := 3 }]

/-- `withPair` with lane 2's record replaced, and one use of its profile slot. -/
def countingPair (l : Lane) : State :=
  { (withPair []).setLane 2 l with slots := serving.slots.set 0 (.retiring Profile.default 0 1) }

theorem test_meets_SettleSettlesMembers_waits :
    (∀ l ∈ countingLanes [9, 10] [],
      let s := asked (countingPair l) [11, 0, 0, 0, 9]
      s.Takes 0 (recordOf [11, 0, 0, 0, 9]) 0x0B ∧ s.container? 9 = some (sealedPair []) ∧ s.lane 2 = l ∧
        (l.state = .checkpointing ∨ l.state = .closing ∨ l.state = .active ∧ l.stalls.journalFull = true) ∧ l.held = none ∧
        l.run = none ∧ l.openC ≠ some 9 ∧ ∃ k ∈ l.unsettled, k ≠ 9) ∧
      (∀ l ∈ countingLanes [9] [] ++ countingLanes [9] [.cut],
        let s := asked (countingPair l) [11, 0, 0, 0, 9]
        s.Takes 0 (recordOf [11, 0, 0, 0, 9]) 0x0B ∧ s.container? 9 = some (sealedPair []) ∧ s.lane 2 = l ∧
          s.NoneStarvedOfContainers ∧ l.owner = some 0 ∧ 2 ≤ (s.port 0).free ∧ (∀ k ∈ l.unsettled, k = 9) ∧ l.run = none ∧
          l.held = none ∧ l.grant = none ∧ l.openC ≠ some 9 ∧
          (l.state = .checkpointing ∧ l.stalls = Stalls.clear ∧ l.chunk = none ∨ l.state = .closing ∨
            l.state = .active ∧ l.stalls = { Stalls.clear with journalFull := true }) ∧
          s.slots[l.slot] = .retiring Profile.default 0 1) ∧
      ∀ l, ((asked (countingPair l) [11, 0, 0, 0, 9]).port 0).Rings { address := 4096, size := 256 } :=
  ⟨by decide +kernel, by decide +kernel, fun _ => ⟨rfl, by decide, (by decide : 0 < 256), (by decide : 0 < 256)⟩⟩

/-- The state with port 0 watching crossings of threshold `k`, with a flag set. -/
def watching (s : State) (k : Nat) : State := s.modPort 0 fun q => { q with watchMode := .both, watchThreshold := k }

theorem test_meets_InsertCreatesOrIncrements_free :
    ∀ n ∈ [1, 16777215], ∀ p ∈ [Bucket.untouched, fullBucket.set 15 { generation := 16383, entry := none }],
      let r := recordOf (insertBytes n)
      let s : State := watching { asked serving (insertBytes n) with index := if p = Bucket.untouched then [] else [(5, p)] } 1
      s.Takes 0 r 0x0D ∧ s.device ≠ .passthrough ∧ 1 ≤ numAt r 8 4 ∧ numAt r 12 4 % 64 = 0 ∧ numAt r 12 4 ≤ 4194240 ∧
        1 ≤ numAt r 16 4 ∧ numAt r 16 4 ≤ 262144 ∧ numAt r 12 4 + numAt r 16 4 ≤ 4194304 ∧ numAt r 20 4 = n ∧
        bucketOf (recFingerprint r) = 5 ∧ s.CrossesQuietly (s.occupancy + 1) ∧ (s.port 0).sees s.occupancy (s.occupancy + 1) = true ∧
        s.Readable [] 5 ∧ (s.bucket 5).Lacks (recFingerprint r) ∧
        (s.bucket 5).FirstFree (if p = Bucket.untouched then 0 else 15) := by decide +kernel

theorem test_meets_InsertCreatesOrIncrements_taken :
    let r := recordOf (insertBytes 1)
    let s := asked serving (insertBytes 1)
    ((holding s (liveEntry 1 1)).Readable [] 5 ∧ ((holding s (liveEntry 1 1)).bucket 5).FirstWith (recFingerprint r) 0 (liveEntry 1 1) ∧
        (liveEntry 1 1).check = BitVec.ofNat 32 (numAt r 4 4)) ∧
      (let x : Entry := { liveEntry 1 1 with check := 8 }
       ((holding s x).bucket 5).FirstWith (recFingerprint r) 0 x ∧ x.check ≠ BitVec.ofNat 32 (numAt r 4 4)) ∧
      (let f : State := { s with index := [(5, fullBucket)] }
       f.Readable [] 5 ∧ (f.bucket 5).Lacks (recFingerprint r) ∧ ∀ i : Fin 16, (f.bucket 5)[i].entry ≠ none) ∧
      (5 ∈ ({ s with poisonList := [5] } : State).poisonList) := by decide +kernel

/-- A QUERY of the fingerprint `printOf 1`. -/
def queryBytes : List Nat := [14] ++ List.replicate 23 0 ++ (printOf 1).map BitVec.toNat

theorem test_meets_QueryReadsEntry :
    ((asked serving [14, 0, 0, 0, 2]).Takes 0 (recordOf [14, 0, 0, 0, 2]) 0x0E ∧ 2 ≤ byteAt (recordOf [14, 0, 0, 0, 2]) 4) ∧
      (let r := recordOf queryBytes
       let s := asked (holding serving (liveEntry 1 1)) queryBytes
       s.Takes 0 r 0x0E ∧ byteAt r 4 = 0 ∧ bucketOf (recFingerprint r) = 5 ∧ s.Readable [] 5 ∧
         (s.bucket 5).FirstWith (recFingerprint r) 0 (liveEntry 1 1) ∧ ((asked serving queryBytes).bucket 5).Lacks (recFingerprint r)) ∧
      (let r := recordOf [14, 0, 0, 0, 1, 0, 0, 0, 0, 0, 0x14, 0, 0]
       let s := asked (holding serving (liveEntry 1 1)) [14, 0, 0, 0, 1, 0, 0, 0, 0, 0, 0x14, 0, 0]
       s.Takes 0 r 0x0E ∧ byteAt r 4 = 1 ∧ numAt r 8 5 = 5 * 262144 + (0 : Fin 16).val * 16384 + 0 ∧ s.Readable [] 5 ∧
         (s.bucket 5)[(0 : Fin 16)] = { generation := 0, entry := some (liveEntry 1 1) }) ∧
      (let r := recordOf [14, 0, 0, 0, 1, 0, 0, 0, 255, 255, 255, 255, 255]
       let s := asked serving [14, 0, 0, 0, 1, 0, 0, 0, 255, 255, 255, 255, 255]
       s.Takes 0 r 0x0E ∧ byteAt r 4 = 1 ∧ numAt r 8 5 = 4194303 * 262144 + (15 : Fin 16).val * 16384 + 16383 ∧
         s.Readable [] 4194303 ∧ (s.bucket 4194303)[(15 : Fin 16)].generation ≠ 16383) := by decide +kernel

/-- The commands that read bucket 5, on states that take them. -/
def reads : List (List Nat × (List DramError → Instr)) :=
  [(queryBytes, .queryByFingerprint 0), ([14, 0, 0, 0, 1, 0, 0, 0, 0, 0, 0x14, 0, 0], .queryByChunkId 0), (insertBytes 1, .insert 0)]

/-- A RELEASE in hand, with two decrements left, the first of them in bucket 5. -/
def releasing : ReleaseWork := { tag := 3, ids := [1310720, 7], results := [.stale] }

theorem test_meets_ReadErrorsPoisonOrAreCorrected :
    (∀ x ∈ reads,
      let s := asked serving x.1
      let r := recordOf x.1
      (s.Takes 0 r 0x0E ∧ byteAt r 4 = 0 ∧ bucketOf (recFingerprint r) = 5 ∨
          s.Takes 0 r 0x0E ∧ byteAt r 4 = 1 ∧ numAt r 8 5 / 262144 = 5 ∨
          s.Takes 0 r 0x0D ∧ bucketOf (recFingerprint r) = 5 ∧ s.device ≠ .passthrough ∧ 1 ≤ numAt r 8 4 ∧
            numAt r 12 4 % 64 = 0 ∧ numAt r 12 4 ≤ 4194240 ∧ 1 ≤ numAt r 16 4 ∧ numAt r 16 4 ≤ 262144 ∧
            numAt r 12 4 + numAt r 16 4 ≤ 4194304 ∧ 1 ≤ numAt r 20 4 ∧ numAt r 20 4 ≤ 16777215) ∧
        5 ∉ s.poisonList) ∧
      (let s := serving.modPort 0 fun q => { q with hand := some (.release releasing) }
       s.attached 0 = true ∧ (s.port 0).hand = some (.release releasing) ∧ releasing.ids = 1310720 :: 7 :: [] ∧ 1310720 / 262144 = 5) ∧
      ({ place := .bucket 5, error := .uncorrectable } ∉ serving.damage ++ [{ place := .bucket 5, error := .single }] ∧
        { place := .bucket 5, error := .single } ∈ serving.damage ++ [({ place := .bucket 5, error := .single } : DramError)]) ∧
      ({ place := .bucket 5, error := .uncorrectable } ∈
          serving.damage ++ [({ place := .bucket 5, error := .uncorrectable } : DramError)] ∧
        serving.poisonList.length < 64 ∧ serving.poisonCount + 1 < serving.policy.threshold ∧ serving.policy.threshold ≤ 64 ∧
        serving.Alert) ∧
      (let u : State := { asked serving queryBytes with poisonCount := 7, poisonList := [0, 1, 2, 3, 6, 7, 8] }
       5 ∉ u.poisonList ∧ u.device ≠ .passthrough ∧ u.policy.threshold ≤ u.poisonCount + 1 ∧ u.poisonCount < 4294967295) := by
  decide +kernel

theorem test_meets_EpochAdvanceRaisesEpoch :
    (let s : State := { asked serving [15] with policy := { Policy.default with triggers := ⟨false, true, true⟩ } }
     s.Takes 0 (recordOf [15]) 0x0F ∧ s.policy.triggers.command = false) ∧
      (∀ e ∈ [1, 4294967294, 4294967295],
        let s : State := { asked serving [15] with epoch := e }
        s.Takes 0 (recordOf [15]) 0x0F ∧ s.policy.triggers.command = true ∧ (∀ q, (s.port q).freeze = false) ∧ s.stagedPolicy = none ∧
          s.Alert ∧ (s.epoch < 4294967295 ∨ s.epoch = 4294967295)) := by decide +kernel

/-- Ports 0 and 1 attached, with a freeze of port 1. -/
def frozen : State := both.modPort 1 fun q => { q with freeze := true }

theorem test_meets_FreezeHoldsAdvances :
    (asked frozen [16]).Takes 0 (recordOf [16]) 0x10 ∧ (asked frozen [15]).Takes 0 (recordOf [15]) 0x0F ∧
      frozen.policy.triggers.command = true ∧ allPorts.filter (fun q => (frozen.port q).freeze) = [1] ∧
      frozen.advancePending = false ∧
      (let s : State := { asked frozen [15] with advancePending := true, absorbed := 4294967295 }
       s.Takes 0 (recordOf [15]) 0x0F ∧ s.advancePending = true) := by decide +kernel

theorem test_meets_LastThawTakesHeldAdvance :
    ((asked frozen [17]).Takes 0 (recordOf [17]) 0x11 ∧ (frozen.port 0).freeze = false) ∧
      (let s : State := { asked (both.modPort 0 fun q => { q with freeze := true }) [17] with
          advancePending := true, epoch := 4294967294 }
       s.Takes 0 (recordOf [17]) 0x11 ∧ (s.port 0).freeze = true ∧ (∀ q, q ≠ 0 → (s.port q).freeze = false) ∧
         s.advancePending = true ∧ s.epoch < 4294967295 ∧ s.stagedPolicy = none ∧ s.Alert) := by decide +kernel

theorem test_meets_TimerAndPassEndRequestAdvances :
    (let s : State := { both with
        epochTimer := some 0, policy := { Policy.default with interval := 60, triggers := ⟨true, true, false⟩ } }
     s.epochTimer = some 0 ∧ s.policy.triggers.timer = true ∧ (∀ q, (s.port q).freeze = false) ∧ s.stagedPolicy = none ∧ s.Alert) ∧
      (let s : State := { both with sweepEndRequests := 1 }
       0 < s.sweepEndRequests ∧ (∀ q, (s.port q).freeze = false) ∧ s.stagedPolicy = none ∧ s.Alert) ∧
      (let s : State := { frozen with sweepEndRequests := 1 }
       0 < s.sweepEndRequests ∧ (∃ q, (s.port q).freeze = true) ∧ s.advancePending = false) ∧
      (let s : State := { serving with epochTimer := some 0 }
       s.epochTimer = some 0 ∧ s.policy.triggers.timer = false) ∧
      (let s : State := { both with sweepEndRequests := 1, stagedPolicy := some Policy.default, epoch := 4294967294 }
       0 < s.sweepEndRequests ∧ (∀ q, (s.port q).freeze = false) ∧ s.stagedPolicy = some Policy.default ∧ s.Alert ∧
         s.epoch < 4294967295 ∧ s.poisonCount < Policy.default.threshold) := by decide +kernel

/-- A hold over every epoch. -/
def holdAll (p : PortNo) : Hold := { placer := p, first := 1, last := 4294967295, label := 0 }

theorem test_meets_HoldPlaceTakesLowestPlace :
    ((asked serving [18]).Takes 0 (recordOf [18]) 0x12 ∧ numAt (recordOf [18]) 4 4 < 1) ∧
      (let r := recordOf [18, 0, 0, 0, 1, 0, 0, 0, 1]
       let s : State := { asked serving [18, 0, 0, 0, 1, 0, 0, 0, 1] with holds := Vector.replicate 16 (some (holdAll 0)) }
       s.Takes 0 r 0x12 ∧ 1 ≤ numAt r 4 4 ∧ numAt r 4 4 ≤ numAt r 8 4 ∧ ∀ i : Fin 16, s.holds[i] ≠ none) ∧
      (let r := recordOf [18, 0, 0, 0, 1, 0, 0, 0, 1]
       let s : State := { asked serving [18, 0, 0, 0, 1, 0, 0, 0, 1] with
         holds := (Vector.replicate 16 (some (holdAll 0))).set 15 none }
       s.Takes 0 r 0x12 ∧ s.holds[(15 : Fin 16)] = none ∧ ∀ j : Fin 16, j < 15 → s.holds[j] ≠ none) := by decide +kernel

theorem test_meets_HoldLiftEmptiesPlace :
    ((asked serving [19, 0, 0, 0, 16]).Takes 0 (recordOf [19, 0, 0, 0, 16]) 0x13 ∧ 16 ≤ byteAt (recordOf [19, 0, 0, 0, 16]) 4) ∧
      (∀ h ∈ [none, some (holdAll 1), some (holdAll 0)],
        let s : State := { asked serving [19, 0, 0, 0, 15] with holds := serving.holds.set 15 h }
        s.Takes 0 (recordOf [19, 0, 0, 0, 15]) 0x13 ∧ byteAt (recordOf [19, 0, 0, 0, 15]) 4 = (15 : Fin 16).val ∧
          s.holds[(15 : Fin 16)] = h) := by decide +kernel

theorem test_meets_HoldListPages :
    ((asked serving [20, 0, 0, 0, 16]).Takes 0 (recordOf [20, 0, 0, 0, 16]) 0x14 ∧ 16 ≤ byteAt (recordOf [20, 0, 0, 0, 16]) 4) ∧
      (let s : State := { asked serving [20, 0, 0, 0, 12] with holds := Vector.replicate 16 (some (holdAll 0)) }
       let all := (List.finRange 16).filterMap fun i => s.holds[i].map fun h => (i, h)
       let later := all.filter fun h => decide (byteAt (recordOf [20, 0, 0, 0, 12]) 4 ≤ h.1.val)
       s.Takes 0 (recordOf [20, 0, 0, 0, 12]) 0x14 ∧ later.length = 4 ∧ later[2]? = some (14, holdAll 0)) ∧
      (let s : State := { asked serving [20, 0, 0, 0, 15] with holds := Vector.replicate 16 (some (holdAll 0)) }
       let all := (List.finRange 16).filterMap fun i => s.holds[i].map fun h => (i, h)
       let later := all.filter fun h => decide (byteAt (recordOf [20, 0, 0, 0, 15]) 4 ≤ h.1.val)
       s.Takes 0 (recordOf [20, 0, 0, 0, 15]) 0x14 ∧ byteAt (recordOf [20, 0, 0, 0, 15]) 4 ≤ 15 ∧ later.length ≤ 3) := by
  decide +kernel

theorem test_meets_SweepsStartAndStop :
    ((asked serving [21, 0, 0, 0, 2]).Takes 0 (recordOf [21, 0, 0, 0, 2]) 0x15 ∧ 1 < byteAt (recordOf [21, 0, 0, 0, 2]) 4) ∧
      (let s : State := { asked serving [21, 0, 0, 0, 1, 1] with device := .rebuild }
       s.Takes 0 (recordOf [21, 0, 0, 0, 1, 1]) 0x15 ∧ byteAt (recordOf [21, 0, 0, 0, 1, 1]) 4 ≤ 1 ∧
         byteAt (recordOf [21, 0, 0, 0, 1, 1]) 5 ≤ 1 ∧ s.device ≠ .service) ∧
      (let s : State := { asked serving [21] with scanner := { Scanner.reset with state := .scanning, requester := some 1 } }
       s.Takes 0 (recordOf [21]) 0x15 ∧ s.device = .service ∧ s.scanner.state = .scanning) ∧
      ((asked serving [21, 0, 0, 0, 1, 1]).Takes 0 (recordOf [21, 0, 0, 0, 1, 1]) 0x15 ∧ serving.device = .service ∧
        serving.scanner.state = .idle) ∧
      (let s : State := { asked serving [22] with scanner := { Scanner.reset with state := .scanning, requester := some 1 } }
       s.Takes 0 (recordOf [22]) 0x16 ∧ ∃ q, s.scanner.requester = some q ∧ q ≠ 0) ∧
      ((asked serving [22]).Takes 0 (recordOf [22]) 0x16 ∧ serving.scanner.requester = none) ∧
      (let s : State := { serving with
          startRequests := 1, scanner := { Scanner.reset with mode := .continuous, requester := some 0 } }
       0 < s.startRequests ∧ s.scanner.state = .idle ∧ s.scanner.mode = .continuous ∧ s.device = .service ∧
         s.scanner.requester = some 0 ∧ s.attached 0 = true) ∧
      (let s : State := { serving with startRequests := 1 }
       0 < s.startRequests ∧ s.scanner.mode = .onePass) :=
  ⟨by decide +kernel, by decide +kernel, by decide +kernel, by decide +kernel, ⟨by decide +kernel, 1, by decide +kernel⟩,
    by decide +kernel, by decide +kernel, by decide +kernel⟩

/-- The scanner at bucket `b`, for port 0. -/
def scanningAt (s : State) (b : Nat) : State :=
  { s with scanner := { Scanner.reset with state := .scanning, cursor := b, requester := some 0 } }

theorem test_meets_ExaminationReclaims :
    (∀ b ∈ [0, 4194302, 4194303],
      let s := scanningAt serving b
      s.scanner.state = .scanning ∧ s.scanner.requester = some 0 ∧ s.scanner.queue = [] ∧ s.scanner.finishing = false ∧
        s.scanner.cursor = b ∧ s.attached 0 = true ∧ s.Readable [] b ∧ s.Unwatched ∧ Memory.wf s = true ∧
        (∀ i : Fin 16, (s.bucket b)[i].entry = none) ∧ s.Alert) ∧
      (∀ full ∈ [false, true],
        let x : Entry := { liveEntry 1 0 with state := .zero 40, lastRef := 40 }
        let u : State := { scanningAt (holding serving x) 5 with epoch := 42 }
        let s := watching (if full then fullRing u else u) 1
        s.scanner.state = .scanning ∧ s.scanner.requester = some 0 ∧ s.scanner.queue = [] ∧ s.scanner.cursor = 5 ∧
          s.Readable [] 5 ∧ Memory.wf s = true ∧ (s.bucket 5)[(0 : Fin 16)].entry = some x ∧
          s.policy.grace ≤ s.epoch - 40 ∧ (∀ k : Fin 16, s.holds[k] = none) ∧
          (∀ j : Fin 16, j ≠ 0 → (s.bucket 5)[j].entry = none) ∧ 1 ≤ s.occupancy ∧ s.CrossesQuietly (s.occupancy - 1) ∧
          (s.port 0).sees s.occupancy (s.occupancy - 1) = true ∧ s.canWrite 0 = !full ∧ Writer.reclaim ∉ (s.port 0).waiting) := by
  decide +kernel

theorem test_meets_ProposeOpensOrApplies :
    (let r := recordOf [23, 0, 0, 0, 4]
     let s := asked both [23, 0, 0, 0, 4]
     s.Takes 0 r 0x17 ∧ recProposal? r = some .deviceReset ∧ ProposalBody.deviceReset.valid = true ∧ s.proposal = none ∧
       allPorts.filter (fun q => decide (q ≠ 0) && s.attached q) = [1] ∧ s.Alert ∧ s.mayPropose .deviceReset = true) ∧
      (let s := asked serving [23, 0, 0, 0, 4]
       allPorts.filter (fun q => decide (q ≠ 0) && s.attached q) = [] ∧ s.Alert) ∧
      (let r := recordOf [23, 0, 0, 0, 0, 3, 0, 0, 4, 4, 0, 0, 8, 0, 0, 0, 16]
       let prof : Profile := { window := 4, exponent := 4, minimum := 8, maximum := 16, seed := 0 }
       let s := asked serving [23, 0, 0, 0, 0, 3, 0, 0, 4, 4, 0, 0, 8, 0, 0, 0, 16]
       s.Takes 0 r 0x17 ∧ recProposal? r = some (.profileInstall 3 prof) ∧ (ProposalBody.profileInstall 3 prof).valid = true ∧
         s.slots[(3 : Fin 4)] = .empty) ∧
      (recProposal? (recordOf [23, 0, 0, 0, 1, 0]) = some (.profileRetire 0) ∧
        serving.slots[(0 : Fin 4)] = .active Profile.default (BitVec.ofNat 32 (263 ^ 47)) 0) ∧
      (let s : State := { serving with slots := serving.slots.set 0 (.active Profile.default 0 64) }
       s.slots[(0 : Fin 4)] = .active Profile.default 0 (63 + 1)) ∧
      (let r := recordOf [23, 0, 0, 0, 2, 0, 0, 0, 2, 1, 10, 8, 0, 0, 0, 0, 30, 0, 0xD0, 7, 0x2C, 1]
       recProposal? r = some (.policy Policy.default) ∧ (ProposalBody.policy Policy.default).valid = true ∧
         serving.device = .service) ∧
      (let s : State := { asked serving [23, 0, 0, 0, 3] with device := .rebuild }
       s.Takes 0 (recordOf [23, 0, 0, 0, 3]) 0x17 ∧ recProposal? (recordOf [23, 0, 0, 0, 3]) = some .serviceStart ∧
         s.device = .rebuild) := by decide +kernel

/-- A proposal for a device reset by port 1, required of port 0. -/
def openReset : Proposal := { body := .deviceReset, proposer := 1, required := [0], received := [], deadline := some 0 }

theorem test_meets_ProposeAndConsentAreRefused :
    ((asked serving [23, 0, 0, 0, 5]).Takes 0 (recordOf [23, 0, 0, 0, 5]) 0x17 ∧ 4 < byteAt (recordOf [23, 0, 0, 0, 5]) 4) ∧
      (byteAt (recordOf [23, 0, 0, 0, 1, 4]) 4 < 2 ∧ 3 < byteAt (recordOf [23, 0, 0, 0, 1, 4]) 5) ∧
      (byteAt (recordOf [23, 0, 0, 0, 2, 0, 0, 0, 2, 8]) 4 = 2 ∧ 7 < byteAt (recordOf [23, 0, 0, 0, 2, 0, 0, 0, 2, 8]) 9) ∧
      (∃ b, recProposal? (recordOf [23]) = some b ∧ b.valid = false) ∧
      (let s : State := { asked both [23, 0, 0, 0, 4] with proposal := some openReset }
       s.Takes 0 (recordOf [23, 0, 0, 0, 4]) 0x17 ∧ recProposal? (recordOf [23, 0, 0, 0, 4]) = some .deviceReset ∧
         s.proposal ≠ none) ∧
      ((asked serving [23, 0, 0, 0, 3]).Takes 0 (recordOf [23, 0, 0, 0, 3]) 0x17 ∧
        recProposal? (recordOf [23, 0, 0, 0, 3]) = some .serviceStart ∧ ProposalBody.serviceStart.valid = true ∧
        serving.proposal = none ∧ serving.device ≠ .rebuild) ∧
      (recProposal? (recordOf [23, 0, 0, 0, 1, 3]) = some (.profileRetire 3) ∧ serving.slots[(3 : Fin 4)] = .empty) ∧
      ((asked both [24, 0, 0, 0, 5]).Takes 0 (recordOf [24, 0, 0, 0, 5]) 0x18 ∧ 4 < byteAt (recordOf [24, 0, 0, 0, 5]) 4) ∧
      ((asked both [24, 0, 0, 0, 4]).Takes 0 (recordOf [24, 0, 0, 0, 4]) 0x18 ∧
        recProposal? (recordOf [24, 0, 0, 0, 4]) = some .deviceReset ∧ both.proposal = none) ∧
      (let s : State := { asked both [24, 0, 0, 0, 4] with proposal := some { openReset with required := [1] } }
       s.Takes 0 (recordOf [24, 0, 0, 0, 4]) 0x18 ∧ s.proposal = some { openReset with required := [1] } ∧
         (0 : PortNo) ∉ ({ openReset with required := [1] } : Proposal).required) :=
  ⟨by decide +kernel, by decide +kernel, by decide +kernel, ⟨_, rfl, by decide +kernel⟩, by decide +kernel, by decide +kernel,
    by decide +kernel, by decide +kernel, by decide +kernel, by decide +kernel⟩

/-- A proposal of each kind, as a CONSENT spells it, its body, and the state it meets. -/
def consents : List (List Nat × ProposalBody × (State → State)) :=
  let prof : Profile := { window := 4, exponent := 4, minimum := 8, maximum := 16, seed := 0 }
  let policy := [24, 0, 0, 0, 2, 0, 0, 0, 2, 1, 10, 8, 0, 0, 0, 0, 30, 0, 0xD0, 7, 0x2C, 1]
  [([24, 0, 0, 0, 0, 3, 0, 0, 4, 4, 0, 0, 8, 0, 0, 0, 16], .profileInstall 3 prof, id),
   ([24, 0, 0, 0, 1, 0], .profileRetire 0, id),
   ([24, 0, 0, 0, 1, 0], .profileRetire 0, fun s => { s with slots := s.slots.set 0 (.active Profile.default 0 64) }),
   (policy, .policy Policy.default, id),
   (policy, .policy Policy.default, fun s => { s with device := .rebuild, poisonCount := 7, epochTimer := some 5 }),
   ([24, 0, 0, 0, 3], .serviceStart, fun s => { s with device := .rebuild }),
   ([24, 0, 0, 0, 3], .serviceStart, id),
   ([24, 0, 0, 0, 4], .deviceReset, id)]

/-- Port 1's proposal of that kind, with port 0's CONSENT the last one required. -/
def consenting (x : List Nat × ProposalBody × (State → State)) : State :=
  x.2.2 { asked both x.1 with proposal := some { openReset with body := x.2.1 } }

theorem test_meets_ConsentJoinsAppliesOrRejects :
    (let s : State := { asked both [24, 0, 0, 0, 4] with proposal := some { openReset with required := [0, 2] } }
     s.Takes 0 (recordOf [24, 0, 0, 0, 4]) 0x18 ∧ recProposal? (recordOf [24, 0, 0, 0, 4]) = some openReset.body ∧
       s.proposal = some { openReset with required := [0, 2] } ∧ s.Alert ∧ [(0 : PortNo), 2].Nodup ∧ (1 : PortNo) ∉ [(0 : PortNo), 2] ∧
       ∃ k ∈ [(0 : PortNo), 2], k ∉ [(0 : PortNo)]) ∧
      (∀ x ∈ consents,
        let s := consenting x
        s.Takes 0 (recordOf x.1) 0x18 ∧ recProposal? (recordOf x.1) = some x.2.1 ∧
          s.proposal = some { openReset with body := x.2.1 } ∧ (0 : PortNo) ∈ openReset.required ∧ openReset.required.Nodup ∧
          openReset.proposer ∉ openReset.required ∧ (∀ k ∈ openReset.required, k ∈ [(0 : PortNo)]) ∧ s.Alert ∧ s.settlings = []) ∧
      (let s : State := { asked both [24, 0, 0, 0, 3] with proposal := some openReset }
       s.Takes 0 (recordOf [24, 0, 0, 0, 3]) 0x18 ∧ recProposal? (recordOf [24, 0, 0, 0, 3]) = some .serviceStart ∧
         ProposalBody.serviceStart ≠ openReset.body) ∧
      (let s : State := { both with proposal := some openReset }
       s.proposal = some openReset ∧ openReset.deadline = some 0 ∧ openReset.required.Nodup ∧ s.Alert) :=
  ⟨by decide +kernel, by decide +kernel, by decide +kernel, by decide +kernel⟩

theorem test_meets_WithdrawEndsProposal :
    ((asked both [25]).Takes 0 (recordOf [25]) 0x19 ∧ both.proposal = none) ∧
      (let s : State := { asked both [25] with proposal := some openReset }
       s.Takes 0 (recordOf [25]) 0x19 ∧ s.proposal = some openReset ∧ openReset.proposer ≠ 0) ∧
      (let q : Proposal := { openReset with proposer := 0, required := [1] }
       let s : State := { asked both [25] with proposal := some q }
       s.Takes 0 (recordOf [25]) 0x19 ∧ s.proposal = some q ∧ q.proposer = 0 ∧ q.required.Nodup ∧ 0 ∉ q.required ∧ s.Alert) := by
  decide +kernel

theorem test_meets_DeviceResetFreesLanesAndIndex :
    ∀ k ∈ [0, 1, 2, 3],
      let s : State := watching { asked (withPair []) [23, 0, 0, 0, 4] with poisonList := [4194303] } k
      s.Takes 0 (recordOf [23, 0, 0, 0, 4]) 0x17 ∧ byteAt (recordOf [23, 0, 0, 0, 4]) 4 = 4 ∧ s.proposal = none ∧
        (∀ q, q ≠ 0 → s.attached q = false) ∧ s.settlings = [] ∧ s.Alert ∧ Memory.wf s = true ∧ s.Readable [] 5 ∧
        4194303 ∈ s.poisonList := by decide +kernel

theorem test_meets_EngineGrantGoesRound :
    (let s : State := { (serving.setLane 63 laneOn).setLane 3 laneOn with lastGranted := 3 }
     (∀ m, ((s.lane m).state = .active ∧ (s.lane m).grant = none ∧ (s.lane m).stalls = Stalls.clear ∧ (s.lane m).chunk = none) ↔
         m = 63 ∨ m = 3) ∧
       (s.lane 63).items = .data 65536 100 0 :: [] ∧ (s.lane 3).items = .data 65536 100 0 :: [] ∧
       (∀ m, m = 63 ∨ m = 3 → (63 : LaneNo) - s.lastGranted - 1 ≤ m - s.lastGranted - 1) ∧ (∀ m, (s.lane m).grant = none)) ∧
      (∀ m, (serving.lane m).state ≠ .active) ∧
      (let s : State := { serving with lanes := Vector.ofFn fun n => { laneOn with
          grant := if h : n.val < 8 then some { engine := ⟨n.val, h⟩, quota := 65536, taken := 0 } else none } }
       ∀ f : Fin 8, ∃ m, (s.lane m).grant.map Grant.engine = some f) := by decide +kernel

/-- Lane 2 with an engine, before byte `k` of its DATA item, with a partial chunk of 7 bytes. -/
def taking (k taken seed maximum : Nat) : State :=
  { serving.setLane 2 { laneOn with
      part := { length := 7, window := [1, 65, 66, 67], hash := some (directHash [1, 65, 66, 67]), digest := DigestState.start,
                check := crcStart }
      offset := 7, grant := some { engine := 0, quota := 65536, taken := taken }, items := [.data 65536 100 k] } with
    slots := serving.slots.set 0
      (.active { window := 4, exponent := 4, minimum := 8, maximum := maximum, seed := seed } 18191447 1) }

theorem test_meets_ByteTakenExtendsOrCuts :
    (∀ a ∈ [(0, 0, 0, 32), (99, 0, 0, 32), (98, 65534, 13, 32), (98, 65535, 0, 8)],
      let s := taking a.1 a.2.1 a.2.2.1 a.2.2.2
      (s.lane 2).state = .active ∧ (s.lane 2).stalls = Stalls.clear ∧ (s.lane 2).chunk = none ∧ (s.lane 2).run = none ∧
        (s.lane 2).held = none ∧ (s.lane 2).grant = some { engine := 0, quota := 65536, taken := a.2.1 } ∧
        (s.lane 2).items = .data 65536 100 a.1 :: [] ∧ a.1 < 100 ∧
        s.slots[(s.lane 2).slot] =
          .active { window := 4, exponent := 4, minimum := 8, maximum := a.2.2.2, seed := a.2.2.1 } 18191447 1 ∧
        (s.lane 2).nextSeq ≠ none ∧ (s.lane 2).journal.length < 262144) ∧
      (∀ seed ∈ [0, 13],
        let prof : Profile := { window := 4, exponent := 4, minimum := 8, maximum := 32, seed := seed }
        let q := ((taking 0 0 seed 32).lane 2).part.take prof 18191447 .content 68
        q.length = 8 ∧ (q.hash.map fun h => decide ((h + BitVec.ofNat 32 seed).toNat % 16 = 15)) = some (decide (seed = 13))) := by
  decide +kernel

theorem test_meets_RolledHashIsDirectHash :
    let prof : Profile := { window := 4, exponent := 4, minimum := 8, maximum := 32, seed := 0 }
    let part : Partial := { Partial.empty with length := 8, window := [65, 66, 67, 68], hash := some 1187026898 }
    1 ≤ prof.window ∧ part.window.length = prof.window ∧ prof.window ≤ part.length ∧ part.hash = some 1187026898 ∧
      1187026898 = (part.window.reverse.zipIdx.map fun x => x.1.setWidth 32 * (263 : Word32) ^ x.2).sum := by decide +kernel

/-- A run of one element. -/
def oneRun : Run :=
  { first :=
      { lane := 2, seq := 5, kind := .dup, resurrected := false, waited := false, reason := .none, cut := .content, offset := 0,
        length := 100, chunkId := some 1310720, container := 9, place := 64, fingerprint := printOf 1, check := 7, tag := none,
        cls := .hot }
    elems := [(1310720, 100)], closed := false }

theorem test_meets_CutAndTagAreReached :
    (∀ k ∈ [0, 1],
      let l := { laneOn with items := [.cut], part := { Partial.empty with length := k } }
      let s := serving.setLane 2 l
      s.lane 2 = l ∧ l.state = .active ∧ l.stalls = Stalls.clear ∧ l.chunk = none ∧ l.held = none ∧ l.run = none ∧
        l.nextSeq ≠ none ∧ l.journal.length < 262144) ∧
      (let l := { laneOn with items := [.tag 4294967295], run := some oneRun, tag := some { value := 6, overrun := false } }
       let s := serving.setLane 2 l
       s.lane 2 = l ∧ l.stalls = Stalls.clear ∧ l.run = some oneRun ∧ oneRun.closed = false ∧ l.owner = some 0 ∧
         s.canWrite 0 = true) := by decide +kernel

theorem test_meets_CheckpointAndEndCommit :
    (∀ i ∈ [Item.checkpoint, .finish], ∀ k ∈ [0, 1],
      let l := { laneOn with items := [i], part := { Partial.empty with length := k } }
      let s := serving.setLane 2 l
      s.lane 2 = l ∧ l.state = .active ∧ l.stalls = Stalls.clear ∧ l.chunk = none ∧ l.held = none ∧ l.run = none ∧
        l.nextSeq = some 1 ∧ l.journal.length < 262144 ∧ l.openC = none ∧ l.unsettled = [] ∧ l.owner = some 0 ∧
        s.canWrite 0 = true) ∧
      (let l := { laneOn with items := [.finish], unsettled := [9] }
       l.part.length = 0 ∧ l.openC = none ∧ l.unsettled ≠ []) ∧
      (let l := { laneOn with items := [.checkpoint], unsettled := [9], openC := some 9 }
       let k : Container := { sealedPair [] with state := .opened }
       let s : State := { serving.setLane 2 l with table := [k] }
       s.lane 2 = l ∧ s.container? 9 = some k ∧ k.state = .opened ∧ k.ownerLane = 2 ∧ k.ownerPort = 0 ∧ s.canWrite 0 = true ∧
         (s.port 0).notices = [] ∧ s.NoneStarvedOfContainers) ∧
      (let u : State := { serving with slots := serving.slots.set 0 (.retiring Profile.default 0 1) }
       u.slots[(0 : Fin 4)] = .retiring Profile.default 0 1) ∧
      (let u : State := { serving with slots := serving.slots.set 0 (.active Profile.default 0 1) }
       u.slots[(0 : Fin 4)] = .active Profile.default 0 (0 + 1)) := by decide +kernel

/-- Lane `n` with an ended chunk of fingerprint `printOf 1`. -/
def atLookup (s : State) (n : LaneNo) : State := s.setLane n { laneOn with chunk := some (chunkOf 1) }

/-- Lane 2 before the last byte of a longest chunk, with a journal of `k` entries. -/
def takingLast (k : Nat) (unsettled : List Nat) (seq : Option Nat) : State :=
  (taking 98 65535 0 8).modLane 2 fun l =>
    { l with journal := List.replicate k { seq := 1, what := .ref 0, length := 1 }, unsettled := unsettled, nextSeq := seq }

theorem test_meets_ByteTakenExtendsOrCuts_full :
    (∀ k unsettled seq, ((takingLast k unsettled seq).lane 2).journal.length = k ∧
        ((takingLast k unsettled seq).lane 2).unsettled = unsettled ∧ ((takingLast k unsettled seq).lane 2).nextSeq = seq ∧
        ((takingLast k unsettled seq).lane 2).stalls = Stalls.clear ∧ ((takingLast k unsettled seq).lane 2).openC = none ∧
        ((takingLast k unsettled seq).lane 2).owner = some 0 ∧ (takingLast k unsettled seq).canWrite 0 = true) ∧
      (let s := takingLast 1 [] none
       s.settlings = [] ∧ s.turns = [] ∧ ∀ p, Writer.lane 2 ∉ (s.port p).waiting) :=
  ⟨fun _ _ _ => ⟨List.length_replicate, rfl, rfl, rfl, rfl, rfl, (by decide +kernel : serving.canWrite 0 = true)⟩, by decide +kernel⟩

theorem seeks_of {s : State} {n : LaneNo} {c : Chunk} {q : Nat} {st : Stalls} {l : Lane} (h : s.lane n = l) (ha : l.state = .active)
    (hc : l.chunk = some c) (hs : l.stalls = st) (ho : l.owner = some 0) (hh : l.held = none) (hg : l.grant = none)
    (hi : l.items ≠ []) (hq : l.nextSeq = some q) (hb : q < 4294967295) (ht : s.turns = []) : s.Seeks n 0 c q st := by
  subst h
  exact ⟨ha, hc, hs, ho, hh, hg, hi, ⟨hq, hb⟩, ht⟩

theorem poised_of {s : State} {n : LaneNo} {c : Chunk} {st : Stalls} {l : Lane} (h : s.lane n = l) (ha : l.state = .active)
    (hc : l.chunk = some c) (hs : l.stalls = st) (ho : l.owner = some 0) (hr : s.canWrite 0 = true) (hrun : l.run = none)
    (hh : l.held = none) (hk : l.cls = .cold) (hw : l.windowChunks = 0) (hg : l.grant = none) (hi : l.items ≠ [])
    (hq : l.nextSeq = some 1) (hj : l.journal = []) (ht : s.turns = []) : s.Poised n 0 c 1 st := by
  subst h
  exact ⟨⟨ha, hc, hs, ho, hh, hg, hi, ⟨hq, by omega⟩, ht⟩, hr, hrun, hk, by omega, by simp [hj]⟩

/-- Lane 7 at a lookup that a state's other parts do not disturb. -/
theorem poised_atLookup (s : State) (h : s.lane 7 = { laneOn with chunk := some (chunkOf 1) }) (hr : s.canWrite 0 = true)
    (ht : s.turns = []) : s.Poised 7 0 (chunkOf 1) 1 Stalls.clear :=
  poised_of h rfl rfl rfl rfl hr rfl rfl rfl rfl rfl (by decide) rfl rfl ht

theorem test_meets_LookupFindsDuplicate :
    (∀ x ∈ [liveEntry 1 16777214, { liveEntry 1 0 with state := .zero 1 }, pendingEntry 7 1 16777215],
      let s := atLookup (holding serving x) 7
      s.device ≠ .passthrough ∧ bucketOf (chunkOf 1).fingerprint = 5 ∧ s.Readable [] 5 ∧
        (s.bucket 5).FirstWith (chunkOf 1).fingerprint 0 x ∧ x.check = (chunkOf 1).check ∧
        (x.state = .pending 7 ∨ x.state = .live ∨ x.state = .zero 1)) ∧
      ∀ x, (atLookup (holding serving x) 7).Poised 7 0 (chunkOf 1) 1 Stalls.clear :=
  ⟨by decide +kernel, fun _ =>
    poised_atLookup _ (by rfl) (by decide +kernel : serving.canWrite 0 = true) (by rfl)⟩

/-- A run of `k` elements. -/
def runOf (k : Nat) : Run := { oneRun with elems := List.replicate k (1310720, 100) }

/-- A lane at a lookup: HOT and about to leave it, with a run, a class window of `w` verdicts and a journal of `k` entries. -/
def hotLane (run : Option Run) (w k seq : Nat) : Lane :=
  { laneOn with
      chunk := some (chunkOf 1), cls := .hot, candidate := some .cold, agreement := 2, run := run, windowChunks := w, windowDups := 63
      journal := List.replicate k { seq := 1, what := .ref 0, length := 1 }, nextSeq := some seq }

/-- A LIVE entry of bucket 5 and lane 7 at its lookup. -/
def hotLookup (run : Option Run) (w k seq : Nat) : State := (holding serving (liveEntry 1 16777214)).setLane 7 (hotLane run w k seq)

theorem test_meets_LookupFindsDuplicate_runs :
    (∀ run w k, (hotLookup run w k 4294967294).Seeks 7 0 (chunkOf 1) 4294967294 Stalls.clear ∧
        ((hotLookup run w k 1).lane 7).journal.length = k) ∧
      (∀ run ∈ [none, some (runOf 1), some (runOf 10), some (runOf 11)], ∀ w ∈ [0, 254, 255],
        let s := hotLookup run w 0 1
        let l := s.lane 7
        s.Readable [] 5 ∧ (s.bucket 5).FirstWith (chunkOf 1).fingerprint 0 (liveEntry 1 16777214) ∧
          (liveEntry 1 16777214).check = (chunkOf 1).check ∧ l.journal.length < 262144 ∧ l.windowChunks = w ∧
          (l.run.map fun r => r.closed).getD false = false ∧
          ((l.disposed 1 { seq := 1, what := .ref 1310720, length := 100 } true).judged 64).cls = .hot ∧
          ((l.disposed 1 { seq := 1, what := .ref 1310720, length := 100 } true).judged 63).cls = .cold ∧
          s.canWrite 0 = true ∧ 2 ≤ (s.port 0).free ∧ (fullRing s).canWrite 0 = false ∧ s.Alert) :=
  ⟨fun _ _ _ => ⟨seeks_of (l := hotLane _ _ _ _) (by rfl) rfl rfl rfl rfl rfl rfl (by simp [hotLane, laneOn]) rfl (by decide) (by rfl),
    List.length_replicate⟩, by decide +kernel⟩

theorem test_meets_LookupPlacesNewChunk :
    (let s := atLookup (watching serving 1) 7
     s.Poised 7 0 (chunkOf 1) 1 Stalls.clear ∧
       (s.device ≠ .passthrough ∧ s.Readable [] 5 ∧ s.CrossesQuietly (s.occupancy + 1) ∧
         (s.port 0).sees s.occupancy (s.occupancy + 1) = true ∧ (s.bucket 5).Lacks (chunkOf 1).fingerprint ∧
         (s.bucket 5).FirstFree 0 ∧ (s.lane 7).openC = none ∧ s.counter ≤ 4294967295 ∧ s.table.length < 256 ∧
         (s.port 0).notices.length < 256 ∧ ∀ d ∈ s.table, d.number < s.counter)) ∧
      (∀ fill, (let k : Container := { sealedPair [] with ownerLane := 7, state := .opened, fill := fill }
        let s : State := { serving.setLane 7 { laneOn with chunk := some (chunkOf 1), openC := some 9, unsettled := [9] } with
          table := [k], counter := 4294967295 }
        s.Poised 7 0 (chunkOf 1) 1 Stalls.clear ∧ (s.port 0).Rings { address := 4096, size := 256 })) ∧
      (∀ fill ∈ [4194204, 4194205],
        let k : Container := { sealedPair [] with ownerLane := 7, state := .opened, fill := fill }
        let s : State := { serving.setLane 7 { laneOn with chunk := some (chunkOf 1), openC := some 9, unsettled := [9] } with
          table := [k], counter := 4294967295 }
        s.container? 9 = some k ∧ k.ownerPort = 0 ∧ (k.fill + (chunkOf 1).length ≤ 4194304 ↔ fill = 4194204) ∧
          (s.bucket 5).FirstFree 0 ∧ s.counter ≤ 4294967295 ∧ s.table.length < 256 ∧ (s.port 0).notices = [] ∧
          s.NoneStarvedOfContainers ∧ 2 ≤ (s.port 0).free ∧ ∀ d ∈ s.table, d.number < s.counter) :=
  ⟨⟨poised_atLookup _ (by rfl) (by rfl) (by rfl), by decide +kernel⟩,
    fun _ => ⟨poised_of (l := { laneOn with chunk := some (chunkOf 1), openC := some 9, unsettled := [9] }) (by rfl) rfl rfl rfl rfl
      (by decide +kernel : serving.canWrite 0 = true) rfl rfl rfl rfl rfl (by decide) rfl rfl (by rfl),
      ⟨rfl, by decide, (by decide : 0 < 256), (by decide : 0 < 256)⟩⟩, by decide +kernel⟩

theorem test_meets_LookupUnindexedWaitsOrStalls :
    (let k : Container := { sealedPair [] with state := .opened, fill := 128 }
     let s : State := { serving.setLane 7 { laneOn with chunk := some (chunkOf 1), openC := some 9, unsettled := [9] } with
       table := [k] }
     s.Poised 7 0 (chunkOf 1) 1 Stalls.clear ∧ s.container? 9 = some k ∧
       (let f : State := { s with index := [(5, fullBucket)] }
        (f.bucket 5).Lacks (chunkOf 1).fingerprint ∧ ∀ i : Fin 16, (f.bucket 5)[i].entry ≠ none) ∧
       (let x : Entry := { liveEntry 1 1 with check := 8 }
        ((holding s x).bucket 5).FirstWith (chunkOf 1).fingerprint 0 x ∧ x.check ≠ (chunkOf 1).check)) ∧
      (∀ k, (let s : State := { atLookup (holding serving (pendingEntry 2 1 1)) 7 with table := [k] }
        s.Poised 7 0 (chunkOf 1) 1 Stalls.clear)) ∧
      (∀ k ∈ [sealedPair [], { sealedPair [] with state := .opened }],
        let x := pendingEntry 2 1 1
        let s : State := { atLookup (holding serving x) 7 with table := [k] }
        (s.bucket 5).FirstWith (chunkOf 1).fingerprint 0 x ∧ x.check = (chunkOf 1).check ∧ x.state = .pending 2 ∧
          s.container? x.container = some k ∧ k.ownerLane = 2 ∧ k.ownerPort = 0 ∧ s.canWrite 0 = true ∧ (s.port 0).notices = [] ∧
          s.NoneStarvedOfContainers) ∧
      (∀ k table, (let s : State := { atLookup serving 7 with counter := k, table := table }
        s.Poised 7 0 (chunkOf 1) 1 Stalls.clear)) ∧
      (let s : State := { atLookup serving 7 with
          counter := 4294967295, table := (List.range 256).map fun i => { sealedPair [] with number := i + 1 } }
       256 ≤ s.table.length ∧ s.counter ≤ 4294967295 ∧ (s.lane 7).openC = none ∧ (s.bucket 5).FirstFree 0) ∧
      (let s : State := { atLookup serving 7 with counter := 4294967296 }
       4294967295 < s.counter ∧ s.Alert ∧ (s.lane 7).openC = none ∧ (s.bucket 5).FirstFree 0) :=
  ⟨⟨poised_of (l := { laneOn with chunk := some (chunkOf 1), openC := some 9, unsettled := [9] }) (by rfl) rfl rfl rfl rfl (by rfl)
      rfl rfl rfl rfl rfl (by decide) rfl rfl (by rfl), by decide +kernel, by decide +kernel, by decide +kernel⟩,
    fun _ => poised_atLookup _ (by rfl) (by decide +kernel : serving.canWrite 0 = true) (by rfl), by decide +kernel,
    fun _ _ => poised_atLookup _ (by rfl) (by decide +kernel : serving.canWrite 0 = true) (by rfl), by decide +kernel, by decide +kernel⟩

theorem test_meets_WaitersComplete :
    let ref : SlotRef := { bucket := 5, slot := 0, generation := 0 }
    let l := { laneOn with
      chunk := some { chunkOf 1 with waited := true }, stalls := { Stalls.clear with waiting := true }, waitTarget := some 9 }
    let g : Settling := { container := 9, sender := 0, stray := false, tag := 0, members := [ref], settled := 1, zeros := 1, dups := 0,
                          repeats := 0, waiters := [(12, ref), (13, ref)] }
    let x : Entry := { liveEntry 1 0 with state := .zero 1 }
    let s : State := { holding (serving.setLane 12 l) x with settlings := [g] }
    let u : State := { s with settlings := [{ g with members := [], waiters := [(12, ref)] }] }
    let v : State := { s with turns := [{ waiters := [11], settled := some 9 }] }
    let w : State := { s with settlings := [{ g with waiters := [(12, ref)] }] }
    (s.Poised 12 0 { chunkOf 1 with waited := true } 1 { Stalls.clear with waiting := true } ∧
        (s.device ≠ .passthrough ∧ g.waiters = (12, ref) :: [(13, ref)] ∧ ref ∈ g.members ∧ s.Readable [] ref.bucket ∧ s.Holds ref x)) ∧
      (u.Poised 12 0 { chunkOf 1 with waited := true } 1 { Stalls.clear with waiting := true } ∧ ref ∉ ([] : List SlotRef) ∧
        u.canWrite 0 = true) ∧
      { s with device := .passthrough }.Poised 12 0 { chunkOf 1 with waited := true } 1 { Stalls.clear with waiting := true } ∧
      w.Poised 12 0 { chunkOf 1 with waited := true } 1 { Stalls.clear with waiting := true } ∧
      (w.device ≠ .passthrough ∧ w.Readable [] ref.bucket ∧ w.Holds ref x ∧ w.canWrite 0 = true ∧ 2 ≤ (w.port 0).free ∧
        (w.port 0).ring = some { address := 4096, size := 256 }) ∧
      ∃ q ∈ v.turns, q.settled = some 9 := by
  refine ⟨⟨poised_of (l := _) rfl rfl rfl rfl rfl (by rfl) rfl rfl rfl rfl rfl (by decide) rfl rfl (by rfl), by decide +kernel⟩,
    ⟨poised_of (l := _) rfl rfl rfl rfl rfl (by rfl) rfl rfl rfl rfl rfl (by decide) rfl rfl (by rfl), by decide +kernel, by rfl⟩,
    poised_of (l := _) rfl rfl rfl rfl rfl (by rfl) rfl rfl rfl rfl rfl (by decide) rfl rfl (by rfl),
    poised_of (l := _) rfl rfl rfl rfl rfl (by rfl) rfl rfl rfl rfl rfl (by decide) rfl rfl (by rfl), by decide +kernel,
    by decide +kernel⟩

/-- An abort with nothing done yet. -/
def freshAbort : AbortRecord :=
  { cause := .command, stateAt := .active, withdrawn := 0, released := 0, pinned := 0, stale := 0, underflow := 0, poisoned := 0,
    skipped := 0, walkEnded := false, discard := false }

/-- R86, R91: the next waiter is not completed before the one sent to repeat its lookup has done so. -/
theorem test_waiter_completion_held :
    let ref : SlotRef := { bucket := 5, slot := 0, generation := 0 }
    let l := { laneOn with
      chunk := some { chunkOf 1 with waited := true }, stalls := { Stalls.clear with waiting := true }, waitTarget := some 9 }
    let s : State := { (serving.setLane 12 l).setLane 13 l with
      settlings := [{ container := 9, sender := 0, stray := false, tag := 0, members := [], settled := 0, zeros := 0, dups := 0,
                      repeats := 0, waiters := [(12, ref), (13, ref)] }] }
    let t := after (.waiterCompletion 9 []) s
    after (.waiterCompletion 9 []) t = t ∧
      ((after (.waiterCompletion 9 []) (after (.lookup 12 []) t)).lane 13).waitTarget = none := by decide +kernel

theorem test_meets_ContainersAreWithdrawn :
    (let s := withPair [(12, ⟨5, 0, 0⟩), (13, ⟨5, 0, 0⟩)]
     s.container? 9 = some (sealedPair [(12, ⟨5, 0, 0⟩), (13, ⟨5, 0, 0⟩)]) ∧ (s.lane 2).openC ≠ some 9 ∧ s.canWrite 0 = true ∧
       (s.port 0).notices = [] ∧ s.turns = [] ∧ s.Unwatched ∧ s.Alert ∧ Memory.wf s = true ∧ slotsDistinct pair ∧
       (∀ m ∈ pair, s.Holds m (pairEntry m) ∧ s.Readable [] m.bucket) ∧ (s.lane 2).abort = none ∧
       (2 : LaneNo) ∉ [(12 : LaneNo), 13] ∧ ∀ m ∈ [(12 : LaneNo), 13], (s.lane m).stalls.ringFull = false) ∧
      ((withPair []).lane 2).Quiet ∧
      (let s := (withPair []).setLane 2 { laneOn with state := .aborting, abort := some freshAbort, unsettled := [9, 10] }
       s.container? 9 = some (sealedPair []) ∧ (s.lane 2).state = .aborting ∧ (s.lane 2).abort = some freshAbort ∧
         (s.lane 2).unsettled = 9 :: [10] ∧ (∃ m ∈ [10], m ≠ 9)) ∧
      (let l := { laneOn with
        state := .aborting, abort := some freshAbort, unsettled := [9], openC := some 9, journal := [⟨1, .ref 0, 1⟩] }
       let k := { sealedPair [] with state := .opened }
       let s : State := { (withPair []).setLane 2 l with table := [k] }
       s.container? 9 = some k ∧ s.lane 2 = l ∧ l.unsettled = 9 :: [] ∧ l.journal ≠ []) ∧
      (∀ owner ∈ [none, some (0 : PortNo)],
        let l := { laneOn with state := .aborting, abort := some freshAbort, unsettled := [9], openC := some 9, owner := owner }
        let k := { sealedPair [] with state := .opened }
        let s : State := usedOnce { (withPair []).setLane 2 l with table := [k] }
        s.container? 9 = some k ∧ s.lane 2 = l ∧ s.NoneStarvedOfContainers ∧ 9 ∈ l.unsettled ∧ (∀ m ∈ l.unsettled, m = 9) ∧
          l.journal = [] ∧ freshAbort.walkEnded = false ∧ freshAbort.discard = false ∧ l.run = none ∧ l.held = none ∧
          l.grant = none ∧ 2 ≤ (s.port 0).free ∧ s.canWrite 0 = true ∧ s.slots[l.slot] = .active Profile.default 0 (0 + 1)) ∧
      (∀ l ∈ countingLanes [9, 10] [] ++ countingLanes [9] [] ++ countingLanes [9] [.cut],
        let s := countingPair l
        s.container? 9 = some (sealedPair []) ∧ s.lane 2 = l ∧ s.NoneStarvedOfContainers ∧ l.owner = some 0 ∧
          2 ≤ (s.port 0).free ∧ l.abort = none ∧ l.run = none ∧ l.held = none ∧ l.grant = none ∧ l.openC ≠ some 9 ∧
          s.slots[l.slot] = .retiring Profile.default 0 1) :=
  ⟨by decide +kernel, quiet_of (by decide +kernel) (by decide +kernel) (by decide +kernel) (by decide +kernel), by decide +kernel,
    by decide +kernel, by decide +kernel, by decide +kernel⟩

theorem test_meets_WalkReleasesJournal :
    (∀ e ∈ [JournalEntry.mk 2 (.ref 1310720) 100, ⟨2, .unindexed 9 64, 100⟩],
      let l := { laneOn with state := .aborting, abort := some freshAbort, journal := [⟨1, .ref 0, 1⟩, e] }
      let s := (holding serving (liveEntry 1 2)).setLane 2 l
      s.lane 2 = l ∧ l.unsettled = [] ∧ l.journal = [⟨1, .ref 0, 1⟩] ++ [e] ∧
        (∀ d ∈ s.damage ++ [], d ≠ { place := .journal 2 1, error := .single }) ∧
        { place := .journal 2 1, error := .uncorrectable } ∉ s.damage ++ [] ∧
        (s.decrement 1310720).2.poisonCount = s.poisonCount) ∧
      (∀ k ∈ [0, 1], { place := .journal 2 k, error := .uncorrectable } ∈
          serving.damage ++ [({ place := .journal 2 k, error := .uncorrectable } : DramError)]) ∧
      (∀ e ∈ [JournalEntry.mk 1 (.ref 1310720) 100, ⟨1, .unindexed 9 64, 1⟩], ∀ owner ∈ [none, some (0 : PortNo)],
        let l := { laneOn with state := .aborting, abort := some freshAbort, journal := [e], owner := owner }
        let s := usedOnce ((holding serving (liveEntry 1 1)).setLane 2 l)
        let u := (s.decrement 1310720).2
        s.lane 2 = l ∧ l.journal = [] ++ [e] ∧ (∀ d ∈ s.damage ++ [], d ≠ { place := .journal 2 0, error := .single }) ∧
          { place := .journal 2 0, error := .uncorrectable } ∉ s.damage ++ [] ∧ u.poisonCount = s.poisonCount ∧
          freshAbort.discard = false ∧ s.canWrite 0 = true ∧ u.canWrite 0 = true ∧ u.slots = s.slots ∧
          s.slots[l.slot] = .active Profile.default 0 (0 + 1)) :=
  ⟨by decide +kernel, by decide +kernel, by decide +kernel⟩

/-- R111, R113: the ABORTED record counts the release of the last entry walked. -/
theorem test_walk_ends_on_ref :
    let l := { laneOn with state := .aborting, abort := some freshAbort, journal := [⟨1, .ref 1310720, 100⟩] }
    let t := after (.walkStep 2 []) (usedOnce ((holding serving (liveEntry 1 1)).setLane 2 l))
    (t.lane 2).state = .free ∧ t.ringRecord 0 0 =
      (Response.lane
        { lane := 2, forced := false, unresolved := false, detail := 0, stateCode := 1, offset := 0, nextSeq := l.nextSeq.getD 0,
          tag := none, body := .aborted 0 1 0 0 0 0 0 }).bytes 0 true := by decide +kernel

/-- Lane 2 at the last place of its walk, with a closed run, in front of a full ring. -/
def lastWalk : State :=
  fullRing (serving.setLane 2 { laneOn with
    state := .aborting, abort := some freshAbort, journal := [⟨1, .unindexed 9 64, 1⟩], run := some { oneRun with closed := true } })

theorem test_meets_WalkReleasesJournal_waits :
    (lastWalk.lane 2).run = some { oneRun with closed := true } ∧ (lastWalk.lane 2).owner = some 0 ∧
      (lastWalk.lane 2).unsettled = [] ∧ (lastWalk.lane 2).abort = some freshAbort ∧
      (lastWalk.lane 2).journal = [] ++ [⟨1, .unindexed 9 64, 1⟩] ∧ lastWalk.attached 0 = true ∧ lastWalk.canWrite 0 = false ∧
      Writer.lane 2 ∉ (lastWalk.port 0).waiting := by decide +kernel

/-- R63, R65, R180: a run closed by an abort, with no position free at the walk's end, waits under RING_FULL. -/
theorem test_walk_end_ring_full : ((after (.walkStep 2 []) lastWalk).lane 2).stalls.ringFull = true := by decide +kernel

/-- Port 0 fails while port 1 is attached and holds no freeze, or has a proposal open that port 0 is required for. -/
def failing (freeze : Bool) (received : List PortNo) : State :=
  { (both.setLane 3 { laneOn with action := .abandon, run := some oneRun, unsettled := [9] }).modPort 0 (fun q =>
      { q with freeze := freeze, watchdog := some 0 }) with
    advancePending := true
    proposal := some { body := .serviceStart, proposer := 1, required := [0, 2], received := received, deadline := some 5 } }

theorem test_meets_PortFailureEntersFailSafe :
    (let s := (both.setLane 2 laneOn).setLane 3 { laneOn with action := .abandon }
     s.attached 0 = true ∧ s.settlings = [] ∧ s.proposal = none ∧ s.advancePending = false ∧ s.attached 1 = true ∧
       (s.lane 2).owner = some 0 ∧ (s.lane 2).state.serves = true ∧ (s.lane 2).action = .suspend ∧ (s.lane 3).action = .abandon) ∧
      (∀ freeze ∈ [false, true], ∀ received ∈ [[], [0, 2]],
        let s := failing freeze received
        s.attached 0 = true ∧ (s.port 0).watchdog = some 0 ∧ s.settlings = [] ∧ (s.port 0).freeze = freeze ∧
          (∀ q, q ≠ 0 → (s.port q).freeze = false) ∧ s.advancePending = true ∧ s.stagedPolicy = none ∧
          s.proposal.map Proposal.received = some received ∧ (received = [] ∨ (2 : PortNo) ∈ received)) ∧
      (let s := failing false []
       (∀ m, (s.lane m).owner = some 0 ↔ m = 3) ∧ (s.lane 3).state.serves = true ∧ (s.lane 3).action = .abandon ∧
         (s.lane 3).unsettled ≠ [] ∧ (s.port 0).hand = none ∧ (s.port 0).notices = [] ∧ (s.port 0).attnHeld = false ∧
         s.scanner.queue = []) := ⟨by decide +kernel, by decide +kernel, by decide +kernel⟩

/-- R158, R181: an abandoned lane's run is discarded and counted in the fail-safe step. -/
theorem test_abandoned_run_counted :
    (after (.watchdogExpiry 0 []) (failing false [])).discarded = 1 ∧
      ((after (.watchdogExpiry 0 []) (failing false [])).lane 3).run = none := by decide +kernel

theorem test_meets_OrphanedLaneKeepsItsStream :
    let s := both.setLane 63 { laneOn with state := .closing, unsettled := [9], run := some oneRun }
    s.attached 0 = true ∧ s.settlings = [] ∧ s.proposal = none ∧ s.advancePending = false ∧ (s.lane 63).owner = some 0 ∧
      (s.lane 63).state.serves = true ∧ (s.lane 63).action = .suspend ∧ s.attached 1 = true := by decide +kernel

/-- The index of `withPair` keeps each fingerprint in its bucket and every entry sound; lane 2 is owned by port 0. -/
theorem test_meets_StepKeepsInvariants :
    (let s := State.reset
     Memory.wf s = true ∧ (∀ p, (s.port p).queue.length ≤ 64) ∧ s.epoch = 1 ∧ s.counter = 1) ∧
      (let s := withPair []
       Memory.wf s = true ∧ (∀ m ∈ pair, bucketOf (pairEntry m).fingerprint = m.bucket) ∧
         (pairEntry ⟨5, 0, 0⟩).fingerprint ≠ (pairEntry ⟨5, 15, 0⟩).fingerprint ∧
         (∀ m ∈ pair, (pairEntry m).birth ≤ (pairEntry m).lastRef ∧ (pairEntry m).lastRef ≤ s.epoch ∧
           (pairEntry m).count ≤ 16777215) ∧
         (s.lane 2).owner = some 0 ∧ s.attached 0 = true) := by decide +kernel

end Sys2Proof.Tests
end

/-! PROOFS. The window hash (R32, R33): the direct hash is the weighted sum of the window's bytes, and the roll over a byte is the
direct hash of the window that the byte leaves. -/

namespace Sys2Proof.Machine

open Sys2Proof

/-- M to the power `n` by repeated multiplication is the power of the words' ring. -/
theorem powM_eq_pow (n : Nat) : powM n = (263 : Word32) ^ n := by
  induction n with
  | zero => rfl
  | succ n ih => rw [powM, ih, BitVec.pow_succ, Config.hashM]

/-- The roll factor is the weight of the window's oldest byte (R28). -/
theorem rollFactor_eq_pow (prof : Profile) : rollFactor prof = (263 : Word32) ^ (prof.window - 1) :=
  powM_eq_pow _

/-! ### The direct hash -/

/-- The newest byte has weight 1, and joining it multiplies every older byte's weight by M. -/
theorem directHash_append_singleton (w : List Byte) (b : Byte) :
    directHash (w ++ [b]) = directHash w * Config.hashM + b.setWidth 32 := by
  simp [directHash]

/-- The oldest byte of a window has M to the number of the bytes after it as its weight. -/
theorem directHash_cons (out : Byte) (w : List Byte) :
    directHash (out :: w) = out.setWidth 32 * powM w.length + directHash w := by
  induction w using List.reverseRecOn with
  | nil => simp [directHash, powM]
  | append_singleton w b ih =>
    have hjoin : directHash (out :: (w ++ [b])) = directHash (out :: w) * Config.hashM + b.setWidth 32 :=
      directHash_append_singleton (out :: w) b
    rw [hjoin, ih, directHash_append_singleton, List.length_append, List.length_singleton, powM]
    ring

/-! ### The sum of R32 -/

/-- The sum of R32 over bytes given newest first, with the first byte weighed by 263 to the `k`; a window has `k = 0`. -/
def weightedSum (l : List Byte) (k : Nat) : Word32 :=
  ((l.zipIdx k).map fun x => x.1.setWidth 32 * (263 : Word32) ^ x.2).sum

@[simp] theorem weightedSum_nil (k : Nat) : weightedSum [] k = 0 := rfl

theorem weightedSum_cons (b : Byte) (l : List Byte) (k : Nat) :
    weightedSum (b :: l) k = b.setWidth 32 * (263 : Word32) ^ k + weightedSum l (k + 1) := by
  simp [weightedSum]

/-- Bytes one place further from the newest weigh 263 times as much. -/
theorem weightedSum_succ (l : List Byte) (k : Nat) : weightedSum l (k + 1) = weightedSum l k * 263 := by
  induction l generalizing k with
  | nil => simp
  | cons b l ih => rw [weightedSum_cons, weightedSum_cons, ih (k + 1), BitVec.pow_succ, add_mul, mul_assoc]

/-- R32: the direct hash is the sum of the window's bytes, each weighed by 263 to the power of its distance from the newest. -/
theorem directHash_eq_weightedSum (w : List Byte) : directHash w = weightedSum w.reverse 0 := by
  induction w using List.reverseRecOn with
  | nil => rfl
  | append_singleton w b ih =>
    rw [directHash_append_singleton, ih, List.reverse_concat, weightedSum_cons, weightedSum_succ, Config.hashM, BitVec.pow_zero,
      BitVec.mul_one, add_comm]

/-! ### The roll -/

/-- R33: rolling the direct hash of a window over a byte gives the direct hash of the window without its oldest byte and with the
byte as its newest: the oldest byte's term cancels. -/
theorem rolledHash_directHash (out new : Byte) (w : List Byte) :
    rolledHash (directHash (out :: w)) (powM w.length) out new = directHash (w ++ [new]) := by
  rw [rolledHash, directHash_cons, add_sub_cancel_left, directHash_append_singleton]

/-! ### Taking a byte with a full window -/

section Full

variable {prof : Profile} {part : Partial}

/-- R31 step 2: the oldest byte leaves a full window. -/
theorem Partial.take_window_of_full (roll : Word32) (source : CutSource) (b : Byte) (hfull : part.window.length = prof.window) :
    (part.take prof roll source b).window = part.window.drop 1 ++ [b] := by
  simp [Partial.take, hfull]

/-- R31 step 3: past the window's length the window hash is rolled. -/
theorem Partial.take_hash_of_past_window {h : Word32} (roll : Word32) (b : Byte) (hlen : prof.window ≤ part.length)
    (hhash : part.hash = some h) :
    (part.take prof roll .content b).hash = some (rolledHash h roll (part.window.headD 0) b) := by
  have hnotBelow : ¬ part.length + 1 < prof.window := by omega
  have hnotAt : part.length + 1 ≠ prof.window := by omega
  simp [Partial.take, hnotBelow, hnotAt, hhash]

/-- R33: over a full window the roll by the profile's roll factor is the direct hash of the new window. -/
theorem rolledHash_rollFactor (b : Byte) (hpos : 1 ≤ prof.window) {w : List Byte} (hfull : w.length = prof.window) :
    rolledHash (directHash w) (rollFactor prof) (w.headD 0) b = directHash (w.drop 1 ++ [b]) := by
  cases w with
  | nil => rw [List.length_nil] at hfull; omega
  | cons out w =>
    have hroll : rollFactor prof = powM w.length := by rw [rollFactor, ← hfull, List.length_cons, Nat.add_sub_cancel]
    rw [hroll]
    exact rolledHash_directHash out b w

end Full

/-- Settles O43: the rolled hash written out is `rolledHash`, and with the hash that stands equal to the direct hash of the old
window the roll cancels the oldest byte's term. -/
theorem rolledHashIsDirectHash : Obligations.RolledHashIsDirectHash := by
  intro prof part b h sum hsum hpos hfull hlen hhash hdirect
  have hsumDirect (w : List Byte) : sum w = directHash w := (hsum w).trans (directHash_eq_weightedSum w).symm
  have hrolled := Partial.take_hash_of_past_window (rollFactor prof) b hlen hhash
  refine ⟨?written, ?direct, Partial.take_window_of_full _ _ b hfull⟩
  case written => rw [hrolled, rolledHash, rollFactor_eq_pow, Config.hashM]
  case direct => rw [hrolled, hdirect, hsumDirect, hsumDirect, rolledHash_rollFactor b hpos hfull]

end Sys2Proof.Machine

/-! PROOFS. The hold table (R126, R127): the place HOLD_PLACE takes, the number HOLD_LIFT reads, and what each of the two commands
answers on each branch of its checks. -/

namespace Sys2Proof.Machine

open Sys2Proof

/-! ### Places and their numbers -/

theorem State.emptyHold?_eq_none_iff (s : State) : s.emptyHold? = none ↔ ∀ i : Fin 16, s.holds[i] ≠ none := by
  rw [State.emptyHold?, ← Fin.find?_eq_find?_finRange, Fin.find?_eq_none_iff]
  simp [Option.isSome_iff_ne_none]

/-- The place found is empty, and every lower-numbered place holds a hold. -/
theorem State.emptyHold?_eq_some_iff (s : State) (i : Fin 16) :
    s.emptyHold? = some i ↔ s.holds[i] = none ∧ ∀ j, j < i → s.holds[j] ≠ none := by
  rw [State.emptyHold?, ← Fin.find?_eq_find?_finRange, Fin.find?_eq_some_iff]
  simp [Option.isSome_iff_ne_none]

@[simp] theorem State.emptyHold?_popQueue (s : State) (p : PortNo) : (s.popQueue p).emptyHold? = s.emptyHold? := rfl

theorem holdOf?_eq_none {n : Nat} (h : 16 ≤ n) : holdOf? n = none := dif_neg (by omega)

@[simp] theorem holdOf?_val (i : Fin 16) : holdOf? i.val = some i := dif_pos i.isLt

section Commands

variable {s : State} {p : PortNo} {r : CommandRecord}

/-- A command that changes the hold table alone: its reply answers it, and nothing but the table, the port units and the ring
records differs from the state in which it was taken. -/
theorem State.Takes.answers_holds {kind : Nat} (h : s.Takes p r kind) (table : Vector (Option Hold) 16) (o : Outcome)
    (fs : List Field) {t : State} (ht : State.reply { s.popQueue p with holds := table } p r o fs = t) :
    s.Answered t p r o fs ∧ t = { s with ports := t.ports, memory := t.memory, holds := table } := by
  subst ht
  exact h.answers { s.popQueue p with holds := table } rfl rfl o fs

/-! ### HOLD_PLACE (R126): one equation for each outcome -/

theorem exec_holdPlace (p : PortNo) (s : State) : exec (.holdPlace p) s = execHoldPlace p s := rfl

theorem exec_holdPlace_of_bad_epochs (h : s.Takes p r 0x12) (hbad : ¬(1 ≤ numAt r 4 4 ∧ numAt r 4 4 ≤ numAt r 8 4)) :
    exec (.holdPlace p) s = .next ((s.popQueue p).refuse p r .badParam) := by
  rw [exec_holdPlace, execHoldPlace, State.onCommand_takes h, if_neg hbad]

theorem exec_holdPlace_of_full (h : s.Takes p r 0x12) (hepochs : 1 ≤ numAt r 4 4 ∧ numAt r 4 4 ≤ numAt r 8 4)
    (hfull : s.emptyHold? = none) : exec (.holdPlace p) s = .next ((s.popQueue p).refuse p r .full) := by
  rw [exec_holdPlace, execHoldPlace, State.onCommand_takes h, if_pos hepochs, State.emptyHold?_popQueue, hfull]

theorem exec_holdPlace_of_empty (h : s.Takes p r 0x12) (hepochs : 1 ≤ numAt r 4 4 ∧ numAt r 4 4 ≤ numAt r 8 4) {i : Fin 16}
    (hempty : s.emptyHold? = some i) :
    exec (.holdPlace p) s = .next (State.reply
      { s.popQueue p with
        holds := s.holds.set i (some { placer := p, first := numAt r 4 4, last := numAt r 8 4, label := numAt r 16 8 }) }
      p r .ok [.num 1 i.val, .num 4 s.epoch]) := by
  rw [exec_holdPlace, execHoldPlace, State.onCommand_takes h, if_pos hepochs, State.emptyHold?_popQueue, hempty]
  rfl

/-! ### HOLD_LIFT (R127): one equation for each outcome -/

theorem exec_holdLift (p : PortNo) (s : State) : exec (.holdLift p) s = execHoldLift p s := rfl

theorem exec_holdLift_of_bad_number (h : s.Takes p r 0x13) (hbad : 16 ≤ byteAt r 4) :
    exec (.holdLift p) s = .next ((s.popQueue p).refuse p r .badParam) := by
  rw [exec_holdLift, execHoldLift, State.onCommand_takes h, holdOf?_eq_none hbad]

section Place

variable {i : Fin 16} {x : Hold}

theorem exec_holdLift_of_empty (h : s.Takes p r 0x13) (hnum : byteAt r 4 = i.val) (hempty : s.holds[i] = none) :
    exec (.holdLift p) s = .next ((s.popQueue p).refuse p r .unknown) := by
  rw [exec_holdLift, execHoldLift, State.onCommand_takes h, hnum, holdOf?_val]
  simp only [State.popQueue_holds, hempty]

theorem exec_holdLift_of_other_placer (h : s.Takes p r 0x13) (hnum : byteAt r 4 = i.val) (hheld : s.holds[i] = some x)
    (hother : x.placer ≠ p) : exec (.holdLift p) s = .next ((s.popQueue p).refuse p r .notOwner) := by
  rw [exec_holdLift, execHoldLift, State.onCommand_takes h, hnum, holdOf?_val]
  simp only [State.popQueue_holds, hheld, if_neg hother]

theorem exec_holdLift_of_placer (h : s.Takes p r 0x13) (hnum : byteAt r 4 = i.val) (hheld : s.holds[i] = some x)
    (hplacer : x.placer = p) :
    exec (.holdLift p) s = .next (State.reply { s.popQueue p with holds := s.holds.set i none } p r .ok
      [.num 4 x.first, .num 4 x.last, .num 8 x.label]) := by
  rw [exec_holdLift, execHoldLift, State.onCommand_takes h, hnum, holdOf?_val]
  simp only [State.popQueue_holds, hheld, if_pos hplacer]

end Place

end Commands

/-! ### The statements -/

/-- Settles O31: the search of the hold table finds the lowest-numbered empty place, or none when every place is taken. -/
theorem holdPlaceTakesLowestPlace : Obligations.HoldPlaceTakesLowestPlace := by
  intro s p r h
  refine ⟨?badEpochs, ?full, ?placed⟩
  case badEpochs =>
    intro hbad
    exact ⟨_, exec_holdPlace_of_bad_epochs h (by omega), h.refused .badParam⟩
  case full =>
    intro hfirst hlast hfull
    have hnone : s.emptyHold? = none := s.emptyHold?_eq_none_iff.mpr hfull
    exact ⟨_, exec_holdPlace_of_full h ⟨hfirst, hlast⟩ hnone, h.refused .full⟩
  case placed =>
    intro i hfirst hlast hempty hlower
    have hlowest : s.emptyHold? = some i := (s.emptyHold?_eq_some_iff i).mpr ⟨hempty, hlower⟩
    exact ⟨_, exec_holdPlace_of_empty h ⟨hfirst, hlast⟩ hlowest, h.answers_holds _ _ _ rfl⟩

/-- Settles O32: after the number's check the place is empty, another port's, or the sender's, and only the sender's is emptied. -/
theorem holdLiftEmptiesPlace : Obligations.HoldLiftEmptiesPlace := by
  intro s p r h
  refine ⟨fun hbad => ⟨_, exec_holdLift_of_bad_number h hbad, h.refused .badParam⟩, fun i hnum => ⟨?empty, ?other, ?lifted⟩⟩
  case empty =>
    intro hempty
    exact ⟨_, exec_holdLift_of_empty h hnum hempty, h.refused .unknown⟩
  case other =>
    intro x hheld hother
    exact ⟨_, exec_holdLift_of_other_placer h hnum hheld hother, h.refused .notOwner⟩
  case lifted =>
    intro x hheld hplacer
    exact ⟨_, exec_holdLift_of_placer h hnum hheld hplacer, h.answers_holds _ _ _ rfl⟩

end Sys2Proof.Machine

/-! PROOFS. The queue of commands and the attention summary (R172, R182, R184): what setting a flag does to its port unit and leaves
everywhere else, where a command record goes, and a command that changes its own port unit alone. -/

namespace Sys2Proof.Machine

open Sys2Proof

/-! ### What a record written and a flag raised leave in the port unit -/

@[simp] theorem Port.advanced_summary (q : Port) : q.advanced.summary = q.summary := by
  unfold Port.advanced; split <;> rfl

@[simp] theorem Port.advanced_queue (q : Port) : q.advanced.queue = q.queue := by
  unfold Port.advanced; split <;> rfl

@[simp] theorem Port.advanced_watchdog (q : Port) : q.advanced.watchdog = q.watchdog := by
  unfold Port.advanced; split <;> rfl

@[simp] theorem Port.advanced_hand (q : Port) : q.advanced.hand = q.hand := by
  unfold Port.advanced; split <;> rfl

@[simp] theorem Summary.carry_none (m : Summary) (f : Flag) : m.carry f .none = m := by
  cases f <;> rfl

/-- Emptying the summary changes nothing that a ring depends on. -/
theorem ringNeutral_empty_summary : RingNeutral fun q => { q with summary := Summary.empty } where
  state _ := rfl
  ring _ := rfl
  producer _ := rfl
  consumer _ := rfl
  waiting _ := rfl
  pass _ := rfl
  commutes q := by
    obtain ⟨_, _, _, ring⟩ := q
    cases ring <;> rfl

/-! ### Setting a flag (R182, R183) -/

section Flags

variable {s : State} {p : PortNo}

/-- The state with a flag raised in the summary of one port, before an ATTENTION record is made. -/
def State.raiseAt (s : State) (p : PortNo) (f : Flag) (c : Carry) : State :=
  s.modPort p fun q => { q with summary := (q.summary.raise f).carry f c }

/-- The state with an ATTENTION record held at a port and its writer among those that wait. -/
def State.holdAttention (s : State) (p : PortNo) : State :=
  (s.modPort p fun q => { q with attnHeld := true }).join p .attention

@[simp] theorem State.port_raiseAt (f : Flag) (c : Carry) :
    (s.raiseAt p f c).port p = { s.port p with summary := ((s.port p).summary.raise f).carry f c } :=
  s.port_modPort p _

theorem State.port_raiseAt_ne (f : Flag) (c : Carry) {q : PortNo} (h : q ≠ p) : (s.raiseAt p f c).port q = s.port q :=
  s.port_modPort_ne p _ h

@[simp] theorem State.raiseAt_memory (f : Flag) (c : Carry) : (s.raiseAt p f c).memory = s.memory := rfl

@[simp] theorem State.port_holdAttention :
    (s.holdAttention p).port p =
      { s.port p with attnHeld := true, waiting := joinSet (s.port p).waiting .attention } := by
  simp [State.holdAttention, State.join]

theorem State.port_holdAttention_ne {q : PortNo} (h : q ≠ p) : (s.holdAttention p).port q = s.port q := by
  rw [State.holdAttention, State.join, State.port_modPort_ne _ _ _ h, State.port_modPort_ne _ _ _ h]

@[simp] theorem State.holdAttention_memory : (s.holdAttention p).memory = s.memory := rfl

/-- Raising a flag takes no ring position and adds no writer. -/
theorem State.canWrite_raiseAt (f : Flag) (c : Carry) : (s.raiseAt p f c).canWrite p = s.canWrite p := by
  apply State.canWrite_congr <;> rw [State.port_raiseAt]

/-- R182: a flag has no effect at a port not ATTACHED. -/
theorem State.setFlag_unattached (f : Flag) (c : Carry) (h : s.attached p = false) : s.setFlag p f c = s := by
  simp [State.setFlag, h]

/-- R183: what a flag set at an ATTACHED port does: it is raised in a summary that holds a flag, or with a record held already, and
nothing else; in an empty summary its record is written, or held when the ring does not take it. -/
theorem State.setFlag_cases (f : Flag) (c : Carry) (h : s.attached p = true) :
    (((s.port p).summary.isEmpty = false ∨ (s.port p).attnHeld = true) ∧ s.setFlag p f c = s.raiseAt p f c) ∨
    ((s.port p).summary.isEmpty = true ∧ (s.port p).attnHeld = false ∧ s.canWrite p = true ∧
      s.setFlag p f c = (s.raiseAt p f c).ringPut p (.attention ((s.raiseAt p f c).port p).summary)) ∨
    ((s.port p).summary.isEmpty = true ∧ (s.port p).attnHeld = false ∧ s.canWrite p = false ∧
      s.setFlag p f c = (s.raiseAt p f c).holdAttention p) := by
  have hset : s.setFlag p f c =
      if (s.port p).summary.isEmpty && !(s.port p).attnHeld then
        if (s.raiseAt p f c).canWrite p then (s.raiseAt p f c).ringPut p (.attention ((s.raiseAt p f c).port p).summary)
        else (s.raiseAt p f c).holdAttention p
      else s.raiseAt p f c := if_pos h
  rw [hset, State.canWrite_raiseAt]
  cases (s.port p).summary.isEmpty <;> cases (s.port p).attnHeld <;> cases s.canWrite p <;> simp

/-- R182: the flag is raised in the port's summary, whatever becomes of its ATTENTION record. -/
theorem State.setFlag_summary (f : Flag) (c : Carry) (h : s.attached p = true) :
    ((s.setFlag p f c).port p).summary = ((s.port p).summary.raise f).carry f c := by
  rcases State.setFlag_cases f c h with ⟨_, hraised⟩ | ⟨_, _, _, hwritten⟩ | ⟨_, _, _, hheld⟩
  · rw [hraised, State.port_raiseAt]
  · rw [hwritten, State.ringPut_port, Port.advanced_summary, State.port_raiseAt]
  · rw [hheld, State.port_holdAttention, State.port_raiseAt]

/-- A flag leaves the port's command side as it was: its queue, its watchdog and the command in hand. -/
theorem State.setFlag_command_side (f : Flag) (c : Carry) :
    ((s.setFlag p f c).port p).queue = (s.port p).queue ∧ ((s.setFlag p f c).port p).watchdog = (s.port p).watchdog ∧
      ((s.setFlag p f c).port p).hand = (s.port p).hand := by
  cases h : s.attached p with
  | false => rw [State.setFlag_unattached f c h]; exact ⟨rfl, rfl, rfl⟩
  | true =>
    rcases State.setFlag_cases f c h with ⟨_, hraised⟩ | ⟨_, _, _, hwritten⟩ | ⟨_, _, _, hheld⟩
    · simp [hraised]
    · simp [hwritten, State.ringPut_port]
    · simp [hheld]

/-- A flag set at one port leaves every other port unit and every other ring. -/
theorem State.setFlag_other_ports (f : Flag) (c : Carry) {q : PortNo} (hq : q ≠ p) :
    (s.setFlag p f c).port q = s.port q ∧ (s.setFlag p f c).memory[q] = s.memory[q] := by
  cases h : s.attached p with
  | false => rw [State.setFlag_unattached f c h]; exact ⟨rfl, rfl⟩
  | true =>
    rcases State.setFlag_cases f c h with ⟨_, hraised⟩ | ⟨_, _, _, hwritten⟩ | ⟨_, _, _, hheld⟩
    · rw [hraised, State.port_raiseAt_ne f c hq, State.raiseAt_memory]; exact ⟨rfl, rfl⟩
    · rw [hwritten, State.ringPut_port_ne _ _ _ hq, State.ringPut_memory_ne _ _ _ hq, State.port_raiseAt_ne f c hq,
        State.raiseAt_memory]
      exact ⟨rfl, rfl⟩
    · rw [hheld, State.port_holdAttention_ne hq, State.port_raiseAt_ne f c hq, State.holdAttention_memory, State.raiseAt_memory]
      exact ⟨rfl, rfl⟩

end Flags

/-! ### COMMAND_WRITE (R172): one equation for each fill of the queue -/

section Commands

variable {s : State} {p : PortNo} {r : CommandRecord}

theorem exec_commandWrite (p : PortNo) (r : CommandRecord) (s : State) : exec (.commandWrite p r) s = execCommandWrite p r s := rfl

theorem exec_commandWrite_of_room (h : (s.port p).queue.length < 64) :
    exec (.commandWrite p r) s = .next (s.modPort p fun q =>
      { q with queue := q.queue ++ [r], watchdog := if q.state = .attached then some q.period else q.watchdog }) := by
  rw [exec_commandWrite, execCommandWrite, Config.queueSlots, if_pos h]

theorem exec_commandWrite_of_full (h : 64 ≤ (s.port p).queue.length) :
    exec (.commandWrite p r) s = .next (s.setFlag p .queueOverrun .none) := by
  rw [exec_commandWrite, execCommandWrite, Config.queueSlots, if_neg (by omega)]

/-! ### READ_ATTENTION (R184) -/

/-- A command that changes its own port unit alone, in nothing that a ring depends on: its reply answers it, and nothing but the
port units and the ring records differs from the state in which it was taken. -/
theorem State.Takes.answers_change {kind : Nat} (h : s.Takes p r kind) {change : Port → Port} (hc : RingNeutral change)
    (o : Outcome) (fs : List Field) :
    s.Answered (((s.popQueue p).modPort p change).reply p r o fs) p r o fs change ∧
      s.OnlyPorts (((s.popQueue p).modPort p change).reply p r o fs) := by
  obtain ⟨hanswered, hdiscarded⟩ := h.answered hc ((s.popQueue p).port_modPort p change)
    (fun q hq => by rw [State.port_modPort_ne _ _ _ hq, State.port_popQueue_ne _ _ hq]) rfl o fs
  have hframe := ((s.popQueue p).modPort p change).reply_frame p r o fs
  rw [hdiscarded] at hframe
  exact ⟨hanswered, hframe⟩

theorem exec_readAttention (p : PortNo) (s : State) : exec (.readAttention p) s = execReadAttention p s := rfl

theorem exec_readAttention_of_takes (h : s.Takes p r 0x1A) :
    exec (.readAttention p) s = .next
      (((s.popQueue p).modPort p fun q => { q with summary := Summary.empty }).reply p r .ok
        [.raw (summaryBytes (s.port p).summary)]) := by
  rw [exec_readAttention, execReadAttention, State.onCommand_takes h]
  simp only [State.port_popQueue]

end Commands

/-! ### The statements -/

/-- Settles O3: below 64 the record joins; at 64 the write is QUEUE_OVERRUN's flag alone, which has no effect at a port not
ATTACHED. -/
theorem commandWriteJoinsOrDrops : Obligations.CommandWriteJoinsOrDrops := by
  intro s p r
  refine ⟨?joins, ?dropped, ?unattached⟩
  case joins =>
    intro hroom
    exact ⟨_, exec_commandWrite_of_room hroom, s.port_modPort p _, fun q hq => s.port_modPort_ne p _ hq, rfl⟩
  case dropped =>
    intro hfull hattached
    have hsummary := State.setFlag_summary .queueOverrun .none hattached
    rw [Summary.carry_none] at hsummary
    obtain ⟨hqueue, hwatchdog, hhand⟩ := s.setFlag_command_side (p := p) .queueOverrun .none
    exact ⟨_, exec_commandWrite_of_full hfull, hsummary, hqueue, hwatchdog, hhand,
      fun q hq => State.setFlag_other_ports .queueOverrun .none hq, s.setFlag_frame p .queueOverrun .none⟩
  case unattached =>
    intro hfull hdetached
    rw [exec_commandWrite_of_full hfull, State.setFlag_unattached _ _ hdetached]

/-- Settles O9: emptying the summary is neutral to the ring, so the reply answers the command with the summary as it stood. -/
theorem readAttentionEmptiesSummary : Obligations.ReadAttentionEmptiesSummary := by
  intro s p r h
  exact ⟨_, exec_readAttention_of_takes h, h.answers_change ringNeutral_empty_summary .ok _⟩

end Sys2Proof.Machine

/-! PROOFS. The relation by which the step invariants are proved (O55 to O60): what an operation may do to the bounded quantities, to
the index and the ring records, and to the ports' and lanes' service. It is reflexive and transitive, so it is proved once for each
operation and then holds of every step; each invariant is read off it. -/

namespace Sys2Proof.Machine

open Sys2Proof

/-! ### The relation on port units and lane records -/

/-- The queues and lists of a port unit after an operation: within their bounds, or no longer than they were. -/
structure Port.Bounds (q q' : Port) : Prop where
  queue : q'.queue.length ≤ max 64 q.queue.length
  recent : q'.recent.length ≤ max 16 q.recent.length
  notices : q'.notices.length ≤ max 768 q.notices.length

/-- A port unit in service after an operation: still ATTACHED if it was, and no DETACH completion has come to wait. -/
structure Port.Stays (q q' : Port) : Prop where
  attached : q.state = .attached → q'.state = .attached
  leaving : ∀ c, q'.hand = some (.completion c true) → q.hand = some (.completion c true)

/-- A lane after an operation: it is in service only if it was, with the owner it had, and is owned only where it was owned. -/
structure Lane.Stays (l l' : Lane) : Prop where
  serving : l'.state.serves = true → l.state.serves = true ∧ l'.owner = l.owner
  owned : ∀ p, l'.owner = some p → l'.state ≠ .free → l.owner = some p ∧ l.state ≠ .free

/-! ### The relation on states -/

/-- What the index keeps over an operation: its canonical form, and then that its entries are distinct, and that they are sound. -/
structure State.KeepsIndex (s t : State) : Prop where
  wf : sparseWf Bucket.untouched s.index = true → sparseWf Bucket.untouched t.index = true
  distinct : sparseWf Bucket.untouched s.index = true → s.Distinct → t.Distinct
  sound : sparseWf Bucket.untouched s.index = true → s.Sound → t.Sound

/-- What an operation may do to the bounded quantities, to the ring records and to the index. -/
structure State.KeepsData (s t : State) : Prop where
  ports : ∀ p, (s.port p).Bounds (t.port p)
  items : ∀ n, (t.lane n).items.length ≤ max 32 (s.lane n).items.length
  table : t.table.length ≤ max 256 s.table.length
  poison : t.poisonList.length ≤ max 64 s.poisonList.length ∧ (s.poisonList.Nodup → t.poisonList.Nodup)
  reclaim : t.scanner.queue.length ≤ max 16 s.scanner.queue.length
  cursor : s.scanner.cursor < 4194304 → t.scanner.cursor < 4194304
  epoch : s.epoch ≤ 4294967295 → s.epoch ≤ t.epoch ∧ t.epoch ≤ 4294967295
  counter : s.counter ≤ t.counter ∧ t.counter ≤ max 4294967296 s.counter
  collisions : t.collisions ≤ max 4294967295 s.collisions
  absorbed : t.absorbed ≤ max 4294967295 s.absorbed
  discarded : t.discarded ≤ max 4294967295 s.discarded
  correctable : t.correctable ≤ max 4294967295 s.correctable
  poisonCount : t.poisonCount ≤ max 4294967295 s.poisonCount
  rings : ∀ p : PortNo, sparseWf [] s.memory[p] = true → sparseWf [] t.memory[p] = true
  index : s.KeepsIndex t

/-- What an operation may do to the ports and lanes in service. -/
structure State.KeepsService (s t : State) : Prop where
  ports : ∀ p, (s.port p).Stays (t.port p)
  lanes : ∀ n, (s.lane n).Stays (t.lane n)

/-- An operation that keeps the data and takes no port and no lane into service or out of it with a lane left behind. -/
structure State.Keeps (s t : State) : Prop where
  data : s.KeepsData t
  service : s.KeepsService t

/-! ### Reflexive and transitive -/

theorem Port.Bounds.refl (q : Port) : q.Bounds q := ⟨le_max_right _ _, le_max_right _ _, le_max_right _ _⟩

theorem Port.Stays.refl (q : Port) : q.Stays q := ⟨id, fun _ => id⟩

theorem Lane.Stays.refl (l : Lane) : l.Stays l := ⟨fun h => ⟨h, rfl⟩, fun _ ho hf => ⟨ho, hf⟩⟩

theorem Port.Bounds.trans {a b c : Port} (h : a.Bounds b) (k : b.Bounds c) : a.Bounds c := by
  obtain ⟨h1, h2, h3⟩ := h
  obtain ⟨k1, k2, k3⟩ := k
  exact ⟨by omega, by omega, by omega⟩

theorem Port.Stays.trans {a b c : Port} (h : a.Stays b) (k : b.Stays c) : a.Stays c :=
  ⟨fun ha => k.attached (h.attached ha), fun x hx => h.leaving x (k.leaving x hx)⟩

theorem Lane.Stays.trans {a b c : Lane} (h : a.Stays b) (k : b.Stays c) : a.Stays c where
  serving hc := by
    obtain ⟨hb, ho⟩ := k.serving hc
    obtain ⟨ha, ho'⟩ := h.serving hb
    exact ⟨ha, ho.trans ho'⟩
  owned p ho hf := by
    obtain ⟨hb, hf'⟩ := k.owned p ho hf
    exact h.owned p hb hf'

theorem State.KeepsIndex.trans {s t u : State} (h : s.KeepsIndex t) (k : t.KeepsIndex u) : s.KeepsIndex u :=
  ⟨fun w => k.wf (h.wf w), fun w d => k.distinct (h.wf w) (h.distinct w d), fun w d => k.sound (h.wf w) (h.sound w d)⟩

theorem State.KeepsData.trans {s t u : State} (h : s.KeepsData t) (k : t.KeepsData u) : s.KeepsData u where
  ports p := (h.ports p).trans (k.ports p)
  items n := by have := h.items n; have := k.items n; omega
  table := by have := h.table; have := k.table; omega
  poison := ⟨by have := h.poison.1; have := k.poison.1; omega, fun n => k.poison.2 (h.poison.2 n)⟩
  reclaim := by have := h.reclaim; have := k.reclaim; omega
  cursor c := k.cursor (h.cursor c)
  epoch e := by have := h.epoch e; have := k.epoch (h.epoch e).2; omega
  counter := by have := h.counter; have := k.counter; omega
  collisions := by have := h.collisions; have := k.collisions; omega
  absorbed := by have := h.absorbed; have := k.absorbed; omega
  discarded := by have := h.discarded; have := k.discarded; omega
  correctable := by have := h.correctable; have := k.correctable; omega
  poisonCount := by have := h.poisonCount; have := k.poisonCount; omega
  rings p w := k.rings p (h.rings p w)
  index := h.index.trans k.index

theorem State.KeepsService.trans {s t u : State} (h : s.KeepsService t) (k : t.KeepsService u) : s.KeepsService u :=
  ⟨fun p => (h.ports p).trans (k.ports p), fun n => (h.lanes n).trans (k.lanes n)⟩

theorem State.Keeps.trans {s t u : State} (h : s.Keeps t) (k : t.Keeps u) : s.Keeps u :=
  ⟨h.data.trans k.data, h.service.trans k.service⟩

/-! ### The invariants, read off the relation -/

theorem State.KeepsData.bounded {s t : State} (h : s.KeepsData t) (b : s.Bounded) : t.Bounded where
  queues p := by have := (h.ports p).queue; have := b.queues p; omega
  recent p := by have := (h.ports p).recent; have := b.recent p; omega
  notices p := by have := (h.ports p).notices; have := b.notices p; omega
  items n := by have := h.items n; have := b.items n; omega
  table := by have := h.table; have := b.table; omega
  poison := ⟨by have := h.poison.1; have := b.poison.1; omega, h.poison.2 b.poison.2⟩
  reclaim := by have := h.reclaim; have := b.reclaim; omega
  cursor := h.cursor b.cursor
  epoch := by have := h.epoch b.epoch.2; have := b.epoch; omega
  counter := by have := h.counter; have := b.counter; omega
  counts := by
    obtain ⟨b1, b2, b3, b4, b5⟩ := b.counts
    have := h.collisions; have := h.absorbed; have := h.discarded; have := h.correctable; have := h.poisonCount
    omega

theorem Memory.wf_iff (s : State) :
    Memory.wf s = true ↔ sparseWf Bucket.untouched s.index = true ∧ ∀ p : PortNo, sparseWf [] s.memory[p] = true := by
  simp [Memory.wf, allPorts]

theorem State.KeepsData.memory {s t : State} (h : s.KeepsData t) (w : Memory.wf s = true) : Memory.wf t = true := by
  rw [Memory.wf_iff] at w ⊢
  exact ⟨h.index.wf w.1, fun p => h.rings p (w.2 p)⟩

/-- Every lane in service is owned by an ATTACHED port, but for lanes of `ns` that port `p` owns: the state while the lanes of a
failed port are taken out of service one by one (R160). -/
structure State.OwnedBut (s : State) (p : PortNo) (ns : List LaneNo) : Prop where
  serving : ∀ n, (s.lane n).state.serves = true →
    (∃ q, (s.lane n).owner = some q ∧ s.attached q = true) ∨ ((s.lane n).owner = some p ∧ n ∈ ns)
  leaving : ∀ q c, (s.port q).hand = some (.completion c true) → ∀ n, (s.lane n).owner = some q → (s.lane n).state = .free

theorem State.attached_iff {s : State} {p : PortNo} : s.attached p = true ↔ (s.port p).state = .attached := by
  simp [State.attached]

theorem State.KeepsService.ownedBut {s t : State} (h : s.KeepsService t) {p : PortNo} {ns : List LaneNo} (o : s.OwnedBut p ns) :
    t.OwnedBut p ns where
  serving n hn := by
    obtain ⟨hs, ho⟩ := (h.lanes n).serving hn
    rcases o.serving n hs with ⟨q, hq, ha⟩ | ⟨hp, hm⟩
    · exact .inl ⟨q, ho.trans hq, State.attached_iff.mpr ((h.ports q).attached (State.attached_iff.mp ha))⟩
    · exact .inr ⟨ho.trans hp, hm⟩
  leaving q c hc n ho := by
    by_contra hf
    obtain ⟨ho', hf'⟩ := (h.lanes n).owned q ho hf
    exact hf' (o.leaving q c ((h.ports q).leaving c hc) n ho')

theorem State.Owned.but {s : State} (o : s.Owned) (p : PortNo) (ns : List LaneNo) : s.OwnedBut p ns :=
  ⟨fun n hn => .inl (o.serving n hn), o.leaving⟩

theorem State.OwnedBut.owned {s : State} {p : PortNo} (o : s.OwnedBut p []) : s.Owned :=
  ⟨fun n hn => (o.serving n hn).resolve_right (by simp), o.leaving⟩

theorem State.KeepsService.owned {s t : State} (h : s.KeepsService t) (o : s.Owned) : t.Owned :=
  (h.ownedBut (o.but 0 [])).owned

/-! ### Operations on port units and lanes alone -/

/-- What the invariants read besides port units and lanes. -/
def State.shared (s : State) :=
  (s.index, s.memory, s.table.length, s.poisonList, s.scanner.queue, s.scanner.cursor, s.epoch, s.counter, s.collisions, s.absorbed,
    s.discarded, s.correctable, s.poisonCount)

theorem State.KeepsIndex.of_same {s t : State} (hi : t.index = s.index) (he : t.epoch = s.epoch) : s.KeepsIndex t := by
  have hb : ∀ b, t.bucket b = s.bucket b := fun b => by simp only [State.bucket, hi]
  refine ⟨fun w => hi ▸ w, fun _ d => ⟨?_, ?_⟩, fun _ d => ⟨?_, he ▸ d.epoch⟩⟩
  · simpa only [hb] using d.home
  · simpa only [hb] using d.unique
  · simpa only [hb, he] using d.entries

theorem State.KeepsData.of_units {s t : State} (hs : t.shared = s.shared) (hp : ∀ p, (s.port p).Bounds (t.port p))
    (hl : ∀ n, (t.lane n).items.length ≤ max 32 (s.lane n).items.length) : s.KeepsData t := by
  simp only [State.shared, Prod.mk.injEq] at hs
  obtain ⟨hix, hme, hta, hpo, hsq, hsc, hep, hco, hcl, hab, hdi, hcr, hpc⟩ := hs
  exact
    { ports := hp, items := hl, table := by omega, poison := by simp [hpo], reclaim := by simp [hsq], cursor := by simp [hsc],
      epoch := by omega, counter := by omega, collisions := by omega, absorbed := by omega, discarded := by omega,
      correctable := by omega, poisonCount := by omega, rings := by simp [hme], index := .of_same hix hep }

/-- An operation on what no invariant reads. -/
theorem State.Keeps.of_same {s t : State} (hp : t.ports = s.ports) (hl : t.lanes = s.lanes) (hs : t.shared = s.shared) :
    s.Keeps t := by
  have hport : ∀ p, t.port p = s.port p := fun p => by simp only [State.port, hp]
  have hlane : ∀ n, t.lane n = s.lane n := fun n => by simp only [State.lane, hl]
  exact ⟨.of_units hs (fun p => hport p ▸ .refl _) (fun n => by rw [hlane]; exact le_max_right _ _),
    fun p => hport p ▸ .refl _, fun n => hlane n ▸ .refl _⟩

@[refl] theorem State.Keeps.refl (s : State) : s.Keeps s := .of_same rfl rfl rfl

/-- An operation on port units. -/
theorem State.Keeps.of_ports {s t : State} (hp : ∀ p, (s.port p).Bounds (t.port p) ∧ (s.port p).Stays (t.port p))
    (hl : t.lanes = s.lanes) (hs : t.shared = s.shared) : s.Keeps t := by
  have hlane : ∀ n, t.lane n = s.lane n := fun n => by simp only [State.lane, hl]
  exact ⟨.of_units hs (fun p => (hp p).1) (fun n => by rw [hlane]; exact le_max_right _ _),
    fun p => (hp p).2, fun n => hlane n ▸ .refl _⟩

/-- An operation on lanes. -/
theorem State.Keeps.of_lanes {s t : State}
    (hl : ∀ n, (t.lane n).items.length ≤ max 32 (s.lane n).items.length ∧ (s.lane n).Stays (t.lane n))
    (hp : t.ports = s.ports) (hs : t.shared = s.shared) : s.Keeps t := by
  have hport : ∀ p, t.port p = s.port p := fun p => by simp only [State.port, hp]
  exact ⟨.of_units hs (fun p => hport p ▸ .refl _) (fun n => (hl n).1), fun p => hport p ▸ .refl _, fun n => (hl n).2⟩

/-- What the invariants read of a port unit. -/
def Port.core (q : Port) := (q.state, q.hand, q.queue, q.recent, q.notices)

theorem Port.Bounds.of_lists {q q' : Port} (hq : q'.queue = q.queue) (hr : q'.recent = q.recent) (hn : q'.notices = q.notices) :
    q.Bounds q' :=
  ⟨hq ▸ le_max_right _ _, hr ▸ le_max_right _ _, hn ▸ le_max_right _ _⟩

theorem Port.Stays.of_core {q q' : Port} (h : q'.core = q.core) : q.Stays q' := by
  simp only [Port.core, Prod.mk.injEq] at h
  obtain ⟨hs, hh, -⟩ := h
  exact ⟨fun k => hs.trans k, fun _ k => hh ▸ k⟩

theorem Port.Bounds.of_core {q q' : Port} (h : q'.core = q.core) : q.Bounds q' := by
  simp only [Port.core, Prod.mk.injEq] at h
  obtain ⟨-, -, hq, hr, hn⟩ := h
  exact .of_lists hq hr hn

/-- A change of one port unit. -/
theorem State.Keeps.modPort (s : State) (p : PortNo) (f : Port → Port) (hb : (s.port p).Bounds (f (s.port p)))
    (hs : (s.port p).Stays (f (s.port p))) : s.Keeps (s.modPort p f) :=
  .of_ports (fun q => by
    by_cases h : q = p
    · subst h; rw [State.port_modPort]; exact ⟨hb, hs⟩
    · rw [State.port_modPort_ne _ _ _ h]; exact ⟨.refl _, .refl _⟩) rfl rfl

/-- A change of one port unit in what no invariant reads. -/
theorem State.Keeps.modPort_core (s : State) (p : PortNo) (f : Port → Port) (h : (f (s.port p)).core = (s.port p).core) :
    s.Keeps (s.modPort p f) := .modPort s p f (.of_core h) (.of_core h)

/-- A change of one port unit that takes it out of service. -/
theorem State.KeepsData.modPort (s : State) (p : PortNo) (f : Port → Port) (hb : (s.port p).Bounds (f (s.port p))) :
    s.KeepsData (s.modPort p f) :=
  .of_units rfl (fun q => by
    by_cases h : q = p
    · subst h; rw [State.port_modPort]; exact hb
    · rw [State.port_modPort_ne _ _ _ h]; exact .refl _) fun _ => le_max_right _ _

/-- A change of one lane record. -/
theorem State.Keeps.setLane (s : State) (n : LaneNo) (l : Lane) (hi : l.items.length ≤ max 32 (s.lane n).items.length)
    (hs : (s.lane n).Stays l) : s.Keeps (s.setLane n l) :=
  .of_lanes (fun m => by
    by_cases h : m = n
    · subst h; rw [State.lane_setLane]; exact ⟨hi, hs⟩
    · rw [State.lane_setLane_ne _ _ _ h]; exact ⟨le_max_right _ _, .refl _⟩) rfl rfl

/-- A change of one lane record that leaves its state and owner and makes its item queue no longer. -/
theorem State.Keeps.modLane_items (s : State) (n : LaneNo) (f : Lane → Lane)
    (hi : (f (s.lane n)).items.length ≤ (s.lane n).items.length)
    (h : (f (s.lane n)).state = (s.lane n).state ∧ (f (s.lane n)).owner = (s.lane n).owner) : s.Keeps (s.modLane n f) :=
  .setLane s n _ (by omega) ⟨fun k => ⟨h.1 ▸ k, h.2⟩, fun p hp hf => ⟨h.2 ▸ hp, h.1 ▸ hf⟩⟩

/-- A change of one lane record that leaves its items, its state and its owner. -/
theorem State.Keeps.modLane (s : State) (n : LaneNo) (f : Lane → Lane)
    (h : (f (s.lane n)).items = (s.lane n).items ∧ (f (s.lane n)).state = (s.lane n).state ∧
      (f (s.lane n)).owner = (s.lane n).owner) : s.Keeps (s.modLane n f) :=
  .modLane_items s n f (h.1 ▸ le_refl _) h.2

/-- A lane record that is out of service and has no further owner: it is FREE, ABORTING or ORPHANED, or the lane was in service
with the same owner. -/
theorem State.Keeps.modLane_state (s : State) (n : LaneNo) (f : Lane → Lane)
    (hi : (f (s.lane n)).items.length ≤ (s.lane n).items.length)
    (hs : (f (s.lane n)).state.serves = true → (s.lane n).state.serves = true)
    (hf : (f (s.lane n)).state ≠ .free → (s.lane n).state ≠ .free)
    (ho : (f (s.lane n)).owner = (s.lane n).owner) : s.Keeps (s.modLane n f) :=
  .setLane s n _ (by omega) ⟨fun h => ⟨hs h, ho⟩, fun p hp hf' => ⟨ho ▸ hp, hf hf'⟩⟩

/-- Operations taken one after another. -/
theorem State.Keeps.foldl {α : Type} {f : State → α → State} (h : ∀ t a, State.Keeps t (f t a)) (xs : List α) (s : State) :
    s.Keeps (xs.foldl f s) := by
  induction xs generalizing s with
  | nil => exact .refl s
  | cons a xs ih => exact (h s a).trans (ih (f s a))

/-! ### Operations on the index and on bounded quantities -/

/-- An operation on the index after which each entry stands where an entry of its fingerprint stood, and is sound if that was. -/
theorem State.KeepsIndex.of_slots {s t : State}
    (hw : sparseWf Bucket.untouched s.index = true → sparseWf Bucket.untouched t.index = true)
    (he : 1 ≤ s.epoch ∧ s.epoch ≤ 4294967295 → 1 ≤ t.epoch ∧ t.epoch ≤ 4294967295)
    (hx : sparseWf Bucket.untouched s.index = true → ∀ b i y, (t.bucket b)[(i : Fin 16)].entry = some y →
      ∃ x, (s.bucket b)[i].entry = some x ∧ x.fingerprint = y.fingerprint ∧
        (s.epoch ≤ 4294967295 → x.Sound s.epoch → y.Sound t.epoch)) : s.KeepsIndex t where
  wf := hw
  distinct w d :=
    { home := fun b i y hy => by
        obtain ⟨x, h, e, -⟩ := hx w b i y hy
        exact e ▸ d.home b i x h
      unique := fun b i j y z hy hz e => by
        obtain ⟨x, h, e1, -⟩ := hx w b i y hy
        obtain ⟨x', h', e2, -⟩ := hx w b j z hz
        exact d.unique b i j x x' h h' (by rw [e1, e, e2]) }
  sound w d :=
    { entries := fun b i y hy => by
        obtain ⟨x, h, -, k⟩ := hx w b i y hy
        exact k d.epoch.2 (d.entries b i x h)
      epoch := he d.epoch }

/-- An entry's soundness outlives a rise of the current epoch. -/
theorem Entry.Sound.mono {x : Entry} {e e' : Nat} (h : x.Sound e) (he : e ≤ e') : x.Sound e' := by
  obtain ⟨h1, h2, h3⟩ := h
  refine ⟨h1, by omega, ?_⟩
  cases hx : x.state <;> simp only [hx] at h3 ⊢ <;> omega

theorem countTo_le (limit n : Nat) : countTo limit n ≤ limit := by
  unfold countTo; split <;> omega

/-- Each bounded quantity of the device, after an operation within its bound or no larger than it was. -/
structure State.BoundsKept (s t : State) : Prop where
  table : t.table.length ≤ max 256 s.table.length
  poison : t.poisonList.length ≤ max 64 s.poisonList.length ∧ (s.poisonList.Nodup → t.poisonList.Nodup)
  reclaim : t.scanner.queue.length ≤ max 16 s.scanner.queue.length
  cursor : s.scanner.cursor < 4194304 → t.scanner.cursor < 4194304
  epoch : s.epoch ≤ 4294967295 → s.epoch ≤ t.epoch ∧ t.epoch ≤ 4294967295
  counter : s.counter ≤ t.counter ∧ t.counter ≤ max 4294967296 s.counter
  collisions : t.collisions ≤ max 4294967295 s.collisions
  absorbed : t.absorbed ≤ max 4294967295 s.absorbed
  discarded : t.discarded ≤ max 4294967295 s.discarded
  correctable : t.correctable ≤ max 4294967295 s.correctable
  poisonCount : t.poisonCount ≤ max 4294967295 s.poisonCount

theorem State.BoundsKept.refl (s : State) : s.BoundsKept s :=
  ⟨le_max_right _ _, ⟨le_max_right _ _, id⟩, le_max_right _ _, id, fun h => ⟨le_refl _, h⟩, ⟨le_refl _, le_max_right _ _⟩,
    le_max_right _ _, le_max_right _ _, le_max_right _ _, le_max_right _ _, le_max_right _ _⟩

/-- An operation that leaves ports, lanes, index and ring records, and each bounded quantity within its bound. -/
theorem State.Keeps.of_bounds {s t : State} (h : s.BoundsKept t) (hp : t.ports = s.ports) (hl : t.lanes = s.lanes)
    (hix : t.index = s.index) (hme : t.memory = s.memory) : s.Keeps t := by
  have hport : ∀ p, t.port p = s.port p := fun p => by simp only [State.port, hp]
  have hlane : ∀ n, t.lane n = s.lane n := fun n => by simp only [State.lane, hl]
  have hb : ∀ b, t.bucket b = s.bucket b := fun b => by simp only [State.bucket, hix]
  have hindex : s.KeepsIndex t := by
    refine .of_slots (fun w => hix ▸ w) (fun e => ⟨e.1.trans (h.epoch e.2).1, (h.epoch e.2).2⟩) fun _ b i y hy => ?_
    rw [hb] at hy
    exact ⟨y, hy, rfl, fun e k => k.mono (h.epoch e).1⟩
  exact
    ⟨{ ports := fun p => hport p ▸ .refl _, items := fun n => by rw [hlane]; exact le_max_right _ _, table := h.table
       poison := h.poison, reclaim := h.reclaim, cursor := h.cursor, epoch := h.epoch, counter := h.counter
       collisions := h.collisions, absorbed := h.absorbed, discarded := h.discarded, correctable := h.correctable
       poisonCount := h.poisonCount, rings := by simp [hme], index := hindex },
     fun p => hport p ▸ .refl _, fun n => hlane n ▸ .refl _⟩

theorem State.keeps_table (s : State) {t : List Container} (h : t.length ≤ max 256 s.table.length) : s.Keeps { s with table := t } :=
  .of_bounds { State.BoundsKept.refl s with table := h } rfl rfl rfl rfl

theorem State.keeps_queue (s : State) {q : List Reclaim} (h : q.length ≤ max 16 s.scanner.queue.length) :
    s.Keeps { s with scanner := { s.scanner with queue := q } } :=
  .of_bounds { State.BoundsKept.refl s with reclaim := h } rfl rfl rfl rfl

/-- An operation on the index alone. -/
theorem State.keeps_of_index {s t : State} (hi : s.KeepsIndex t) (hp : t.ports = s.ports) (hl : t.lanes = s.lanes)
    (hs : t.shared = ({ s with index := t.index } : State).shared) : s.Keeps t := by
  have h : ({ s with index := t.index } : State).Keeps t := .of_same hp hl hs
  exact
    ⟨{ ports := h.data.ports, items := h.data.items, table := h.data.table, poison := h.data.poison, reclaim := h.data.reclaim
       cursor := h.data.cursor, epoch := h.data.epoch, counter := h.data.counter, collisions := h.data.collisions
       absorbed := h.data.absorbed, discarded := h.data.discarded, correctable := h.data.correctable
       poisonCount := h.data.poisonCount, rings := h.data.rings, index := hi },
     h.service.ports, h.service.lanes⟩

/-! ### What every step preserves -/

/-- The data is kept, and the ownership of lanes in service. -/
structure State.Preserves (s t : State) : Prop where
  data : s.KeepsData t
  owned : s.Owned → t.Owned

theorem State.Keeps.preserves {s t : State} (h : s.Keeps t) : s.Preserves t := ⟨h.data, h.service.owned⟩

theorem State.Preserves.trans {s t u : State} (h : s.Preserves t) (k : t.Preserves u) : s.Preserves u :=
  ⟨h.data.trans k.data, fun o => k.owned (h.owned o)⟩

end Sys2Proof.Machine

/-! PROOFS. The shared operations keep what the step invariants need: rings, flags and completions, reads of stacked DRAM, entries of
the index, occupancy. -/

namespace Sys2Proof.Machine

open Sys2Proof

/-! ### Rings, writers and flags -/

theorem Port.advanced_bounds (q : Port) : q.Bounds q.advanced := by
  unfold Port.advanced; split
  · exact .refl q
  · exact .of_lists rfl rfl rfl

theorem Port.advanced_stays (q : Port) : q.Stays q.advanced := by
  unfold Port.advanced; split
  · exact .refl q
  · exact .of_core rfl

theorem State.ringPut_rings (s : State) (p : PortNo) (r : Response) (q : PortNo) (h : sparseWf [] s.memory[q] = true) :
    sparseWf [] (s.ringPut p r).memory[q] = true := by
  by_cases hq : q = p
  · subst hq
    unfold State.ringPut
    split
    · exact h
    · simpa using sparseWf_sparsePut _ _ _ _ h
  · rw [State.ringPut_memory_ne _ _ _ hq]; exact h

theorem State.keeps_ringPut (s : State) (p : PortNo) (r : Response) : s.Keeps (s.ringPut p r) := by
  have hq : ∀ q, (s.port q).Bounds ((s.ringPut p r).port q) ∧ (s.port q).Stays ((s.ringPut p r).port q) := by
    intro q
    by_cases h : q = p
    · subst h; rw [State.ringPut_port]; exact ⟨Port.advanced_bounds _, Port.advanced_stays _⟩
    · rw [State.ringPut_port_ne _ _ _ h]; exact ⟨.refl _, .refl _⟩
  exact
    ⟨{ ports := fun q => (hq q).1, items := by simp, table := by simp, poison := by simp, reclaim := by simp, cursor := by simp
       epoch := by simp, counter := by simp, collisions := by simp, absorbed := by simp, discarded := by simp
       correctable := by simp, poisonCount := by simp, rings := s.ringPut_rings p r, index := .of_same (by simp) (by simp) },
     fun q => (hq q).2, fun n => by rw [State.lane_ringPut]; exact .refl _⟩

theorem State.keeps_join (s : State) (p : PortNo) (w : Writer) : s.Keeps (s.join p w) := .modPort_core s p _ rfl

theorem State.keeps_laneJoin (s : State) (n : LaneNo) : s.Keeps (s.laneJoin n) := by
  unfold State.laneJoin; split
  · exact s.keeps_join _ _
  · rfl

theorem State.keeps_setFlag (s : State) (p : PortNo) (f : Flag) (c : Carry) : s.Keeps (s.setFlag p f c) := by
  cases h : s.attached p with
  | false => rw [State.setFlag_unattached f c h]
  | true =>
    have hr : s.Keeps (s.raiseAt p f c) := .modPort_core s p _ rfl
    rcases State.setFlag_cases f c h with ⟨_, e⟩ | ⟨_, _, _, e⟩ | ⟨_, _, _, e⟩
    · rw [e]; exact hr
    · rw [e]; exact hr.trans (State.keeps_ringPut _ _ _)
    · rw [e]; exact hr.trans ((State.Keeps.modPort_core _ p _ rfl).trans (State.keeps_join _ _ _))

theorem State.keeps_setFlags (s : State) (ps : List PortNo) (f : Flag) (c : Carry) : s.Keeps (s.setFlags ps f c) :=
  .foldl (fun t p => t.keeps_setFlag p f c) ps s

theorem State.keeps_setFlagAll (s : State) (f : Flag) (c : Carry) : s.Keeps (s.setFlagAll f c) := s.keeps_setFlags _ f c

/-! ### Counters and queues -/

theorem State.keeps_discard (s : State) (k : Nat) : s.Keeps (s.discard k) :=
  .of_bounds { State.BoundsKept.refl s with discarded := by simp [addTo, Config.max32] } rfl rfl rfl rfl

theorem State.keeps_collide (s : State) : s.Keeps s.collide :=
  .of_bounds { State.BoundsKept.refl s with collisions := (countTo_le _ _).trans (le_max_left _ _) } rfl rfl rfl rfl

/-! ### Completions -/

/-- What a port has in hand changes, but not to the completion of a DETACH. -/
theorem State.keeps_giveHand (s : State) (p : PortNo) (h : Option Hand) (hn : ∀ c, h ≠ some (.completion c true)) :
    s.Keeps (s.modPort p fun q => { q with hand := h }) :=
  .modPort s p _ (.of_lists rfl rfl rfl) ⟨id, fun c hc => absurd hc (hn c)⟩

theorem State.keeps_complete (s : State) (p : PortNo) (c : Completion) : s.Keeps (s.complete p c) := by
  unfold State.complete
  split
  · split
    · exact (s.keeps_ringPut p _).trans (State.keeps_giveHand _ p none nofun)
    · exact (s.keeps_giveHand p _ (by simp)).trans (State.keeps_join _ _ _)
  · exact (s.keeps_giveHand p none nofun).trans (State.keeps_discard _ _)

theorem State.keeps_reply (s : State) (p : PortNo) (r : CommandRecord) (o : Outcome) (fs : List Field) :
    s.Keeps (s.reply p r o fs) := s.keeps_complete p _

theorem State.keeps_refuse (s : State) (p : PortNo) (r : CommandRecord) (o : Outcome) : s.Keeps (s.refuse p r o) :=
  s.keeps_reply p r o []

theorem State.keeps_popQueue (s : State) (p : PortNo) : s.Keeps (s.popQueue p) :=
  .modPort s p _ ⟨by simp, le_max_right _ _, le_max_right _ _⟩ ⟨id, fun _ => id⟩

/-! ### Reads of stacked DRAM -/

theorem State.keeps_arise (s : State) (errs : List DramError) : s.Keeps (s.arise errs) := .of_same rfl rfl rfl

theorem State.keeps_correct (s : State) (at_ : DramPlace) : s.Keeps (s.correct at_) :=
  .of_bounds { State.BoundsKept.refl s with correctable := (countTo_le _ _).trans (le_max_left _ _) } rfl rfl rfl rfl

theorem State.keeps_strike (s : State) (b : Nat) : s.Keeps (s.strike b) :=
  .of_same rfl rfl (by simp [State.shared, State.strike])

/-- A bucket joins the poison list while it is not on it and the list holds fewer than 64 (R189 steps 1 and 2). -/
theorem State.keeps_poison (s : State) (b : Nat) : s.Keeps (s.poison b) := by
  have hpoison : (if b ∉ s.poisonList ∧ s.poisonList.length < Config.poisonSlots then s.poisonList ++ [b] else s.poisonList).length ≤
      max 64 s.poisonList.length ∧
      (s.poisonList.Nodup → (if b ∉ s.poisonList ∧ s.poisonList.length < Config.poisonSlots then s.poisonList ++ [b]
        else s.poisonList).Nodup) := by
    split
    · next h =>
      refine ⟨by have := h.2; simp only [Config.poisonSlots] at this; rw [List.length_append, List.length_singleton]; omega, fun n => ?_⟩
      exact List.concat_eq_append ▸ n.concat h.1
    · exact ⟨le_max_right _ _, id⟩
  refine State.Keeps.trans ?_ ((State.keeps_strike _ b).trans (State.keeps_setFlagAll _ _ _))
  exact .of_bounds
    { State.BoundsKept.refl s with poison := hpoison, poisonCount := (countTo_le Config.max32 _).trans (le_max_left _ _) } rfl rfl rfl rfl

theorem State.keeps_readBucket (s : State) (b : Nat) : s.Keeps (s.readBucket b).2 := by
  unfold State.readBucket
  simp only [apply_ite Prod.snd]
  split
  · exact .refl s
  · split
    · exact State.keeps_poison s b
    · split
      · exact State.keeps_correct s _
      · exact .refl s

theorem State.keeps_readJournalPlace (s : State) (n : LaneNo) (k : Nat) : s.Keeps (s.readJournalPlace n k).2 := by
  unfold State.readJournalPlace
  split
  · rfl
  · split
    · exact s.keeps_correct _
    · rfl

theorem State.keeps_writeJournalPlace (s : State) (n : LaneNo) (k : Nat) : s.Keeps (s.writeJournalPlace n k) := .of_same rfl rfl rfl

/-! ### The index -/

theorem State.setBucket_wf (s : State) (b : Nat) (v : Bucket) (h : sparseWf Bucket.untouched s.index = true) :
    sparseWf Bucket.untouched (s.setBucket b v).index = true := sparseWf_sparsePut _ _ _ _ h

/-- The slots of the index after an entry is put into one. -/
theorem State.entry_updateEntry {s : State} {b : Nat} {i : Fin 16} {x : Entry} {b' : Nat} {j : Fin 16} {y : Entry}
    (h : ((s.updateEntry b i x).bucket b')[j].entry = some y) :
    (b' = b ∧ j = i ∧ y = x) ∨ (¬(b' = b ∧ j = i) ∧ (s.bucket b')[j].entry = some y) := by
  obtain ⟨hi, ho⟩ := State.slotBecomes_updateEntry (s := s) (b := b) (i := i) x
  by_cases hc : b' = b ∧ j = i
  · obtain ⟨rfl, rfl⟩ := hc
    rw [hi] at h
    exact .inl ⟨rfl, rfl, by simpa using h.symm⟩
  · rw [ho b' j hc] at h
    exact .inr ⟨hc, h⟩

/-- An entry replaced in its slot by one of its fingerprint that is sound if it was. -/
theorem State.keeps_updateEntry {s : State} {b : Nat} {i : Fin 16} {x y : Entry} (hx : (s.bucket b)[i].entry = some x)
    (hf : x.fingerprint = y.fingerprint) (hs : x.Sound s.epoch → y.Sound s.epoch) : s.Keeps (s.updateEntry b i y) := by
  refine State.keeps_of_index (.of_slots (s.setBucket_wf b _) id fun _ b' j z hz => ?_) rfl rfl rfl
  rcases State.entry_updateEntry hz with ⟨rfl, rfl, rfl⟩ | ⟨-, hz⟩
  · exact ⟨x, hx, hf, fun _ => hs⟩
  · exact ⟨z, hz, rfl, fun _ => id⟩

theorem State.keeps_changeOccupancy (s : State) (k : Nat) : s.Keeps (s.changeOccupancy k) := by
  unfold State.changeOccupancy
  refine State.Keeps.trans (t := { s with occupancy := k }) (.of_same rfl rfl rfl) (.foldl (fun t p => ?_) _ _)
  split
  · exact t.keeps_setFlag _ _ _
  · rfl

/-- A slot freed. -/
theorem State.keeps_removeEntry (s : State) (b : Nat) (i : Fin 16) : s.Keeps (s.removeEntry b i) := by
  refine State.Keeps.trans (State.keeps_of_index (.of_slots (s.setBucket_wf b _) id fun w b' j z hz => ?_) rfl rfl rfl)
    (State.keeps_changeOccupancy _ _)
  obtain ⟨hi, ho⟩ := State.slotBecomes_clearSlot (s := s) (b := b) (i := i) w
  by_cases hc : b' = b ∧ j = i
  · obtain ⟨rfl, rfl⟩ := hc
    rw [hi] at hz
    simp at hz
  · rw [ho b' j hc] at hz
    exact ⟨z, hz, rfl, fun _ => id⟩

/-- An entry created in a FREE slot of the bucket of its fingerprint, where no entry has it. -/
theorem State.keeps_createEntry {s : State} {b : Nat} {i : Fin 16} {x : Entry} (hb : bucketOf x.fingerprint = b)
    (hn : (s.bucket b).Lacks x.fingerprint) (hs : x.Sound s.epoch) : s.Keeps (s.createEntry b i x) := by
  refine State.Keeps.trans (t := s.updateEntry b i x) (State.keeps_of_index ⟨s.setBucket_wf b _, fun _ d => ⟨?_, ?_⟩, fun _ d => ⟨?_, d.epoch⟩⟩ rfl rfl rfl)
    (State.keeps_changeOccupancy _ _)
  · intro b' j y hy
    rcases State.entry_updateEntry hy with ⟨rfl, rfl, rfl⟩ | ⟨-, hy⟩
    · exact hb
    · exact d.home b' j y hy
  · intro b' j k y z hy hz e
    rcases State.entry_updateEntry hy with ⟨hyb, hji, hyx⟩ | ⟨-, hy'⟩ <;>
      rcases State.entry_updateEntry hz with ⟨hzb, hki, hzx⟩ | ⟨-, hz'⟩
    · rw [hji, hki]
    · subst hyb hyx; exact absurd (by rw [hz', Option.map_some, e]) (hn k)
    · subst hzb hzx; exact absurd (by rw [hy', Option.map_some, e]) (hn j)
    · exact d.unique b' j k y z hy' hz' e
  · intro b' j y hy
    rcases State.entry_updateEntry hy with ⟨rfl, rfl, rfl⟩ | ⟨-, hy⟩
    · exact hs
    · exact d.entries b' j y hy

/-! ### Entries (R16, R17, R18) -/

@[simp] theorem Entry.increment_fingerprint (x : Entry) (n e : Nat) : (x.increment n e).fingerprint = x.fingerprint := by
  unfold Entry.increment; split
  · split <;> rfl
  · rfl
  · split <;> rfl
  · rfl

@[simp] theorem Entry.decrement_fingerprint (x : Entry) (e : Nat) : (x.decrement e).2.fingerprint = x.fingerprint := by
  unfold Entry.decrement; split
  · rfl
  · split <;> rfl
  · split <;> rfl
  · rfl

/-- An increment keeps an entry sound: its last-reference epoch becomes the current one, and its count follows its state. -/
theorem Entry.Sound.increment {x : Entry} {n e : Nat} (h : x.Sound e) (hn : 1 ≤ n) : (x.increment n e).Sound e := by
  obtain ⟨h1, h2, h3⟩ := h
  unfold Entry.increment
  cases hx : x.state with
  | live =>
    rw [hx] at h3
    dsimp only
    split
    · next hc => exact ⟨by simp; omega, le_refl _, by simp only [Config.maxCount] at hc ⊢; omega⟩
    · exact ⟨by simp; omega, le_refl _, rfl⟩
  | pinned =>
    rw [hx] at h3
    exact ⟨by simp; omega, le_refl _, by simpa [hx] using h3⟩
  | zero z =>
    dsimp only
    split
    · next hc => exact ⟨by simp; omega, le_refl _, by simp only [Config.maxCount] at hc ⊢; omega⟩
    · exact ⟨by simp; omega, le_refl _, rfl⟩
  | pending m => exact ⟨by simp; omega, le_refl _, by exact min_le_left _ _⟩

theorem Entry.Sound.decrement {x : Entry} {e : Nat} (h : x.Sound e) : (x.decrement e).2.Sound e := by
  have h' := h
  obtain ⟨h1, h2, h3⟩ := h'
  unfold Entry.decrement
  cases hx : x.state with
  | live =>
    rw [hx] at h3
    dsimp only
    split
    · exact ⟨h1, h2, by dsimp only; omega⟩
    · exact ⟨h1, h2, rfl, h2, le_refl _⟩
  | pinned => exact h
  | zero z => exact h
  | pending m =>
    rw [hx] at h3
    dsimp only
    split
    · exact ⟨h1, h2, by dsimp only; omega⟩
    · exact h

theorem Entry.Sound.settle {x : Entry} {e : Nat} (h : x.Sound e) : (x.settle e).Sound e := by
  obtain ⟨h1, h2, h3⟩ := h
  have hc : x.count ≤ 16777215 := by
    cases hx : x.state <;> simp only [hx] at h3 <;> omega
  unfold Entry.settle
  refine ⟨h1, h2, ?_⟩
  by_cases h0 : x.count = 0
  · simp [h0, h2]
  · by_cases hm : x.count < Config.maxCount
    · simp only [h0, hm, if_true, if_false]; simp only [Config.maxCount] at hm; omega
    · simp only [h0, hm, if_false]; simp only [Config.maxCount] at hm; omega

theorem entryAt_spec {b : Bucket} {i : Fin 16} {g : Nat} {x : Entry} (h : entryAt b i g = some x) :
    b[i] = { generation := g, entry := some x } := by
  unfold entryAt at h
  split at h
  · next hg => rw [← hg, ← h]
  · cases h

/-- The entry a member or chunk ID names stands in its slot (R4). -/
theorem State.entry?_spec {s : State} {r : SlotRef} {x : Entry} (h : s.entry? r = some x) : s.Holds r x := entryAt_spec h

theorem State.entry?_entry {s : State} {r : SlotRef} {x : Entry} (h : s.entry? r = some x) :
    (s.bucket r.bucket)[r.slot].entry = some x := by rw [State.entry?_spec h]

theorem State.keeps_decrement (s : State) (id : Nat) : s.Keeps (s.decrement id).2 := by
  unfold State.decrement
  have hr := s.keeps_readBucket (decodeId id).bucket
  dsimp only
  split
  · next h => rw [h] at hr; exact hr
  · next t h =>
    rw [h] at hr
    split
    · exact hr
    · next x hx =>
      exact hr.trans (State.keeps_updateEntry (State.entry?_entry hx) (by simp) Entry.Sound.decrement)

theorem findFingerprint_spec {b : Bucket} {fp : List Byte} {i : Fin 16} {x : Entry} (h : findFingerprint b fp = some (i, x)) :
    b[i].entry = some x ∧ x.fingerprint = fp := by
  obtain ⟨j, -, hj⟩ := List.exists_of_findSome?_eq_some h
  split at hj
  · next y hy =>
    split at hj
    · next hf => cases hj; exact ⟨hy, hf⟩
    · cases hj
  · cases hj

theorem findFingerprint_none {b : Bucket} {fp : List Byte} (h : findFingerprint b fp = none) : b.Lacks fp := by
  intro j hj
  obtain ⟨y, hy, hf⟩ := Option.map_eq_some_iff.mp hj
  have hj := List.findSome?_eq_none_iff.mp h j (List.mem_finRange j)
  split at hj
  · next z hz => rw [hy] at hz; cases hz; simp [hf] at hj
  · next hz => rw [hy] at hz; cases hz

end Sys2Proof.Machine

/-! PROOFS. Containers, lane operations and settlement keep what the step invariants need. -/

namespace Sys2Proof.Machine

open Sys2Proof

/-! ### Containers -/

theorem State.keeps_modContainer (s : State) (k : Nat) (f : Container → Container) : s.Keeps (s.modContainer k f) :=
  .of_bounds { State.BoundsKept.refl s with table := by simp [State.modContainer] } rfl rfl rfl rfl

/-- A change of every lane record that leaves its state, its owner and its items. -/
theorem State.Keeps.mapLanes (s : State) (f : Lane → Lane) (hi : ∀ l, (f l).items = l.items) (hs : ∀ l, (f l).state = l.state)
    (ho : ∀ l, (f l).owner = l.owner) : s.Keeps { s with lanes := s.lanes.map f } :=
  .of_lanes (fun n => by
    have h : ({ s with lanes := s.lanes.map f } : State).lane n = f (s.lane n) := by simp [State.lane]
    rw [h, hi]
    exact ⟨le_max_right _ _, fun k => ⟨hs _ ▸ k, ho _⟩, fun p hp hf => ⟨ho _ ▸ hp, hs (s.lane n) ▸ hf⟩⟩) rfl rfl

theorem State.keeps_retest (s : State) : s.Keeps s.retest :=
  .mapLanes s _ (fun _ => by split <;> rfl) (fun _ => by split <;> rfl) (fun _ => by split <;> rfl)

theorem State.keeps_writeNotice (s : State) (p : PortNo) : s.Keeps (s.writeNotice p) := by
  unfold State.writeNotice
  split
  · rfl
  · next n rest hq =>
    have hb : ((s.ringPut p (.container n)).port p).notices = (s.port p).notices := by
      rw [State.ringPut_port]; unfold Port.advanced; split <;> rfl
    refine (s.keeps_ringPut p _).trans (State.Keeps.trans (.modPort _ p _ ⟨le_max_right _ _, le_max_right _ _, ?_⟩ ⟨id, fun _ => id⟩) (State.keeps_retest _))
    rw [hb, hq]
    simp only [List.length_cons]
    omega

theorem State.keeps_makeNotice (s : State) (p : PortNo) (n : Notice) : s.Keeps (s.makeNotice p n) := by
  unfold State.makeNotice
  split
  · next h =>
    have hl : (s.port p).notices.length < 768 := by
      exact of_decide_eq_true (Bool.and_eq_true_iff.mp h).2
    have hp : s.Keeps (s.modPort p fun q => { q with notices := q.notices ++ [n] }) :=
      .modPort s p _ ⟨le_max_right _ _, le_max_right _ _, by simp; omega⟩ ⟨id, fun _ => id⟩
    dsimp only
    split
    · exact hp.trans (State.keeps_writeNotice _ p)
    · exact hp.trans (State.keeps_join _ p _)
  · exact s.keeps_discard 1

theorem State.keeps_sealContainer (s : State) (k : Nat) (r : SealReason) : s.Keeps (s.sealContainer k r) := by
  unfold State.sealContainer
  split
  · rfl
  · split
    · rfl
    · exact ((s.keeps_modContainer k _).trans (.modLane _ _ _ ⟨rfl, rfl, rfl⟩)).trans (State.keeps_makeNotice _ _ _)

theorem State.keeps_sealOpen (s : State) (n : LaneNo) : s.Keeps (s.sealOpen n) := by
  unfold State.sealOpen
  split
  · exact s.keeps_sealContainer _ _
  · rfl

/-- A container is taken only while the counter is at most 4294967295 and the table holds fewer than 256 (R75). -/
theorem State.keeps_takeContainer {s : State} {o : Option PortNo} (h : s.canTake o = true) (n : LaneNo) (p : PortNo) (k : Nat) :
    s.Keeps (s.takeContainer n p k) := by
  have hc : s.counter ≤ 4294967295 ∧ s.table.length < 256 := by
    simp only [State.canTake, Bool.and_eq_true, decide_eq_true_eq] at h
    exact h.1
  obtain ⟨h1, h2⟩ := hc
  unfold State.takeContainer
  have taken (c : Container) : s.Keeps { s with counter := s.counter + 1, table := s.table ++ [c] } := by
    refine .of_bounds { State.BoundsKept.refl s with table := ?_, counter := ⟨Nat.le_succ _, ?_⟩ } rfl rfl rfl rfl
    · rw [List.length_append, List.length_singleton]; omega
    · dsimp only; omega
  exact (taken _).trans (.modLane _ n _ ⟨rfl, rfl, rfl⟩)

theorem State.keeps_placeInNew (s : State) (n : LaneNo) (k : Nat) : s.Keeps (s.placeInNew n k).2 := by
  unfold State.placeInNew
  split
  · split
    · next h => exact State.keeps_takeContainer h n _ _
    · dsimp only; split
      · rfl
      · exact s.keeps_setFlagAll _ _
  · rfl

theorem State.keeps_place (s : State) (n : LaneNo) (k : Nat) : s.Keeps (s.place n k).2 := by
  unfold State.place
  split
  · exact s.keeps_placeInNew n k
  · split
    · exact s.keeps_modContainer _ _
    · exact (s.keeps_sealContainer _ _).trans (State.keeps_placeInNew _ n k)

theorem State.keeps_loseContainer (s : State) (c : Container) (b : Bool) : s.Keeps (s.loseContainer c b) := by
  unfold State.loseContainer
  exact (s.keeps_table ((List.length_filter_le _ _).trans (le_max_right _ _))).trans (.modLane _ _ _ ⟨rfl, rfl, rfl⟩)

theorem State.keeps_listWithdrawn (s : State) (p : PortNo) (k : Nat) : s.Keeps (s.listWithdrawn p k) := by
  refine .modPort s p _ ⟨le_max_right _ _, ?_, le_max_right _ _⟩ ⟨id, fun _ => id⟩
  rw [List.length_append, List.length_singleton]
  split
  · next h => have : (s.port p).recent.length < 16 := h; omega
  · next h => have : ¬(s.port p).recent.length < 16 := h; rw [List.length_drop]; omega

/-! ### Runs, held records and the end of a grant -/

theorem State.keeps_closeRun (s : State) (n : LaneNo) : s.Keeps (s.closeRun n) := by
  unfold State.closeRun
  split
  · rfl
  · split
    · rfl
    · split
      · exact (s.keeps_ringPut _ _).trans (.modLane _ n _ ⟨rfl, rfl, rfl⟩)
      · exact (State.Keeps.modLane s n _ ⟨rfl, rfl, rfl⟩).trans (State.keeps_laneJoin _ n)

theorem State.keeps_stall (s : State) (n : LaneNo) (c : Stalls → Stalls) : s.Keeps (s.stall n c) :=
  (State.Keeps.modLane s n _ ⟨rfl, rfl, rfl⟩).trans (State.keeps_closeRun _ n)

theorem State.keeps_writeVerdict (s : State) (n : LaneNo) (v : Verdict) : s.Keeps (s.writeVerdict n v) := by
  unfold State.writeVerdict
  split
  · exact s.keeps_ringPut _ _
  · exact (State.Keeps.modLane s n _ ⟨rfl, rfl, rfl⟩).trans (State.keeps_laneJoin _ n)

theorem State.keeps_starveCheck (s : State) (n : LaneNo) : s.Keeps (s.starveCheck n) := by
  unfold State.starveCheck
  dsimp only
  split_ifs
  · exact s.keeps_stall n _
  · rfl

theorem State.keeps_grantCheck (s : State) (n : LaneNo) : s.Keeps (s.grantCheck n) := by
  refine .modLane s n _ ?_
  split
  · exact ⟨rfl, rfl, rfl⟩
  · split <;> exact ⟨rfl, rfl, rfl⟩

/-! ### A chunk's disposal -/

theorem Lane.judge_core (l : Lane) (w : LaneClass) :
    (l.judge w).items = l.items ∧ (l.judge w).state = l.state ∧ (l.judge w).owner = l.owner := by
  unfold Lane.judge
  split
  · exact ⟨rfl, rfl, rfl⟩
  · split
    · split <;> exact ⟨rfl, rfl, rfl⟩
    · exact ⟨rfl, rfl, rfl⟩

theorem Lane.count_core (l : Lane) (d : Bool) :
    (l.count d).items = l.items ∧ (l.count d).state = l.state ∧ (l.count d).owner = l.owner := by
  unfold Lane.count
  dsimp only
  split
  · exact Lane.judge_core _ _
  · exact ⟨rfl, rfl, rfl⟩

theorem State.keeps_addToRun (s : State) (n : LaneNo) (v : Verdict) : s.Keeps (s.addToRun n v) := by
  have h : ∀ r : Run, s.Keeps (s.modLane n fun l => { l with run := some r }) := fun r => .modLane s n _ ⟨rfl, rfl, rfl⟩
  unfold State.addToRun
  dsimp only
  split_ifs
  · exact (h _).trans (State.keeps_closeRun _ n)
  · exact h _

theorem State.keeps_report (s : State) (n : LaneNo) (v : Verdict) : s.Keeps (s.report n v) := by
  unfold State.report
  split
  · exact s.keeps_addToRun n v
  · exact (s.keeps_closeRun n).trans (State.keeps_writeVerdict _ n v)

theorem State.keeps_journalChunk (s : State) (n : LaneNo) (q : Nat) (c : Chunk) (r : Result) : s.Keeps (s.journalChunk n q c r) := by
  unfold State.journalChunk
  have h := (s.keeps_writeJournalPlace n (s.lane n).journal.length).trans
    (.modLane _ n (fun l =>
      { l with nextSeq := if q = Config.max32 then none else some (q + 1), journal := l.journal ++ [journalEntry q c r] }) ⟨rfl, rfl, rfl⟩)
  dsimp only
  split
  · split
    · exact h.trans (State.keeps_setFlag _ _ _ _)
    · exact h
  · exact h

theorem State.keeps_countVerdict (s : State) (n : LaneNo) (d : Bool) : s.Keeps (s.countVerdict n d) := by
  unfold State.countVerdict
  have h := State.Keeps.modLane s n (fun l => l.count d) ((s.lane n).count_core d)
  dsimp only
  split
  · exact h.trans (State.keeps_closeRun _ n)
  · exact h

theorem State.keeps_dispose (s : State) (n : LaneNo) (c : Chunk) (r : Result) : s.Keeps (s.dispose n c r) := by
  unfold State.dispose
  have h := (s.keeps_journalChunk n ((s.lane n).nextSeq.getD 0) c r).trans
    (State.keeps_countVerdict _ n (decide (r.kind = .dup)))
  exact ((h.trans (.modLane _ n _ ⟨rfl, rfl, rfl⟩)).trans (State.keeps_report _ n _)).trans
    ((State.keeps_starveCheck _ n).trans (State.keeps_grantCheck _ n))

/-! ### The records a lane writes -/

theorem State.keeps_freeLane (s : State) (n : LaneNo) : s.Keeps (s.freeLane n) :=
  State.Keeps.trans (t := { s with slots := s.slots.set (s.lane n).slot s.slots[(s.lane n).slot].giveUp })
    (.of_same rfl rfl rfl)
    (.setLane _ n _ (by simp [Lane.free]) ⟨by simp [Lane.free, LaneState.serves], by simp [Lane.free]⟩)

theorem State.keeps_gainJournalFull (s : State) (n : LaneNo) : s.Keeps (s.gainJournalFull n) :=
  ((s.keeps_stall n _).trans (.modLane _ n _ ⟨rfl, rfl, rfl⟩)).trans (State.keeps_sealOpen _ n)

/-- A CHECKPOINT record is due only in CHECKPOINTING: the lane it makes ACTIVE was in service. -/
theorem Lane.due_checkpoint {l : Lane} (h : l.due = some .checkpoint) : l.state = .checkpointing := by
  unfold Lane.due at h
  split at h
  · cases h
  · cases hs : l.state <;> simp_all

theorem State.keeps_writeDue {s : State} {n : LaneNo} {d : Due} (h : (s.lane n).due = some d) (p : PortNo) :
    s.Keeps (s.writeDue n p d) := by
  unfold State.writeDue
  dsimp only
  split
  · have hs := Lane.due_checkpoint h
    refine ((s.keeps_ringPut p _).trans (.modLane_state _ n _ ?_ ?_ ?_ rfl)).trans (State.keeps_starveCheck _ n)
    · exact le_refl _
    · simp [hs, LaneState.serves]
    · simp [hs]
  · exact (s.keeps_ringPut p _).trans (.modLane _ n _ ⟨rfl, rfl, rfl⟩)
  · exact (s.keeps_ringPut p _).trans (State.keeps_freeLane _ n)
  · split
    · exact (s.keeps_ringPut p _).trans (State.keeps_freeLane _ n)
    · rfl

theorem Lane.clearRingFull_core (l : Lane) :
    l.clearRingFull.items = l.items ∧ l.clearRingFull.state = l.state ∧ l.clearRingFull.owner = l.owner := by
  unfold Lane.clearRingFull; split <;> exact ⟨rfl, rfl, rfl⟩

theorem Lane.gainRingFull_core (l : Lane) :
    l.gainRingFull.items = l.items ∧ l.gainRingFull.state = l.state ∧ l.gainRingFull.owner = l.owner := by
  unfold Lane.gainRingFull; split <;> exact ⟨rfl, rfl, rfl⟩

/-- A record leaves the lane, with RING_FULL when it was the last (R65). -/
theorem State.keeps_clearRingFull (s : State) (n : LaneNo) (f : Lane → Lane) (hf : ∀ l, (f l).items = l.items ∧ (f l).state = l.state ∧
    (f l).owner = l.owner) : s.Keeps (s.modLane n fun l => (f l).clearRingFull) := by
  obtain ⟨h1, h2, h3⟩ := (f (s.lane n)).clearRingFull_core
  obtain ⟨k1, k2, k3⟩ := hf (s.lane n)
  exact .modLane s n _ ⟨h1.trans k1, h2.trans k2, h3.trans k3⟩

theorem State.keeps_resumeAdopted (s : State) (n : LaneNo) : s.Keeps (s.resumeAdopted n) := by
  unfold State.resumeAdopted
  dsimp only
  split
  · split
    · split
      · exact s.keeps_gainJournalFull n
      · rfl
    · exact s.keeps_starveCheck n
  · rfl

theorem State.keeps_laneWrite (s : State) (n : LaneNo) (p : PortNo) : s.Keeps (s.laneWrite n p) := by
  unfold State.laneWrite
  dsimp only
  split
  · split
    · exact (s.keeps_ringPut p _).trans (State.keeps_clearRingFull _ n (fun l => { l with run := none }) fun _ => ⟨rfl, rfl, rfl⟩)
    · rfl
  · exact (s.keeps_ringPut p _).trans (State.keeps_clearRingFull _ n (fun l => { l with held := none }) fun _ => ⟨rfl, rfl, rfl⟩)
  · exact ((s.keeps_ringPut p _).trans (State.keeps_clearRingFull _ n (fun l => { l with held := none }) fun _ => ⟨rfl, rfl, rfl⟩)).trans
      (State.keeps_resumeAdopted _ n)
  · split
    · next d h => exact State.keeps_writeDue h p
    · rfl

theorem State.keeps_kick (s : State) (n : LaneNo) (fuel : Nat) : s.Keeps (s.kick n fuel) := by
  induction fuel generalizing s with
  | zero => rfl
  | succ k ih =>
    unfold State.kick
    split
    · rfl
    · next p _ =>
      split
      · split
        · exact (s.keeps_laneWrite n p).trans (ih _)
        · exact (State.Keeps.modLane s n _ (s.lane n).gainRingFull_core).trans (State.keeps_join _ p _)
      · rfl

theorem State.keeps_journalFullStall (s : State) (n : LaneNo) : s.Keeps (s.journalFullStall n) :=
  (s.keeps_gainJournalFull n).trans (State.keeps_kick _ n _)

/-! ### Waiting lanes -/

theorem State.keeps_settleTurns (s : State) : s.Keeps s.settleTurns := .of_same rfl rfl rfl

theorem State.keeps_leaveTurn (s : State) (n : LaneNo) : s.Keeps (s.leaveTurn n) := .of_same rfl rfl rfl

theorem State.keeps_releaseWaiters (s : State) (ws : List LaneNo) (k : Option Nat) : s.Keeps (s.releaseWaiters ws k) := by
  unfold State.releaseWaiters
  refine State.Keeps.trans (.foldl (fun t n => ?_) ws s) (.of_same rfl rfl rfl)
  exact .modLane t n _ ⟨rfl, rfl, rfl⟩

theorem State.keeps_waitOn (s : State) (n : LaneNo) (k : Nat) (r : SlotRef) : s.Keeps (s.waitOn n k r) :=
  (((s.keeps_modContainer k _).trans (.modLane _ n _ ⟨rfl, rfl, rfl⟩)).trans (State.keeps_stall _ n _)).trans (State.keeps_sealContainer _ k _)

theorem State.keeps_finishSettling (s : State) (g : Settling) : s.Keeps (s.finishSettling g) := by
  unfold State.finishSettling
  have h : s.Keeps { s with settlings := s.settlings.filter fun h => decide (h.container ≠ g.container) } := .of_same rfl rfl rfl
  dsimp only
  split
  · exact h.trans (State.keeps_discard _ 1)
  · exact h.trans (State.keeps_complete _ _ _)

theorem State.keeps_finishSettlings (s : State) : s.Keeps s.finishSettlings := .foldl State.keeps_finishSettling _ s

theorem State.keeps_leaveWaiters (s : State) (n : LaneNo) : s.Keeps (s.leaveWaiters n) := by
  unfold State.leaveWaiters
  have dropped (f : Container → Container) (g : List Settling) : s.Keeps { s with table := s.table.map f, settlings := g } :=
    .of_bounds { State.BoundsKept.refl s with table := (List.length_map _).le.trans (le_max_right _ _) } rfl rfl rfl rfl
  exact (dropped _ _).trans ((State.keeps_leaveTurn _ n).trans (State.keeps_finishSettlings _))

/-! ### Aborts -/

theorem State.keeps_discardAborted (s : State) (n : LaneNo) : s.Keeps (s.discardAborted n) :=
  (s.keeps_discard _).trans (State.keeps_freeLane _ n)

theorem State.keeps_walkEnd (s : State) (n : LaneNo) : s.Keeps (s.walkEnd n) := by
  unfold State.walkEnd
  dsimp only
  split
  · split
    · exact (State.Keeps.modLane s n _ ⟨rfl, rfl, rfl⟩).trans (State.keeps_kick _ n _)
    · exact s.keeps_discardAborted n
  · exact s.keeps_discardAborted n

theorem State.keeps_walkCheck (s : State) (n : LaneNo) : s.Keeps (s.walkCheck n) := by
  unfold State.walkCheck
  dsimp only
  split
  · exact s.keeps_walkEnd n
  · rfl

theorem State.keeps_progress (s : State) (n : LaneNo) : s.Keeps (s.progress n) :=
  (s.keeps_kick n _).trans (State.keeps_walkCheck _ n)

theorem State.keeps_leaveWriters (s : State) (w : Writer) : s.Keeps (s.leaveWriters w) :=
  .of_ports (fun p => by
    have h : (s.leaveWriters w).port p = { s.port p with waiting := (s.port p).waiting.filter fun v => decide (v ≠ w) } := by
      simp [State.leaveWriters, State.port]
    rw [h]
    exact ⟨.of_core rfl, .of_core rfl⟩) rfl rfl

@[simp] theorem State.lane_finishSettling (s : State) (g : Settling) (n : LaneNo) : (s.finishSettling g).lane n = s.lane n := by
  unfold State.finishSettling
  dsimp only
  split
  · rfl
  · rw [State.lane_complete]; rfl

@[simp] theorem State.lane_finishSettlings (s : State) (n : LaneNo) : s.finishSettlings.lane n = s.lane n := by
  unfold State.finishSettlings
  generalize s.settlings.filter (fun g => g.waiters.isEmpty) = gs
  induction gs generalizing s with
  | nil => rfl
  | cons g gs ih => rw [List.foldl_cons, ih, State.lane_finishSettling]

@[simp] theorem State.lane_leaveWaiters (s : State) (m n : LaneNo) : (s.leaveWaiters m).lane n = s.lane n := by
  unfold State.leaveWaiters
  rw [State.lane_finishSettlings]
  rfl

@[simp] theorem State.lane_leaveWriters (s : State) (w : Writer) (n : LaneNo) : (s.leaveWriters w).lane n = s.lane n := rfl

/-- The orphan timer stops (R163). -/
def State.stopOrphanTimer (s : State) (n : LaneNo) : State := { s with orphanTimers := s.orphanTimers.set n none }

theorem State.keeps_stopOrphanTimer (s : State) (n : LaneNo) : s.Keeps (s.stopOrphanTimer n) := .of_same rfl rfl rfl

/-- The entry into ABORTING (R109), before the judgement whether the walk has ended already. -/
def State.enterAborting (s : State) (n : LaneNo) (c : AbortCause) : State :=
  (((s.leaveWaiters n).leaveWriters (.lane n)).modLane n fun l => l.enterAborting c).stopOrphanTimer n

theorem State.abortLane_eq (s : State) (n : LaneNo) (c : AbortCause) : s.abortLane n c = (s.enterAborting n c).walkCheck n := rfl

theorem State.lane_enterAborting (s : State) (n : LaneNo) (c : AbortCause) :
    (s.enterAborting n c).lane n = (s.lane n).enterAborting c := by
  change (((s.leaveWaiters n).leaveWriters (.lane n)).modLane n fun l => l.enterAborting c).lane n = _
  rw [State.lane_modLane, State.lane_leaveWriters, State.lane_leaveWaiters]

/-- A lane that is not FREE enters ABORTING, and so leaves service. -/
theorem State.keeps_enterAborting {s : State} {n : LaneNo} (h : (s.lane n).state ≠ .free) (c : AbortCause) :
    s.Keeps (s.enterAborting n c) := by
  have h1 : s.Keeps ((s.leaveWaiters n).leaveWriters (.lane n)) := (s.keeps_leaveWaiters n).trans (State.keeps_leaveWriters _ _)
  refine (h1.trans (.modLane_state _ n (fun l => l.enterAborting c) ?_ ?_ ?_ rfl)).trans (State.keeps_stopOrphanTimer _ n)
  · simp [Lane.enterAborting]
  · simp [Lane.enterAborting, LaneState.serves]
  · simpa using fun _ => h

theorem State.keeps_abortLane {s : State} {n : LaneNo} (h : (s.lane n).state ≠ .free) (c : AbortCause) : s.Keeps (s.abortLane n c) :=
  (State.keeps_enterAborting h c).trans (State.keeps_walkCheck _ n)

/-! ### Settlement and withdrawal -/

theorem State.keeps_settleMember (k : Nat) (acc : Nat × Nat × State) (r : SlotRef) : acc.2.2.Keeps (settleMember k acc r).2.2 := by
  obtain ⟨a, z, s⟩ := acc
  unfold settleMember
  have hr := s.keeps_readBucket r.bucket
  dsimp only
  split
  · split
    · next h => rw [h] at hr; exact hr
    · next t h =>
      rw [h] at hr
      split
      · exact hr
      · next x hx => exact hr.trans (State.keeps_updateEntry (State.entry?_entry hx) rfl Entry.Sound.settle)
  · rfl

theorem State.keeps_withdrawMember (k : Nat) (acc : Nat × State) (r : SlotRef) : acc.2.Keeps (withdrawMember k acc r).2 := by
  obtain ⟨a, s⟩ := acc
  unfold withdrawMember
  have hr := s.keeps_readBucket r.bucket
  dsimp only
  split
  · split
    · next h => rw [h] at hr; exact hr
    · next t h =>
      rw [h] at hr
      split
      · exact hr.trans (State.keeps_removeEntry _ _ _)
      · exact hr
  · rfl

/-- Operations on a state beside other results, taken one after another. -/
theorem State.Keeps.foldl_beside {α β : Type} {f : β → α → β} {st : β → State} (h : ∀ b a, (st b).Keeps (st (f b a))) (xs : List α)
    (b : β) : (st b).Keeps (st (xs.foldl f b)) := by
  induction xs generalizing b with
  | nil => exact .refl _
  | cons a xs ih => exact (h b a).trans (ih (f b a))

theorem State.keeps_withdrawContainer (s : State) (k : Nat) (c : WithdrawCause) : s.Keeps (s.withdrawContainer k c).2 := by
  unfold State.withdrawContainer
  split
  · rfl
  · next d _ =>
    have h := State.Keeps.foldl_beside (st := Prod.snd) (State.keeps_withdrawMember k) d.members (0, s)
    exact ((h.trans (State.keeps_loseContainer _ d false)).trans (State.keeps_listWithdrawn _ _ _)).trans
      (State.keeps_makeNotice _ _ _)

theorem State.keeps_withdrawOne (s : State) (k : Nat) (c : WithdrawCause) : s.Keeps (s.withdrawOne k c) := by
  unfold State.withdrawOne
  split
  · rfl
  · exact (((s.keeps_withdrawContainer k c).trans (State.keeps_releaseWaiters _ _ none)).trans (State.keeps_retest _)).trans
      (State.keeps_progress _ _)

/-- One container of the entry into PASSTHROUGH (R96): the waiters so far, and the state. -/
def passWithdraw (acc : List LaneNo × State) (number : Nat) : List LaneNo × State :=
  (acc.1 ++ (acc.2.withdrawContainer number .passthrough).1, (acc.2.withdrawContainer number .passthrough).2)

theorem keeps_passWithdraw (acc : List LaneNo × State) (k : Nat) : acc.2.Keeps (passWithdraw acc k).2 := by
  unfold passWithdraw
  exact State.keeps_withdrawContainer _ k _

/-- The state in which the entry into PASSTHROUGH has stopped the scanner and set the flag. -/
def State.passFlagged (s : State) : State :=
  ({ s with device := .passthrough, scanner := s.scanner.stop } : State).setFlagAll .passthrough .none

/-- The waiters of the containers withdrawn by the entry into PASSTHROUGH, and the state after their withdrawal. -/
def State.passWithdrawn (s : State) : List LaneNo × State :=
  s.passFlagged.containerNumbers.foldl passWithdraw ([], s.passFlagged)

theorem State.enterPassthrough_eq (s : State) :
    s.enterPassthrough =
      allLanes.foldl State.progress (s.passWithdrawn.2.releaseWaiters s.passWithdrawn.1).retest := rfl

theorem State.keeps_enterPassthrough (s : State) : s.Keeps s.enterPassthrough := by
  rw [State.enterPassthrough_eq]
  have h1 : s.Keeps s.passFlagged :=
    State.Keeps.trans (t := { s with device := .passthrough, scanner := s.scanner.stop }) (.of_same rfl rfl rfl) (State.keeps_setFlagAll _ _ _)
  have h2 := State.Keeps.foldl_beside (st := Prod.snd) keeps_passWithdraw
    s.passFlagged.containerNumbers ([], s.passFlagged)
  dsimp only at h2
  exact (((h1.trans h2).trans (State.keeps_releaseWaiters _ _ none)).trans (State.keeps_retest _)).trans
    (.foldl State.keeps_progress _ _)

theorem State.keeps_passCheck (s b : State) : s.Keeps (s.passCheck b) := by
  unfold State.passCheck
  split
  · exact s.keeps_enterPassthrough
  · rfl

end Sys2Proof.Machine

/-! PROOFS. The operations on the whole part, and port failure, keep what the step invariants need. -/

namespace Sys2Proof.Machine

open Sys2Proof

/-! ### Epochs and policies -/

theorem State.keeps_startEpochTimer (s : State) : s.Keeps s.startEpochTimer := .of_same rfl rfl rfl

theorem State.keeps_activatePolicy (s : State) (p : Policy) : s.Keeps (s.activatePolicy p) := by
  unfold State.activatePolicy
  have h : s.Keeps ({ s with policy := p, stagedPolicy := none } : State).startEpochTimer := .of_same rfl rfl rfl
  dsimp only
  split
  · exact h.trans (State.keeps_enterPassthrough _)
  · exact h

theorem le_countTo {limit n : Nat} (h : n ≤ limit) : n ≤ countTo limit n := by
  unfold countTo; split <;> omega

/-- The state of an advance in which a staged policy has become active (R121, R144). -/
def State.advanceBody (s : State) : State :=
  match s.stagedPolicy with
  | some p => ({ s with epoch := countTo Config.max32 s.epoch } : State).activatePolicy p
  | none => { s with epoch := countTo Config.max32 s.epoch }

/-- The scanner receives an advance's start request. -/
def State.requestStart (s : State) : State := { s with startRequests := s.startRequests + 1 }

theorem State.keeps_requestStart (s : State) : s.Keeps s.requestStart := .of_same rfl rfl rfl

theorem State.advance_eq (s : State) :
    s.advance = ((s.advanceBody.setFlagAll .epochAdvanced .none).startEpochTimer).requestStart := rfl

/-- An advance raises the epoch by 1, up to its limit (R117). -/
theorem State.keeps_advance (s : State) : s.Keeps s.advance := by
  have h : s.Keeps { s with epoch := countTo Config.max32 s.epoch } :=
    .of_bounds { State.BoundsKept.refl s with epoch := fun h => ⟨le_countTo h, countTo_le Config.max32 _⟩ } rfl rfl rfl rfl
  have hb : s.Keeps s.advanceBody := by
    unfold State.advanceBody
    split
    · exact h.trans (State.keeps_activatePolicy _ _)
    · exact h
  rw [State.advance_eq]
  exact (hb.trans (State.keeps_setFlagAll _ _ _)).trans ((State.keeps_startEpochTimer _).trans (State.keeps_requestStart _))

theorem State.keeps_requestAdvance (s : State) : s.Keeps s.requestAdvance.2 := by
  unfold State.requestAdvance
  split
  · exact s.keeps_advance
  · split
    · exact .of_bounds { State.BoundsKept.refl s with absorbed := (countTo_le Config.max32 _).trans (le_max_left _ _) } rfl rfl rfl rfl
    · exact .of_same rfl rfl rfl

theorem State.keeps_clearFreeze (s : State) (p : PortNo) : s.Keeps (s.clearFreeze p) := by
  unfold State.clearFreeze
  have h := State.Keeps.modPort_core s p (fun q => { q with freeze := false }) rfl
  dsimp only
  split
  · exact (h.trans (.of_same (by rfl) (by rfl) (by rfl))).trans (State.keeps_advance _)
  · exact h

/-! ### Device reset -/

theorem State.keeps_resetLanes (s : State) : s.Keeps s.resetLanes := by
  unfold State.resetLanes
  refine State.Keeps.trans ?_ (State.keeps_finishSettlings _)
  have h1 : s.Keeps { s with lanes := Vector.replicate 64 Lane.free } := .of_lanes (fun n => by
    have h : ({ s with lanes := Vector.replicate 64 Lane.free } : State).lane n = Lane.free := by simp [State.lane]
    rw [h]
    exact ⟨by simp [Lane.free], by simp [Lane.free, LaneState.serves], by simp [Lane.free]⟩) rfl rfl
  have h2 (t : State) : t.Keeps { t with
      ports := t.ports.map fun q => { q with notices := [], waiting := q.waiting.filter fun w => !w.dropsAtReset } } :=
    .of_ports (fun p => by
      have h : ({ t with
          ports := t.ports.map fun q => { q with notices := [], waiting := q.waiting.filter fun w => !w.dropsAtReset } } : State).port p
          = { t.port p with notices := [], waiting := (t.port p).waiting.filter fun w => !w.dropsAtReset } := by simp [State.port]
      rw [h]
      exact ⟨⟨le_max_right _ _, le_max_right _ _, Nat.zero_le _⟩, ⟨id, fun _ => id⟩⟩) rfl rfl
  exact (h1.trans (h2 _)).trans (.of_bounds { State.BoundsKept.refl _ with table := Nat.zero_le _ } rfl rfl rfl rfl)

/-- The buckets that a device reset finds in error, and writes anew at generation 0 (R193 step 4). -/
def State.lostAtReset (s : State) (b : Nat) : Bool := decide (b ∈ s.poisonList) || s.hasError (.bucket b) .uncorrectable

theorem resetBucket_entry (lost : Bool) (v : Bucket) (i : Fin 16) : (resetBucket lost v)[i].entry = none := by
  unfold resetBucket
  split
  · simp [Bucket.untouched]
  · simp

theorem resetBucket_untouched (lost : Bool) : resetBucket lost Bucket.untouched = Bucket.untouched := by
  cases lost with
  | true => rfl
  | false => simp [resetBucket, Bucket.untouched]

/-- The index after a device reset, bucket by bucket. -/
theorem State.bucket_resetIndex_of {s t : State} (w : sparseWf Bucket.untouched s.index = true)
    (h : t.index = sparseMap Bucket.untouched (fun b v => resetBucket (s.lostAtReset b) v) s.index) (b : Nat) :
    t.bucket b = resetBucket (s.lostAtReset b) (s.bucket b) := by
  unfold State.bucket
  rw [h]
  exact sparseGet_sparseMap _ _ _ none b w (resetBucket_untouched _)

theorem State.keeps_resetIndex (s : State) : s.Keeps s.resetIndex := by
  unfold State.resetIndex
  refine State.Keeps.trans ?_ (State.keeps_changeOccupancy _ 0)
  have h1 : s.Keeps { s with index := sparseMap Bucket.untouched (fun b v => resetBucket (s.lostAtReset b) v) s.index } :=
    State.keeps_of_index (.of_slots (fun w => sparseWf_sparseMap _ _ _ w) id fun w b i y hy => by
      rw [State.bucket_resetIndex_of w rfl, resetBucket_entry] at hy
      cases hy) rfl rfl rfl
  exact h1.trans (.of_bounds
    { State.BoundsKept.refl _ with poison := ⟨Nat.zero_le _, fun _ => List.nodup_nil⟩, poisonCount := Nat.zero_le _ } rfl rfl rfl rfl)

/-- The slots, the scanner and the device state after a device reset (R193 steps 5 to 7). -/
def State.resetRest (s : State) : State :=
  { s with slots := s.slots.map ProfileSlot.clearUses, scanner := Scanner.reset, device := .rebuild }

theorem State.keeps_resetRest (s : State) : s.Keeps s.resetRest :=
  .of_bounds { State.BoundsKept.refl s with reclaim := Nat.zero_le _, cursor := fun _ => Nat.zero_lt_succ _ } rfl rfl rfl rfl

theorem State.deviceReset_eq (s : State) : s.deviceReset = s.resetLanes.resetIndex.resetRest.setFlagAll .deviceReset .none := rfl

theorem State.keeps_deviceReset (s : State) : s.Keeps s.deviceReset := by
  rw [State.deviceReset_eq]
  exact ((s.keeps_resetLanes.trans (State.keeps_resetIndex _)).trans (State.keeps_resetRest _)).trans (State.keeps_setFlagAll _ _ _)

/-! ### Proposals -/

theorem State.keeps_applyBody (s : State) (b : ProposalBody) : s.Keeps (s.applyBody b).2 := by
  unfold State.applyBody
  cases b with
  | profileInstall i p => exact .of_same rfl rfl rfl
  | profileRetire i => exact .of_same rfl rfl rfl
  | policy p =>
    cases s.device with
    | rebuild => dsimp only; exact s.keeps_activatePolicy p
    | service => exact .of_same rfl rfl rfl
    | passthrough => exact .of_same rfl rfl rfl
  | serviceStart => cases s.device <;> exact .of_same rfl rfl rfl
  | deviceReset => dsimp only; exact s.keeps_deviceReset

theorem State.keeps_endProposal (s : State) (o : ProposalOutcome) : s.Keeps (s.endProposal o) := by
  unfold State.endProposal
  split
  · rfl
  · next p _ =>
    exact State.Keeps.trans (t := { s with proposal := none, lastEnded := some { body := p.body, outcome := o } }) (.of_same rfl rfl rfl)
      (State.keeps_setFlags _ _ _ _)

theorem State.keeps_applyProposal (s : State) : s.Keeps s.applyProposal := by
  unfold State.applyProposal
  split
  · rfl
  · exact (s.keeps_applyBody _).trans (State.keeps_endProposal _ _)

theorem State.keeps_leaveProposal (s : State) (q : PortNo) : s.Keeps (s.leaveProposal q) := by
  unfold State.leaveProposal
  split
  · rfl
  · next p _ =>
    split
    · exact s.keeps_endProposal _
    · split
      · have h : s.Keeps { s with proposal := some { p with
            required := p.required.filter fun r => decide (r ≠ q), received := p.received.filter fun r => decide (r ≠ q) } } := .of_same rfl rfl rfl
        dsimp only
        split
        · exact h.trans (State.keeps_applyProposal _)
        · exact h
      · rfl

/-! ### The reclaim queue -/

theorem State.keeps_passEnd (s : State) : s.Keeps s.passEnd := by
  have h (t : State) : t.Keeps { t with
      scanner := { t.scanner with cursor := 0, state := .idle, finishing := false }
      sweepEndRequests := if t.policy.triggers.sweepEnd then t.sweepEndRequests + 1 else t.sweepEndRequests } :=
    .of_bounds { State.BoundsKept.refl t with cursor := fun _ => Nat.zero_lt_succ _ } rfl rfl rfl rfl
  unfold State.passEnd
  cases s.scanner.requester with
  | none => exact h s
  | some p => exact (s.keeps_setFlag p _ _).trans (h _)

theorem State.keeps_passEndCheck (s : State) : s.Keeps s.passEndCheck := by
  unfold State.passEndCheck
  split
  · exact s.keeps_passEnd
  · rfl

theorem State.keeps_writeReclaim (s : State) (p : PortNo) : s.Keeps (s.writeReclaim p) := by
  unfold State.writeReclaim
  split
  · rfl
  · exact (s.keeps_ringPut p _).trans (.of_bounds
      { State.BoundsKept.refl _ with reclaim := List.length_erase_le.trans (le_max_right _ _) } rfl rfl rfl rfl)

theorem State.keeps_kickReclaim (s : State) (p : PortNo) (fuel : Nat) : s.Keeps (s.kickReclaim p fuel) := by
  induction fuel generalizing s with
  | zero => rfl
  | succ k ih =>
    unfold State.kickReclaim
    split
    · split
      · exact (s.keeps_writeReclaim p).trans (ih _)
      · exact s.keeps_join p _
    · rfl

theorem State.keeps_discardReclaims (s : State) (p : PortNo) : s.Keeps (s.discardReclaims p) := by
  unfold State.discardReclaims
  exact (s.keeps_queue ((List.length_filter_le _ _).trans (le_max_right _ _))).trans (State.keeps_discard _ _)

theorem State.keeps_stopScannerOf (s : State) (p : PortNo) : s.Keeps (s.stopScannerOf p) := by
  unfold State.stopScannerOf
  split
  · exact .of_same rfl rfl rfl
  · rfl

/-! ### Port failure (R158 to R160) -/

theorem State.keeps_strayHand (s : State) (p : PortNo) : s.Keeps (s.strayHand p) := by
  unfold State.strayHand
  split
  · exact .of_same rfl rfl rfl
  · exact .of_same rfl rfl rfl
  · rfl
  · rfl

/-- The orphan timer starts with the orphan limit in force (R163). -/
def State.startOrphanTimer (s : State) (n : LaneNo) : State :=
  { s with orphanTimers := s.orphanTimers.set n (some (s.policy.orphanLimit * 1000)) }

theorem State.keeps_startOrphanTimer (s : State) (n : LaneNo) : s.Keeps (s.startOrphanTimer n) := .of_same rfl rfl rfl

theorem State.orphanLane_eq (s : State) (n : LaneNo) :
    s.orphanLane n = (((s.discard (bit (s.lane n).run.isSome + bit (s.lane n).held.isSome)).leaveWaiters n).modLane n
      Lane.orphan).startOrphanTimer n := rfl

/-- The record of an orphaned lane is out of service, and has no owner (R161). -/
theorem State.keeps_orphan (s : State) (n : LaneNo) : s.Keeps (s.modLane n Lane.orphan) :=
  .setLane _ n _ (by simp [Lane.orphan]) ⟨by simp [Lane.orphan, LaneState.serves], by simp [Lane.orphan]⟩

theorem State.keeps_orphanLane (s : State) (n : LaneNo) : s.Keeps (s.orphanLane n) := by
  rw [State.orphanLane_eq]
  exact (((s.keeps_discard _).trans (State.keeps_leaveWaiters _ n)).trans (State.keeps_orphan _ n)).trans
    (State.keeps_startOrphanTimer _ n)

theorem State.keeps_failAborting (s : State) (n : LaneNo) : s.Keeps (s.failAborting n) := by
  unfold State.failAborting
  dsimp only
  split
  · exact s.keeps_discardAborted n
  · exact .modLane s n _ ⟨rfl, rfl, rfl⟩

/-- The run and the held record of an abandoned lane are discarded with the failure. -/
def State.dropRecords (s : State) (n : LaneNo) : State :=
  (s.discard (bit (s.lane n).run.isSome + bit (s.lane n).held.isSome)).modLane n fun l =>
    { l with run := none, held := none }.clearRingFull

theorem State.abandonLane_eq (s : State) (n : LaneNo) :
    s.abandonLane n = (((s.dropRecords n).abortLane n .abandon).failAborting n) := rfl

theorem State.keeps_dropRecords (s : State) (n : LaneNo) : s.Keeps (s.dropRecords n) :=
  (s.keeps_discard _).trans (State.keeps_clearRingFull _ n (fun l => { l with run := none, held := none }) fun _ => ⟨rfl, rfl, rfl⟩)

theorem State.dropRecords_state (s : State) (n : LaneNo) : ((s.dropRecords n).lane n).state = (s.lane n).state := by
  unfold State.dropRecords
  rw [State.lane_modLane]
  exact ({ (s.lane n) with run := none, held := none } : Lane).clearRingFull_core.2.1

theorem State.keeps_abandonLane {s : State} {n : LaneNo} (h : (s.lane n).state ≠ .free) : s.Keeps (s.abandonLane n) := by
  rw [State.abandonLane_eq]
  exact ((s.keeps_dropRecords n).trans (State.keeps_abortLane (by rw [State.dropRecords_state]; exact h) _)).trans
    (State.keeps_failAborting _ n)

/-- What has left service stays out of it. -/
theorem State.Keeps.serves_false {s t : State} (h : s.Keeps t) {n : LaneNo} (hs : (s.lane n).state.serves = false) :
    (t.lane n).state.serves = false := by
  by_contra hn
  rw [Bool.not_eq_false] at hn
  simp [((h.service.lanes n).serving hn).1] at hs

theorem State.abortLane_serves (s : State) (n : LaneNo) (c : AbortCause) : ((s.abortLane n c).lane n).state.serves = false := by
  rw [State.abortLane_eq]
  refine (State.keeps_walkCheck _ n).serves_false ?_
  rw [State.lane_enterAborting]
  rfl

theorem State.keeps_failLane (s : State) (p : PortNo) (n : LaneNo) : s.Keeps (s.failLane p n) := by
  unfold State.failLane
  dsimp only
  split
  · cases hs : (s.lane n).state with
    | active | checkpointing | closing =>
      cases (s.lane n).action with
      | suspend => exact s.keeps_orphanLane n
      | abandon => exact State.keeps_abandonLane (by simp [hs])
    | aborting => exact s.keeps_failAborting n
    | free | orphaned => exact .refl s
  · rfl

/-- A lane of the failed port leaves service (R160). -/
theorem State.failLane_serves {s : State} {p : PortNo} {n : LaneNo} (ho : (s.lane n).owner = some p) :
    ((s.failLane p n).lane n).state.serves = false := by
  have horphan : ((s.orphanLane n).lane n).state.serves = false := by
    change (State.lane (State.modLane _ n _) n).state.serves = false
    rw [State.lane_modLane]
    rfl
  have habandon : ((s.abandonLane n).lane n).state.serves = false := by
    rw [State.abandonLane_eq]
    exact (State.keeps_failAborting _ n).serves_false (State.abortLane_serves _ n _)
  unfold State.failLane
  simp only [ho, if_true]
  cases hs : (s.lane n).state with
  | active | checkpointing | closing =>
    cases (s.lane n).action with
    | suspend => exact horphan
    | abandon => exact habandon
  | aborting => exact (s.keeps_failAborting n).serves_false (by rw [hs]; rfl)
  | free | orphaned => simp [hs, LaneState.serves]

theorem State.ownedBut_failLanes {s : State} {p : PortNo} {ns : List LaneNo} (o : s.OwnedBut p ns) :
    (ns.foldl (fun t n => t.failLane p n) s).Owned := by
  induction ns generalizing s with
  | nil => exact o.owned
  | cons n ns ih =>
    refine ih ⟨fun m hm => ?_, ((s.keeps_failLane p n).service.ownedBut o).leaving⟩
    rcases ((s.keeps_failLane p n).service.ownedBut o).serving m hm with h | ⟨ho, hmem⟩
    · exact .inl h
    · rcases List.mem_cons.mp hmem with rfl | hmem
      · obtain ⟨-, hown⟩ := ((s.keeps_failLane p m).service.lanes m).serving hm
        rw [State.failLane_serves (hown.symm.trans ho)] at hm
        cases hm
      · exact .inr ⟨ho, hmem⟩

theorem Port.fail_bounds (q : Port) (now : Nat) : q.Bounds (q.fail now) := ⟨Nat.zero_le _, le_max_right _ _, Nat.zero_le _⟩

theorem Port.detach_bounds (q : Port) : q.Bounds q.detach := ⟨Nat.zero_le _, le_max_right _ _, Nat.zero_le _⟩

theorem State.data_failPort (s : State) (p : PortNo) : s.KeepsData (s.failPort p) :=
  (((s.keeps_strayHand p).data.trans (.modPort _ p _ (Port.fail_bounds _ _))).trans (State.keeps_discard _ _).data).trans
    (State.keeps_discardReclaims _ p).data

/-- The failed port is no longer ATTACHED, and its lanes in service are still to be taken out of it. -/
theorem State.Owned.modPort_but {s : State} (o : s.Owned) (p : PortNo) (f : Port → Port) (hf : (f (s.port p)).hand = none) :
    (s.modPort p f).OwnedBut p allLanes where
  serving n hn := by
    obtain ⟨q, ho, ha⟩ := o.serving n hn
    by_cases hq : q = p
    · exact .inr ⟨hq ▸ ho, List.mem_finRange n⟩
    · refine .inl ⟨q, ho, ?_⟩
      rw [State.attached_iff] at ha ⊢
      rw [State.port_modPort_ne _ _ _ hq]
      exact ha
  leaving q c hc := by
    by_cases hq : q = p
    · subst hq; rw [State.port_modPort, hf] at hc; cases hc
    · rw [State.port_modPort_ne _ _ _ hq] at hc
      exact o.leaving q c hc

theorem State.preserves_failSafe (s : State) (p : PortNo) : s.Preserves (s.failSafe p) := by
  have hflags : ∀ t : State, ∀ ns, t.Keeps (t.failFlags p ns) := fun t ns => by
    unfold State.failFlags
    dsimp only
    split
    · exact t.keeps_setFlags _ _ _
    · exact (t.keeps_setFlags _ _ _).trans (State.keeps_setFlags _ _ _ _)
  have hlanes := State.Keeps.foldl (fun t n => t.keeps_failLane p n) allLanes (s.failPort p)
  have hrest := fun t : State => (((hflags t (s.lanesToOrphan p)).trans (State.keeps_clearFreeze _ p)).trans
    (State.keeps_stopScannerOf _ p)).trans (State.keeps_leaveProposal _ p)
  refine ⟨((s.data_failPort p).trans hlanes.data).trans (hrest _).data, fun o => (hrest _).service.owned ?_⟩
  refine State.ownedBut_failLanes ?_
  have ho := ((s.keeps_strayHand p).service.owned o).modPort_but p (fun q => q.fail s.now) rfl
  exact ((State.keeps_discard _ _).trans (State.keeps_discardReclaims _ p)).service.ownedBut ho

/-- The port becomes DETACHED; the lanes in service are owned by other ports, as it owns none (R176). -/
theorem State.detachPort_owned {s : State} {p : PortNo} (o : s.Owned)
    (hf : ∀ n, (s.lane n).owner = some p → (s.lane n).state = .free) : (s.detachPort p).Owned := by
  have h : (s.modPort p Port.detach).Owned := by
    have hb := o.modPort_but p Port.detach rfl
    refine ⟨fun n hn => ?_, hb.leaving⟩
    rcases hb.serving n hn with h | ⟨ho, -⟩
    · exact h
    · rw [State.lane_modPort] at hn ho
      rw [hf n ho] at hn
      cases hn
  unfold State.detachPort
  exact ((((State.keeps_discard _ _).trans (State.keeps_discardReclaims _ p)).trans (State.keeps_stopScannerOf _ p)).trans
    (State.keeps_leaveProposal _ p)).service.owned h

theorem State.data_detachPort (s : State) (p : PortNo) : s.KeepsData (s.detachPort p) := by
  unfold State.detachPort
  exact (State.KeepsData.modPort s p _ (Port.detach_bounds _)).trans ((((State.keeps_discard _ _).trans (State.keeps_discardReclaims _ p)).trans
    (State.keeps_stopScannerOf _ p)).trans (State.keeps_leaveProposal _ p)).data

/-- The completion in hand is written, and leaves the hand. -/
def State.writeHand (s : State) (p : PortNo) (c : Completion) : State :=
  (s.ringPut p (.completion c)).modPort p fun q => { q with hand := none }

theorem State.keeps_writeHand (s : State) (p : PortNo) (c : Completion) : s.Keeps (s.writeHand p c) :=
  (s.keeps_ringPut p _).trans (State.keeps_giveHand _ p none nofun)

theorem State.lane_writeHand (s : State) (p : PortNo) (c : Completion) (n : LaneNo) : (s.writeHand p c).lane n = s.lane n := by
  unfold State.writeHand
  rw [State.lane_modPort, State.lane_ringPut]

theorem State.preserves_completeDetach {s : State} {p : PortNo} (hf : ∀ n, (s.lane n).owner = some p → (s.lane n).state = .free)
    (c : Completion) : s.Preserves (s.completeDetach p c) := by
  unfold State.completeDetach
  split
  · have h := s.keeps_writeHand p c
    exact ⟨h.data.trans (State.data_detachPort _ p), fun o =>
      State.detachPort_owned (h.service.owned o) (by simpa only [State.lane_ringPut, State.lane_modPort] using hf)⟩
  · have hd : s.KeepsData (s.modPort p fun q => { q with hand := some (.completion c true) }) :=
      .modPort s p _ (.of_lists rfl rfl rfl)
    refine ⟨hd.trans (State.keeps_join _ p _).data, fun o => (State.keeps_join _ p _).service.owned ⟨fun n hn => ?_, fun q d hq n ho => ?_⟩⟩
    · obtain ⟨q, ho, ha⟩ := o.serving n hn
      refine ⟨q, ho, ?_⟩
      rw [State.attached_iff] at ha ⊢
      by_cases hqp : q = p
      · subst hqp; rw [State.port_modPort]; exact ha
      · rw [State.port_modPort_ne _ _ _ hqp]; exact ha
    · by_cases hqp : q = p
      · subst hqp; exact hf n ho
      · rw [State.port_modPort_ne _ _ _ hqp] at hq
        exact o.leaving q d hq n ho

/-! ### The grants of the writer arbiter (R179) -/

theorem State.preserves_writeCompletion (s : State) (p : PortNo) : s.Preserves (s.writeCompletion p) := by
  unfold State.writeCompletion
  split
  · next c detach hh =>
    have h := s.keeps_writeHand p c
    cases detach with
    | false => exact h.preserves
    | true =>
      refine ⟨h.data.trans (State.data_detachPort _ p), fun o => State.detachPort_owned (h.service.owned o) ?_⟩
      simpa only [State.lane_ringPut, State.lane_modPort] using o.leaving p c hh
  · exact (State.Keeps.refl s).preserves
  · exact (State.Keeps.refl s).preserves
  · exact (State.Keeps.refl s).preserves

theorem State.preserves_writeAs (s : State) (p : PortNo) (w : Writer) : s.Preserves (s.writeAs p w) := by
  cases w with
  | command => exact s.preserves_writeCompletion p
  | lane n => exact (s.keeps_laneWrite n p).preserves
  | notices => exact (s.keeps_writeNotice p).preserves
  | reclaim => exact ((s.keeps_writeReclaim p).trans (State.keeps_passEndCheck _)).preserves
  | attention => exact ((s.keeps_ringPut p _).trans (.modPort_core _ p (fun q => { q with attnHeld := false }) rfl)).preserves

theorem State.preserves_drain (s : State) (p : PortNo) (fuel : Nat) : s.Preserves (s.drain p fuel) := by
  induction fuel generalizing s with
  | zero => exact (State.Keeps.refl s).preserves
  | succ k ih =>
    unfold State.drain
    split
    · exact (State.Keeps.refl s).preserves
    · next w rest _ =>
      split
      · have h := (State.Keeps.modPort_core s p (fun q => { q with waiting := rest }) rfl).preserves.trans (State.preserves_writeAs _ p w)
        refine h.trans ?_
        dsimp only
        split
        · exact (State.keeps_join _ p w).preserves.trans (ih _)
        · exact ih _
      · exact (State.Keeps.refl s).preserves

end Sys2Proof.Machine

/-! PROOFS. Every event but power-on and the end of the initialisation keeps what the step invariants need. -/

namespace Sys2Proof.Machine

open Sys2Proof

/-! ### The forms of an event -/

/-- The state after the event, if it is taken or stands as it was, keeps the data and the ownership of lanes in service. -/
def State.Admits (s : State) (o : StepOutcome) : Prop := ∀ t, o = .next t → s.Preserves t

theorem State.Preserves.admits {s t : State} (h : s.Preserves t) : s.Admits (.next t) := fun _ e => by
  cases e; exact h

theorem State.Keeps.admits {s t : State} (h : s.Keeps t) : s.Admits (.next t) := h.preserves.admits

theorem State.admits_self (s : State) : s.Admits (.next s) := (State.Keeps.refl s).admits

theorem State.admits_onEvent {s t : State} {enabled : Bool} (h : enabled = true → s.Preserves t) : s.Admits (s.onEvent enabled t) := by
  unfold State.onEvent
  split
  · next he => exact (h he).admits
  · exact s.admits_self

/-- A port takes commands while it is ATTACHED and has none in hand. -/
theorem State.admits_onCommand {s : State} {p : PortNo} {kind : Nat} {body : CommandRecord → State → State}
    (h : ∀ (r : CommandRecord) (s : State), s.attached p = true → (s.port p).hand = none → s.Preserves (body r s)) : s.Admits (s.onCommand p kind body) := by
  unfold State.onCommand
  split
  · next r hr =>
    obtain ⟨-, hh, -⟩ := State.front?_spec hr
    split
    · next ha =>
      rw [Bool.and_eq_true] at ha
      refine ((s.keeps_popQueue p).preserves.trans (h r _ ?_ ?_)).admits
      · exact State.attached_iff.mpr (by simpa using State.attached_iff.mp ha.1)
      · simpa using hh
    · exact s.admits_self
  · exact s.admits_self

theorem firstFailing_none {l : List (Bool × Outcome)} (h : firstFailing l = none) : ∀ x ∈ l, x.1 = true := by
  induction l with
  | nil => simp
  | cons x l ih =>
    obtain ⟨b, o⟩ := x
    unfold firstFailing at h
    cases b with
    | false => simp at h
    | true => simpa using fun a b hab => ih (by simpa using h) (a, b) hab

/-! ### Links and timers -/

theorem State.preserves_linkReset (s : State) (p : PortNo) : s.Preserves (s.linkReset p) := by
  unfold State.linkReset
  split
  · exact s.preserves_failSafe p
  · exact (State.Keeps.modPort s p _ ⟨Nat.zero_le _, le_max_right _ _, le_max_right _ _⟩ ⟨id, fun _ => id⟩).preserves

theorem State.keeps_loseRecord (s : State) (p : PortNo) : s.Keeps (s.loseRecord p) := by
  unfold State.loseRecord
  split
  · rfl
  · next g _ =>
    have h (a : Nat) : s.Keeps { s with memory := s.memory.set p (sparsePut [] s.memory[p] a []) } := by
      have k := State.Keeps.refl s
      refine ⟨⟨k.data.ports, k.data.items, k.data.table, k.data.poison, k.data.reclaim, k.data.cursor, k.data.epoch, k.data.counter,
        k.data.collisions, k.data.absorbed, k.data.discarded, k.data.correctable, k.data.poisonCount, fun q hq => ?_,
        .of_same rfl rfl⟩, k.service.ports, k.service.lanes⟩
      by_cases hqp : q = p
      · subst hqp; simpa using sparseWf_sparsePut _ _ _ _ hq
      · have hne : p.val ≠ q.val := fun e => hqp (Fin.ext e.symm)
        simpa [Vector.getElem_set, hne] using hq
    dsimp only
    split
    · rfl
    · exact (h _).trans (State.keeps_discard _ 1)

theorem admits_linkReset (p : PortNo) (errs : List DramError) (s : State) : s.Admits (execLinkReset p errs s) :=
  ((s.keeps_arise errs).preserves.trans (State.preserves_linkReset _ p)).admits

theorem admits_dmaFailure (p : PortNo) (a : DmaAccess) (errs : List DramError) (s : State) : s.Admits (execDmaFailure p a errs s) := by
  unfold execDmaFailure
  have h := (s.keeps_arise errs).preserves
  cases a with
  | extentRead => exact (h.trans (State.preserves_linkReset _ p)).admits
  | ringWrite =>
    dsimp only
    split
    · exact (h.trans ((State.keeps_loseRecord _ p).preserves.trans (State.preserves_linkReset _ p))).admits
    · exact (h.trans (State.preserves_linkReset _ p)).admits

theorem admits_watchdogExpiry (p : PortNo) (errs : List DramError) (s : State) : s.Admits (execWatchdogExpiry p errs s) :=
  State.admits_onEvent fun _ => (s.keeps_arise errs).preserves.trans (State.preserves_failSafe _ p)

theorem admits_settleDeadlineExpiry (k : Nat) (errs : List DramError) (s : State) : s.Admits (execSettleDeadlineExpiry k errs s) := by
  unfold execSettleDeadlineExpiry
  split
  · exact s.admits_self
  · exact State.admits_onEvent fun _ => ((((s.keeps_arise errs).trans (State.keeps_withdrawOne _ k _)).trans
      (State.keeps_setFlag _ _ _ _)).trans (State.keeps_passCheck _ s)).preserves

theorem State.isOrphaned_state {s : State} {n : LaneNo} (h : s.isOrphaned n = true) : (s.lane n).state = .orphaned := by
  simpa [State.isOrphaned] using h

theorem admits_orphanLimitExpiry (n : LaneNo) (s : State) : s.Admits (execOrphanLimitExpiry n s) := by
  refine State.admits_onEvent fun h => ?_
  rw [Bool.and_eq_true] at h
  have hs : (({ s with expired := s.expired.set n true } : State).lane n).state ≠ .free := by
    have := State.isOrphaned_state h.1
    simpa [State.lane] using (by simp [this] : (s.lane n).state ≠ .free)
  have h1 : s.Keeps { s with expired := s.expired.set n true } := .of_same rfl rfl rfl
  exact ((h1.trans (State.keeps_abortLane hs _)).trans (State.keeps_setFlagAll _ _ _)).preserves

theorem admits_epochTimerExpiry (errs : List DramError) (s : State) : s.Admits (execEpochTimerExpiry errs s) := by
  refine State.admits_onEvent fun _ => State.Keeps.preserves ?_
  refine State.Keeps.trans ((s.keeps_arise errs).trans ?_) (State.keeps_startEpochTimer _)
  split
  · exact State.keeps_requestAdvance _
  · rfl

theorem admits_consentDeadlineExpiry (s : State) : s.Admits (execConsentDeadlineExpiry s) :=
  State.admits_onEvent fun _ => (s.keeps_endProposal _).preserves

/-! ### Port commands -/

theorem admits_commandWrite (p : PortNo) (r : CommandRecord) (s : State) : s.Admits (execCommandWrite p r s) := by
  unfold execCommandWrite
  split
  · next h =>
    have h' : (s.port p).queue.length < 64 := h
    exact (State.Keeps.modPort s p (fun q =>
      { q with queue := q.queue ++ [r], watchdog := if q.state = .attached then some q.period else q.watchdog })
      ⟨by simp; omega, le_max_right _ _, le_max_right _ _⟩ ⟨id, fun _ => id⟩).admits
  · exact (s.keeps_setFlag _ _ _).admits

theorem admits_consumerIndexWrite (p : PortNo) (v : Nat) (errs : List DramError) (s : State) :
    s.Admits (execConsumerIndexWrite p v errs s) :=
  State.admits_onEvent fun _ => ((s.keeps_arise errs).trans (.modPort_core _ p (fun q =>
      { q with
          watchdog := some q.period
          consumer := match q.ring with | some g => if v < g.size then v else q.consumer | none => q.consumer }) rfl)).preserves.trans
    (State.preserves_drain _ p _)

theorem admits_commandRemovedUnattached (p : PortNo) (s : State) : s.Admits (execCommandRemovedUnattached p s) :=
  State.admits_onEvent fun _ => (s.keeps_popQueue p).preserves

theorem admits_unknownCommandKind (p : PortNo) (s : State) : s.Admits (execUnknownCommandKind p s) := by
  unfold execUnknownCommandKind
  split
  · split
    · exact ((s.keeps_popQueue p).trans (State.keeps_refuse _ p _ _)).admits
    · exact s.admits_self
  · exact s.admits_self

theorem admits_attach (p : PortNo) (s : State) : s.Admits (execAttach p s) := by
  unfold execAttach
  split
  · exact s.admits_self
  · next r _ =>
    split
    · exact s.admits_self
    · dsimp only
      split
      · exact ((s.keeps_popQueue p).trans (State.keeps_refuse _ p _ _)).admits
      · exact (((s.keeps_popQueue p).trans (.modPort _ p (fun q => q.attach r)
          ⟨le_max_right _ _, le_max_right _ _, le_max_right _ _⟩ ⟨fun _ => rfl, fun _ => id⟩)).trans
          (State.keeps_reply _ p _ _ _)).admits

theorem admits_detach (p : PortNo) (errs : List DramError) (s : State) : s.Admits (execDetach p errs s) := by
  refine State.admits_onCommand fun r s _ _ => ?_
  have h := (s.keeps_arise errs).preserves
  dsimp only
  split
  · exact h.trans (State.keeps_refuse _ p _ _).preserves
  · next hc =>
    refine h.trans (State.preserves_completeDetach (fun n ho => ?_) _)
    have hall := firstFailing_none hc _ (List.mem_cons_self ..)
    have hn := List.all_eq_true.mp hall n (List.mem_finRange n)
    simp only [Bool.or_eq_true, decide_eq_true_eq] at hn
    exact hn.resolve_right fun h => h ho

theorem admits_readAttention (p : PortNo) (s : State) : s.Admits (execReadAttention p s) :=
  State.admits_onCommand fun _ s _ _ =>
    ((State.Keeps.modPort_core s p (fun q => { q with summary := Summary.empty }) rfl).trans (State.keeps_reply _ p _ _ _)).preserves

theorem admits_deviceStatus (p : PortNo) (s : State) : s.Admits (execDeviceStatus p s) :=
  State.admits_onCommand fun _ s _ _ => (s.keeps_reply p _ _ _).preserves

/-! ### Lane commands -/

/-- A lane taken into service for an ATTACHED port that no DETACH completion of its own is about to detach. -/
theorem State.preserves_setLane {s : State} {n : LaneNo} {p : PortNo} {l : Lane} (ho : l.owner = some p) (ha : s.attached p = true)
    (hh : ∀ c, (s.port p).hand ≠ some (.completion c true)) (hi : l.items.length ≤ max 32 (s.lane n).items.length) :
    s.Preserves (s.setLane n l) where
  data := .of_units rfl (fun _ => .refl _) fun m => by
    by_cases h : m = n
    · subst h; rw [State.lane_setLane]; exact hi
    · rw [State.lane_setLane_ne _ _ _ h]; exact le_max_right _ _
  owned o := by
    refine ⟨fun m hm => ?_, fun q c hq m hm => ?_⟩
    · by_cases h : m = n
      · subst h; rw [State.lane_setLane]; exact ⟨p, ho, ha⟩
      · rw [State.lane_setLane_ne _ _ _ h] at hm ⊢; exact o.serving m hm
    · by_cases h : m = n
      · subst h
        rw [State.lane_setLane, ho] at hm
        cases hm
        exact absurd hq (hh c)
      · rw [State.lane_setLane_ne _ _ _ h] at hm ⊢; exact o.leaving q c hq m hm

theorem State.preserves_openLane {s : State} {p : PortNo} (ha : s.attached p = true) (hh : (s.port p).hand = none) (n : LaneNo)
    (g : LaneSettings) : s.Preserves (s.openLane n p g) := by
  have h : s.Preserves (s.setLane n (openedLane p g)) :=
    State.preserves_setLane rfl ha (by simp [hh]) (by simp [openedLane, Lane.free])
  exact h.trans (State.Keeps.of_same (by rfl) (by rfl) (by rfl)).preserves

theorem admits_openLane (p : PortNo) (s : State) : s.Admits (execOpenLane p s) := by
  refine State.admits_onCommand fun r s ha hh => ?_
  have hr (o : Outcome) := (s.keeps_refuse p r o).preserves
  split
  · exact hr _
  · split
    · exact hr _
    · split
      · exact hr _
      · split
        · exact hr _
        · exact (State.preserves_openLane ha hh _ _).trans (State.keeps_reply _ p _ _ _).preserves

/-- An item is appended only to a queue of fewer than 32 (R52). -/
theorem State.keeps_appendItem (s : State) (p : PortNo) (r : CommandRecord) (n : LaneNo) (i : Item) :
    s.Keeps (s.appendItem p r n i) := by
  unfold State.appendItem
  split
  · exact s.keeps_refuse p r _
  · next h =>
    have hi : (s.lane n).items.length < 32 := by
      have := firstFailing_none h (decide ((s.lane n).items.length < Config.itemSlots), .full) (by simp [Lane.queueChecks])
      exact of_decide_eq_true this
    refine State.Keeps.trans (.setLane s n ((s.lane n).append i) ?_ ⟨fun h => ⟨h, rfl⟩, fun _ ho hf => ⟨ho, hf⟩⟩)
      (State.keeps_reply _ p _ _ _)
    simp only [Lane.append, List.length_append, List.length_singleton]
    omega

theorem admits_feed (p : PortNo) (s : State) : s.Admits (execFeed p s) := by
  refine State.admits_onCommand fun r s _ _ => State.Keeps.preserves ?_
  dsimp only
  split
  · exact s.keeps_refuse p r _
  · split
    · exact s.keeps_appendItem p r _ _
    · exact s.keeps_refuse p r _

theorem admits_mark (p : PortNo) (s : State) : s.Admits (execMark p s) := by
  refine State.admits_onCommand fun r s _ _ => State.Keeps.preserves ?_
  split
  · exact s.keeps_appendItem p r _ _
  · exact s.keeps_refuse p r _

theorem admits_setLaneWeight (p : PortNo) (s : State) : s.Admits (execSetLaneWeight p s) := by
  refine State.admits_onCommand fun r s _ _ => State.Keeps.preserves ?_
  dsimp only
  split
  · exact s.keeps_refuse p r _
  · next n _ =>
    split
    · split
      · exact s.keeps_refuse p r _
      · exact (State.Keeps.modLane s n _ ⟨rfl, rfl, rfl⟩).trans (State.keeps_reply _ p _ _ _)
    · exact s.keeps_refuse p r _

theorem admits_laneStatus (p : PortNo) (s : State) : s.Admits (execLaneStatus p s) := by
  refine State.admits_onCommand fun r s _ _ => State.Keeps.preserves ?_
  split
  · exact s.keeps_refuse p r _
  · exact s.keeps_reply p r _ _

theorem admits_abortLane (p : PortNo) (s : State) : s.Admits (execAbortLane p s) := by
  refine State.admits_onCommand fun r s _ _ => State.Keeps.preserves ?_
  split
  · exact s.keeps_refuse p r _
  · next n _ =>
    split
    · exact s.keeps_refuse p r _
    · next h =>
      have hs := firstFailing_none h _ (List.mem_cons_self ..)
      refine (s.keeps_reply p r _ _).trans (State.keeps_abortLane ?_ _)
      rw [State.lane_reply]
      intro hf
      simp [hf] at hs

theorem State.preserves_adopt {s : State} {p : PortNo} (ha : s.attached p = true)
    (hh : ∀ c, (s.port p).hand ≠ some (.completion c true)) (n : LaneNo) : s.Preserves (s.adopt n p) := by
  unfold State.adopt
  have h : s.Preserves (s.modLane n fun l => l.adopt n p) := State.preserves_setLane rfl ha hh (le_max_right _ _)
  have moved (t : State) (o : Vector (Option Nat) 64) (f : Container → Container) : t.Keeps { t with orphanTimers := o, table := t.table.map f } := by
    refine .of_bounds { State.BoundsKept.refl t with table := ?_ } rfl rfl rfl rfl
    rw [List.length_map]
    exact le_max_right _ _
  exact h.trans ((moved _ _ _).trans (State.keeps_retest _)).preserves

theorem admits_adoptLane (p : PortNo) (s : State) : s.Admits (execAdoptLane p s) := by
  refine State.admits_onCommand fun r s ha hh => ?_
  split
  · exact (s.keeps_refuse p r _).preserves
  · next n _ =>
    split
    · exact (s.keeps_refuse p r _).preserves
    · have h := s.keeps_reply p r .ok [.num 1 n.val]
      refine (h.preserves.trans (State.preserves_adopt ?_ ?_ n)).trans (State.keeps_kick _ n _).preserves
      · exact State.attached_iff.mpr ((h.service.ports p).attached (State.attached_iff.mp ha))
      · intro c hc
        have := (h.service.ports p).leaving c hc
        simp [hh] at this

theorem State.keeps_readEntries (s : State) (n : LaneNo) (start k : Nat) : s.Keeps (s.readEntries n start k).2 := by
  induction k generalizing s start with
  | zero => rfl
  | succ k ih =>
    unfold State.readEntries
    split
    · rfl
    · exact (s.keeps_readJournalPlace n start).trans (ih _ _)

theorem admits_readJournal (p : PortNo) (errs : List DramError) (s : State) : s.Admits (execReadJournal p errs s) := by
  refine State.admits_onCommand fun r s _ _ => State.Keeps.preserves ?_
  dsimp only
  split
  · exact s.keeps_refuse p r _
  · split
    · split
      · exact s.keeps_refuse p r _
      · exact ((s.keeps_arise errs).trans (State.keeps_readEntries _ _ _ _)).trans (State.keeps_reply _ p r _ _)
    · exact s.keeps_refuse p r _

end Sys2Proof.Machine

/-! PROOFS. The remaining events keep what the step invariants need, and the step invariants (O55 to O60). -/

namespace Sys2Proof.Machine

open Sys2Proof

/-! ### Index commands -/

theorem State.keeps_settleContainer (s : State) (p : PortNo) (tag : Nat) (c : Container) : s.Keeps (s.settleContainer p tag c) := by
  have h := State.Keeps.foldl_beside (st := fun acc : Nat × Nat × State => acc.2.2) (State.keeps_settleMember c.number) c.members
    (0, 0, s)
  unfold State.settleContainer
  exact ((h.trans (State.keeps_loseContainer _ c true)).trans (.of_same (by rfl) (by rfl) (by rfl))).trans (State.keeps_retest _)

theorem admits_settle (p : PortNo) (errs : List DramError) (s : State) : s.Admits (execSettle p errs s) := by
  refine State.admits_onCommand fun r s _ _ => State.Keeps.preserves ?_
  dsimp only
  split
  · exact s.keeps_refuse p r _
  · split
    · exact s.keeps_refuse p r _
    · next c _ =>
      split
      · exact s.keeps_refuse p r _
      · have h := (s.keeps_arise errs).trans (State.keeps_giveHand _ p (some (.settle (numAt r 4 4))) nofun)
        exact (((h.trans (State.keeps_settleContainer _ p _ c)).trans (State.keeps_passCheck _ s)).trans
          (State.keeps_progress _ _)).trans (State.keeps_finishSettlings _)

theorem admits_release (p : PortNo) (s : State) : s.Admits (execRelease p s) := by
  refine State.admits_onCommand fun r s _ _ => State.Keeps.preserves ?_
  split
  · exact s.keeps_refuse p r _
  · exact s.keeps_giveHand p _ nofun

theorem State.keeps_releaseOne (s : State) (w : ReleaseWork) : s.Keeps (s.releaseOne w).2 := by
  unfold State.releaseOne
  split
  · rfl
  · exact (s.keeps_decrement _).trans (State.keeps_passCheck _ s)

theorem admits_releaseDecrement (w : ReleaseRef) (errs : List DramError) (s : State) : s.Admits (execReleaseDecrement w errs s) := by
  unfold execReleaseDecrement
  have h (x : ReleaseWork) := (s.keeps_arise errs).trans (State.keeps_releaseOne _ x)
  cases w with
  | inHand p =>
    dsimp only
    split
    · refine State.Keeps.admits ?_
      split
      · exact (h _).trans (State.keeps_complete _ p _)
      · exact (h _).trans (State.keeps_giveHand _ p _ nofun)
    · exact s.admits_self
    · exact s.admits_self
    · exact s.admits_self
  | stray i =>
    dsimp only
    split
    · exact s.admits_self
    · refine State.Keeps.admits ?_
      split
      · exact ((h _).trans (.of_same (by rfl) (by rfl) (by rfl))).trans (State.keeps_discard _ 1)
      · exact (h _).trans (.of_same rfl rfl rfl)

theorem ofLeBytes_lt (bs : List Byte) : ofLeBytes bs < 256 ^ bs.length := by
  induction bs with
  | nil => simp [ofLeBytes]
  | cons b bs ih =>
    have := b.isLt
    simp only [ofLeBytes, List.length_cons, pow_succ]
    omega

/-- A number of `w` bytes is below 256 to the power `w`. -/
theorem numAt_lt (r : CommandRecord) (o w : Nat) : numAt r o w < 256 ^ w :=
  (ofLeBytes_lt _).trans_le (Nat.pow_le_pow_right (by norm_num) (by simp))

theorem State.keeps_raiseCounter {s : State} {k : Nat} (h : k < 4294967296) : s.Keeps (s.raiseCounter k) :=
  .of_bounds { State.BoundsKept.refl s with
    counter := ⟨le_max_left _ _, by unfold State.raiseCounter; dsimp only; omega⟩ } rfl rfl rfl rfl

theorem insertedEntry_sound {r : CommandRecord} (hc : 1 ≤ numAt r 20 4 ∧ numAt r 20 4 ≤ 16777215) (e : Nat) :
    (insertedEntry r e).Sound e := by
  refine ⟨le_refl _, le_refl _, ?_⟩
  unfold insertedEntry
  by_cases hm : numAt r 20 4 = Config.maxCount
  · simp only [hm, if_true]; rfl
  · simp only [hm, if_false]
    simp only [Config.maxCount] at hm
    omega

/-- The entry an INSERT creates or increments is sound, as its count is 1 to 16777215 (R20). -/
theorem State.keeps_insertAt (s : State) (r : CommandRecord) (hc : 1 ≤ numAt r 20 4 ∧ numAt r 20 4 ≤ 16777215) :
    s.Keeps (s.insertAt r).2.2 := by
  unfold State.insertAt
  have hr := s.keeps_readBucket (bucketOf (recFingerprint r))
  dsimp only
  split
  · next h => rw [h] at hr; exact hr
  · next t h =>
    rw [h] at hr
    split
    · next i x hf =>
      split
      · exact hr.trans (State.keeps_updateEntry (findFingerprint_spec hf).1 (by simp) fun k => k.increment hc.1)
      · exact hr.trans (State.keeps_collide _)
    · next hf =>
      split
      · exact hr.trans (State.keeps_createEntry rfl (findFingerprint_none hf) (insertedEntry_sound hc _))
      · exact hr

theorem admits_insert (p : PortNo) (errs : List DramError) (s : State) : s.Admits (execInsert p errs s) := by
  refine State.admits_onCommand fun r s _ _ => State.Keeps.preserves ?_
  split
  · exact s.keeps_refuse p r _
  · next h =>
    have hc : 1 ≤ numAt r 20 4 ∧ numAt r 20 4 ≤ 16777215 := by
      have := firstFailing_none h (decide (1 ≤ numAt r 20 4) && decide (numAt r 20 4 ≤ Config.maxCount), .badParam)
        (by simp [State.insertChecks])
      simp only [Bool.and_eq_true, decide_eq_true_eq] at this
      exact this
    have hk : numAt r 8 4 < 4294967296 := (numAt_lt r 8 4).trans_le (by norm_num)
    exact ((((s.keeps_arise errs).trans (State.keeps_raiseCounter hk)).trans (State.keeps_insertAt _ r hc)).trans
      (State.keeps_passCheck _ s)).trans (State.keeps_reply _ p r _ _)

theorem State.admits_onQuery {s : State} {p : PortNo} {sel : Nat} {body : CommandRecord → State → State}
    (h : ∀ (r : CommandRecord) (s : State), s.Keeps (body r s)) : s.Admits (s.onQuery p sel body) := by
  unfold State.onQuery
  split
  · split
    · split
      · exact ((s.keeps_popQueue p).trans (h _ _)).admits
      · split
        · exact ((s.keeps_popQueue p).trans (State.keeps_refuse _ p _ _)).admits
        · exact s.admits_self
    · exact s.admits_self
  · exact s.admits_self

theorem State.keeps_queryFingerprint (s : State) (fp : List Byte) : s.Keeps (s.queryFingerprint fp).2.2 := by
  unfold State.queryFingerprint
  have hr := s.keeps_readBucket (bucketOf fp)
  dsimp only
  split
  · next h => rw [h] at hr; exact hr
  · next t h => rw [h] at hr; split <;> exact hr

theorem State.keeps_queryId (s : State) (id : Nat) : s.Keeps (s.queryId id).2.2 := by
  unfold State.queryId
  have hr := s.keeps_readBucket (decodeId id).bucket
  dsimp only
  split
  · next h => rw [h] at hr; exact hr
  · next t h => rw [h] at hr; split <;> exact hr

theorem admits_queryByFingerprint (p : PortNo) (errs : List DramError) (s : State) : s.Admits (execQueryByFingerprint p errs s) :=
  State.admits_onQuery fun r s => (((s.keeps_arise errs).trans (State.keeps_queryFingerprint _ _)).trans
    (State.keeps_passCheck _ s)).trans (State.keeps_reply _ p r _ _)

theorem admits_queryByChunkId (p : PortNo) (errs : List DramError) (s : State) : s.Admits (execQueryByChunkId p errs s) :=
  State.admits_onQuery fun r s => (((s.keeps_arise errs).trans (State.keeps_queryId _ _)).trans
    (State.keeps_passCheck _ s)).trans (State.keeps_reply _ p r _ _)

/-! ### Epochs, holds, sweeps, consent -/

theorem admits_epochAdvance (p : PortNo) (errs : List DramError) (s : State) : s.Admits (execEpochAdvance p errs s) := by
  refine State.admits_onCommand fun r s _ _ => State.Keeps.preserves ?_
  split
  · exact ((s.keeps_arise errs).trans (State.keeps_requestAdvance _)).trans (State.keeps_reply _ p r _ _)
  · exact s.keeps_refuse p r _

theorem admits_epochFreeze (p : PortNo) (s : State) : s.Admits (execEpochFreeze p s) :=
  State.admits_onCommand fun r s _ _ =>
    ((State.Keeps.modPort_core s p (fun q => { q with freeze := true }) rfl).trans (State.keeps_reply _ p r _ _)).preserves

theorem admits_epochThaw (p : PortNo) (errs : List DramError) (s : State) : s.Admits (execEpochThaw p errs s) :=
  State.admits_onCommand fun r s _ _ =>
    (((s.keeps_arise errs).trans (State.keeps_clearFreeze _ p)).trans (State.keeps_reply _ p r _ _)).preserves

theorem admits_holdPlace (p : PortNo) (s : State) : s.Admits (execHoldPlace p s) := by
  refine State.admits_onCommand fun r s _ _ => State.Keeps.preserves ?_
  dsimp only
  split
  · split
    · exact s.keeps_refuse p r _
    · next i _ =>
      have h (x : Hold) : s.Keeps { s with holds := s.holds.set i (some x) } := .of_same rfl rfl rfl
      exact (h _).trans (State.keeps_reply _ p r _ _)
  · exact s.keeps_refuse p r _

theorem admits_holdLift (p : PortNo) (s : State) : s.Admits (execHoldLift p s) := by
  refine State.admits_onCommand fun r s _ _ => State.Keeps.preserves ?_
  split
  · exact s.keeps_refuse p r _
  · next i _ =>
    split
    · exact s.keeps_refuse p r _
    · split
      · have h : s.Keeps { s with holds := s.holds.set i none } := .of_same rfl rfl rfl
        exact h.trans (State.keeps_reply _ p r _ _)
      · exact s.keeps_refuse p r _

theorem admits_holdList (p : PortNo) (s : State) : s.Admits (execHoldList p s) := by
  refine State.admits_onCommand fun r s _ _ => State.Keeps.preserves ?_
  dsimp only
  split
  · exact s.keeps_reply p r _ _
  · exact s.keeps_refuse p r _

theorem admits_sweepStart (p : PortNo) (s : State) : s.Admits (execSweepStart p s) := by
  refine State.admits_onCommand fun r s _ _ => State.Keeps.preserves ?_
  split
  · next mode fromStart _ _ =>
    split
    · exact s.keeps_refuse p r _
    · have h : s.Keeps { s with scanner := { s.scanner with
          state := .scanning, mode := mode, requester := some p, finishing := false,
          cursor := if fromStart then 0 else s.scanner.cursor } } :=
        .of_bounds { State.BoundsKept.refl s with cursor := fun hc => by dsimp only; split <;> omega } rfl rfl rfl rfl
      exact h.trans (State.keeps_reply _ p r _ _)
  · exact s.keeps_refuse p r _

theorem admits_sweepStop (p : PortNo) (s : State) : s.Admits (execSweepStop p s) := by
  refine State.admits_onCommand fun r s _ _ => State.Keeps.preserves ?_
  split
  · have h : s.Keeps { s with scanner := s.scanner.stop } := .of_same rfl rfl rfl
    exact h.trans (State.keeps_reply _ p r _ _)
  · exact s.keeps_refuse p r _

theorem admits_propose (p : PortNo) (errs : List DramError) (s : State) : s.Admits (execPropose p errs s) := by
  refine State.admits_onCommand fun r s _ _ => State.Keeps.preserves ?_
  split
  · exact s.keeps_refuse p r _
  · next b _ =>
    split
    · exact s.keeps_refuse p r _
    · have h : s.Keeps { s.arise errs with proposal := some (s.openedProposal p b) } := (s.keeps_arise errs).trans (.of_same rfl rfl rfl)
      dsimp only
      split
      · exact (h.trans (State.keeps_applyProposal _)).trans (State.keeps_reply _ p r _ _)
      · exact (h.trans (State.keeps_setFlags _ _ _ _)).trans (State.keeps_reply _ p r _ _)

theorem State.keeps_consentTo (s : State) (p : PortNo) (r : CommandRecord) (b : ProposalBody) (q : Proposal) :
    s.Keeps (s.consentTo p r b q) := by
  unfold State.consentTo
  split
  · have h : s.Keeps { s with proposal := some { q with received := joinSet q.received p } } := .of_same rfl rfl rfl
    dsimp only
    split
    · exact (h.trans (State.keeps_applyProposal _)).trans (State.keeps_reply _ p r _ _)
    · exact h.trans (State.keeps_reply _ p r _ _)
  · exact (s.keeps_endProposal _).trans (State.keeps_reply _ p r _ _)

theorem admits_consent (p : PortNo) (errs : List DramError) (s : State) : s.Admits (execConsent p errs s) := by
  refine State.admits_onCommand fun r s _ _ => State.Keeps.preserves ?_
  split
  · exact s.keeps_refuse p r _
  · split
    · exact s.keeps_refuse p r _
    · split
      · exact (s.keeps_arise errs).trans (State.keeps_consentTo _ p r _ _)
      · exact s.keeps_refuse p r _

theorem admits_withdraw (p : PortNo) (s : State) : s.Admits (execWithdraw p s) := by
  refine State.admits_onCommand fun r s _ _ => State.Keeps.preserves ?_
  split
  · exact s.keeps_refuse p r _
  · split
    · exact (s.keeps_endProposal _).trans (State.keeps_reply _ p r _ _)
    · exact s.keeps_refuse p r _

/-! ### The scanner -/

theorem admits_sweepEndRequest (errs : List DramError) (s : State) : s.Admits (execSweepEndRequest errs s) := by
  refine State.admits_onEvent fun _ => ?_
  have h (t : State) : t.Keeps { t with sweepEndRequests := t.sweepEndRequests - 1 } := .of_same rfl rfl rfl
  exact (((s.keeps_arise errs).trans (h _)).trans (State.keeps_requestAdvance _)).preserves

theorem admits_startRequest (s : State) : s.Admits (execStartRequest s) := by
  refine State.admits_onEvent fun _ => State.Keeps.preserves ?_
  dsimp only
  split
  · exact .of_same rfl rfl rfl
  · exact .of_same rfl rfl rfl

theorem State.poison_scanner (s : State) (b : Nat) : (s.poison b).scanner = s.scanner := by
  unfold State.poison
  rw [State.setFlagAll_scanner]
  rfl

theorem State.readBucket_scanner (s : State) (b : Nat) : (s.readBucket b).2.scanner = s.scanner := by
  unfold State.readBucket
  split
  · rfl
  · split
    · exact s.poison_scanner b
    · split <;> rfl

theorem State.changeOccupancy_scanner (s : State) (k : Nat) : (s.changeOccupancy k).scanner = s.scanner := by
  unfold State.changeOccupancy
  refine List.foldlRecOn (motive := fun t : State => t.scanner = s.scanner) _ _ rfl fun t ht p _ => ?_
  split
  · rw [State.setFlag_scanner, ht]
  · exact ht

theorem State.removeEntry_scanner (s : State) (b : Nat) (i : Fin 16) : (s.removeEntry b i).scanner = s.scanner := by
  unfold State.removeEntry
  rw [State.changeOccupancy_scanner]
  rfl

/-- The slots of a bucket give the reclaim queue at most one record each. -/
theorem State.keeps_reclaimSlots (p : PortNo) (b : Nat) (is : List (Fin 16)) (s : State)
    (h : s.scanner.queue.length + is.length ≤ 16) : s.Keeps (is.foldl (reclaimSlot p b) s) := by
  induction is generalizing s with
  | nil => rfl
  | cons i is ih =>
    rw [List.length_cons] at h
    have hstep : s.Keeps (reclaimSlot p b s i) ∧ (reclaimSlot p b s i).scanner.queue.length ≤ s.scanner.queue.length + 1 := by
      unfold reclaimSlot
      dsimp only
      split
      · exact ⟨.refl s, Nat.le_succ _⟩
      · split
        · have hq : (s.removeEntry b i).scanner.queue.length = s.scanner.queue.length := by rw [State.removeEntry_scanner]
          refine ⟨(s.keeps_removeEntry b i).trans (State.keeps_queue _ ?_), ?_⟩
          · rw [List.length_append, List.length_singleton]; omega
          · rw [List.length_append, List.length_singleton]; omega
        · exact ⟨.refl s, Nat.le_succ _⟩
    exact hstep.1.trans (ih _ (by have := hstep.2; omega))

theorem State.keeps_examine {s : State} (h : s.scanner.queue = []) (p : PortNo) : s.Keeps (s.examine p) := by
  unfold State.examine
  have hc (t : State) : t.Keeps { t with scanner := t.scanner.advanceCursor } := by
    refine .of_bounds { State.BoundsKept.refl t with reclaim := ?_, cursor := fun k => ?_ } rfl rfl rfl rfl
    · unfold Scanner.advanceCursor; split <;> exact le_max_right _ _
    · unfold Scanner.advanceCursor
      split
      · next hlt => exact hlt
      · exact k
  have hr := s.keeps_readBucket s.scanner.cursor
  have hs := s.readBucket_scanner s.scanner.cursor
  dsimp only
  refine State.Keeps.trans ?_ (State.keeps_passCheck _ s)
  split
  · next hb => rw [hb] at hr; exact hr.trans (hc _)
  · next t hb =>
    rw [hb] at hr hs
    refine (hr.trans (State.keeps_reclaimSlots p _ _ _ ?_)).trans (hc _)
    rw [hs, h]
    simp

theorem admits_bucketExamination (errs : List DramError) (s : State) : s.Admits (execBucketExamination errs s) := by
  unfold execBucketExamination
  split
  · exact s.admits_self
  · next p _ =>
    refine State.admits_onEvent fun h => State.Keeps.preserves ?_
    have hq : (s.arise errs).scanner.queue = [] := by
      simp only [Scanner.examines, Bool.and_eq_true, List.isEmpty_iff] at h
      exact h.1.2
    refine State.Keeps.trans (((s.keeps_arise errs).trans (State.keeps_examine hq p)).trans ?_) (State.keeps_passEndCheck _)
    split
    · exact State.keeps_kickReclaim _ p _
    · exact State.keeps_discardReclaims _ p

/-! ### Lane events -/

theorem admits_engineGrant (s : State) : s.Admits (execEngineGrant s) := by
  unfold execEngineGrant
  split
  · next e n _ _ =>
    have h := State.Keeps.modLane s n (fun l => l.granted e) ⟨rfl, rfl, rfl⟩
    have k (t : State) : t.Keeps { t with lastGranted := n } := .of_same rfl rfl rfl
    exact (h.trans (k _)).admits
  · exact s.admits_self

theorem State.keeps_seekStops {s u : State} {n : LaneNo} (h : (s.lane n).state ≠ .free) (hu : s.seekStops n = some u) : s.Keeps u := by
  unfold State.seekStops at hu
  dsimp only at hu
  split at hu
  · cases hu; exact State.keeps_abortLane h _
  · split at hu
    · cases hu; exact s.keeps_journalFullStall n
    · cases hu

/-- What is done where neither an exhausted sequence nor a full journal stops the chunk. -/
theorem State.keeps_seekStops_getD {s : State} {n : LaneNo} (h : (s.lane n).state ≠ .free) {t : State} (ht : s.Keeps t) :
    s.Keeps ((s.seekStops n).getD t) := by
  cases hu : s.seekStops n with
  | none => exact ht
  | some u => exact State.keeps_seekStops h hu

theorem State.keeps_endChunk {s : State} {n : LaneNo} (h : (s.lane n).state ≠ .free) (c : Cut) : s.Keeps (s.endChunk n c) := by
  unfold State.endChunk
  refine State.Keeps.trans (.modLane s n _ ⟨rfl, rfl, rfl⟩) (State.keeps_seekStops_getD ?_ (.refl _))
  rw [State.lane_modLane]
  exact h

theorem State.keeps_afterItem (s : State) (n : LaneNo) : s.Keeps (s.afterItem n) :=
  (s.keeps_starveCheck n).trans (State.keeps_grantCheck _ n)

theorem Lane.reaches_active {l : Lane} (h : l.reaches = true) : l.state = .active := by
  simp only [Lane.reaches, Bool.and_eq_true, decide_eq_true_eq] at h
  exact h.1.1

theorem State.keeps_takeByte {s : State} {n : LaneNo} {a l c : Nat} {rest : List Item} (ha : (s.lane n).state = .active)
    (hi : (s.lane n).items = .data a l c :: rest) (prof : Profile) (roll : Word32) (g : Grant) (b : Byte) :
    s.Keeps (s.takeByte n prof roll g (a, l, c) rest b) := by
  have hl : s.Keeps (s.setLane n ((s.lane n).takeByte prof roll g (a, l, c) rest b)) := by
    refine .setLane s n _ ?_ ⟨fun h => ⟨h, rfl⟩, fun _ ho hf => ⟨ho, hf⟩⟩
    rw [hi]
    unfold Lane.takeByte
    dsimp only
    split <;> simp
  have hf : ((s.setLane n ((s.lane n).takeByte prof roll g (a, l, c) rest b)).lane n).state ≠ .free := by
    rw [State.lane_setLane]
    change (s.lane n).state ≠ .free
    simp [ha]
  unfold State.takeByte
  dsimp only
  split
  · exact (hl.trans (State.keeps_endChunk hf _)).trans (State.keeps_afterItem _ n)
  · exact hl.trans (State.keeps_afterItem _ n)

theorem admits_byteTaken (n : LaneNo) (b : Byte) (s : State) : s.Admits (execByteTaken n b s) := by
  unfold execByteTaken
  dsimp only
  split
  · next g a l c rest prof roll _ hi _ =>
    refine State.admits_onEvent fun h => ?_
    rw [Bool.and_eq_true] at h
    exact (State.keeps_takeByte (Lane.reaches_active h.1) hi prof roll g b).preserves
  · exact s.admits_self

/-- The item at the head leaves the queue. -/
theorem State.keeps_dropItem {s : State} {n : LaneNo} {i : Item} {rest : List Item} (h : (s.lane n).items = i :: rest) :
    s.Keeps (s.modLane n fun l => { l with items := rest }) :=
  .modLane_items s n _ (by simp [h]) ⟨rfl, rfl⟩

theorem admits_cutReached (n : LaneNo) (s : State) : s.Admits (execCutReached n s) := by
  unfold execCutReached
  dsimp only
  split
  · next rest hi =>
    refine State.admits_onEvent fun h => State.Keeps.preserves ?_
    refine State.Keeps.trans ?_ (State.keeps_afterItem _ n)
    split
    · exact State.keeps_dropItem hi
    · refine (State.keeps_dropItem hi).trans (State.keeps_endChunk ?_ _)
      rw [State.lane_modLane]
      change (s.lane n).state ≠ .free
      simp [Lane.reaches_active h]
  · exact s.admits_self

/-- The state, the owner and the items of a lane are not a closed run's to change. -/
theorem State.closeRun_core (s : State) (n : LaneNo) :
    ((s.closeRun n).lane n).items = (s.lane n).items ∧ ((s.closeRun n).lane n).state = (s.lane n).state ∧
      ((s.closeRun n).lane n).owner = (s.lane n).owner := by
  unfold State.closeRun
  split
  · exact ⟨rfl, rfl, rfl⟩
  · split
    · exact ⟨rfl, rfl, rfl⟩
    · split
      · rw [State.lane_modLane, State.lane_ringPut]; exact ⟨rfl, rfl, rfl⟩
      · have h (t : State) : (t.laneJoin n).lane n = t.lane n := by unfold State.laneJoin; split <;> rfl
        rw [h, State.lane_modLane]
        exact ⟨rfl, rfl, rfl⟩

theorem admits_tagReached (n : LaneNo) (s : State) : s.Admits (execTagReached n s) := by
  unfold execTagReached
  dsimp only
  split
  · next v rest hi =>
    refine State.admits_onEvent fun _ => State.Keeps.preserves ?_
    refine State.Keeps.trans ((s.keeps_closeRun n).trans (.modLane_items _ n _ ?_ ⟨rfl, rfl⟩)) (State.keeps_afterItem _ n)
    rw [(s.closeRun_core n).1, hi]
    simp
  · exact s.admits_self

theorem State.keeps_enterCommit {s : State} {n : LaneNo} {i : Item} {rest : List Item} (ha : (s.lane n).state = .active)
    (hi : (s.lane n).items = i :: rest) (st : LaneState) : s.Keeps (s.enterCommit n st rest) := by
  unfold State.enterCommit
  obtain ⟨h1, h2, -⟩ := s.closeRun_core n
  refine State.Keeps.trans ((s.keeps_closeRun n).trans (.modLane_state _ n _ ?_ ?_ ?_ rfl))
    ((State.keeps_sealOpen _ n).trans (State.keeps_progress _ n))
  · rw [h1, hi]; simp
  · rw [h2, ha]; simp [LaneState.serves]
  · rw [h2, ha]; simp

theorem State.keeps_commitItem {s : State} {n : LaneNo} {i : Item} {rest : List Item} (ha : (s.lane n).state = .active)
    (hi : (s.lane n).items = i :: rest) (st : LaneState) : s.Keeps (s.commitItem n st rest) := by
  unfold State.commitItem
  split
  · exact State.keeps_enterCommit ha hi st
  · exact (State.keeps_endChunk (by simp [ha]) _).trans (State.keeps_afterItem _ n)

theorem admits_checkpointReached (n : LaneNo) (s : State) : s.Admits (execCheckpointReached n s) := by
  unfold execCheckpointReached
  split
  · next hi => exact State.admits_onEvent fun h => (State.keeps_commitItem (Lane.reaches_active h) hi _).preserves
  · exact s.admits_self

theorem admits_endReached (n : LaneNo) (s : State) : s.Admits (execEndReached n s) := by
  unfold execEndReached
  split
  · next hi => exact State.admits_onEvent fun h => (State.keeps_commitItem (Lane.reaches_active h) hi _).preserves
  · exact s.admits_self

/-! ### Lookups and waiter completions -/

/-- A placement leaves the index and the epoch (R77). -/
theorem State.place_index (s : State) (n : LaneNo) (k : Nat) :
    (s.place n k).2.index = s.index ∧ (s.place n k).2.epoch = s.epoch := by
  have hnotice (t : State) (p : PortNo) (x : Notice) : (t.makeNotice p x).index = t.index ∧ (t.makeNotice p x).epoch = t.epoch := by
    have hw (t : State) : (t.writeNotice p).index = t.index ∧ (t.writeNotice p).epoch = t.epoch := by
      unfold State.writeNotice
      split
      · exact ⟨rfl, rfl⟩
      · exact ⟨by simp [State.retest], by simp [State.retest]⟩
    unfold State.makeNotice
    split
    · dsimp only
      split
      · exact ⟨(hw _).1, (hw _).2⟩
      · exact ⟨rfl, rfl⟩
    · exact ⟨rfl, rfl⟩
  have hseal (t : State) (c : Nat) (x : SealReason) :
      (t.sealContainer c x).index = t.index ∧ (t.sealContainer c x).epoch = t.epoch := by
    unfold State.sealContainer
    split
    · exact ⟨rfl, rfl⟩
    · split
      · exact ⟨rfl, rfl⟩
      · exact ⟨(hnotice _ _ _).1, (hnotice _ _ _).2⟩
  have hnew (t : State) : (t.placeInNew n k).2.index = t.index ∧ (t.placeInNew n k).2.epoch = t.epoch := by
    unfold State.placeInNew
    split
    · split
      · exact ⟨rfl, rfl⟩
      · dsimp only
        split
        · exact ⟨rfl, rfl⟩
        · exact ⟨by simp, by simp⟩
    · exact ⟨rfl, rfl⟩
  unfold State.place
  split
  · exact hnew s
  · split
    · exact ⟨rfl, rfl⟩
    · exact ⟨(hnew _).1.trans (hseal _ _ _).1, (hnew _).2.trans (hseal _ _ _).2⟩

theorem State.keeps_noPlace (s : State) (n : LaneNo) : s.Keeps (s.noPlace n) := s.keeps_stall n _

theorem State.keeps_lookupUnindexed (s : State) (n : LaneNo) (c : Chunk) (r : UnindexedReason) :
    s.Keeps (s.lookupUnindexed n c r) := by
  unfold State.lookupUnindexed
  have hp := s.keeps_place n c.length
  split
  · next h => rw [h] at hp; exact hp.trans (State.keeps_noPlace _ n)
  · next h =>
    rw [h] at hp
    refine State.Keeps.trans ?_ (State.keeps_dispose _ n c _)
    split
    · exact hp.trans (State.keeps_collide _)
    · exact hp

theorem State.keeps_lookupNew {s : State} {n : LaneNo} {c : Chunk} {b : Nat} (hb : bucketOf c.fingerprint = b)
    (hn : (s.bucket b).Lacks c.fingerprint) (i : Fin 16) : s.Keeps (s.lookupNew n c b i) := by
  unfold State.lookupNew
  have hp := s.keeps_place n c.length
  have hx := (s.place_index n c.length).1
  split
  · next h => rw [h] at hp; exact hp.trans (State.keeps_noPlace _ n)
  · next k o t h =>
    rw [h] at hp hx
    have hl : (t.bucket b).Lacks c.fingerprint := by
      have : t.bucket b = s.bucket b := by unfold State.bucket; rw [hx]
      rw [this]; exact hn
    have hc : t.Keeps (t.createEntry b i (newEntry n c t.epoch k o)) :=
      State.keeps_createEntry hb hl ⟨le_refl _, le_refl _, by simp [newEntry]⟩
    exact ((hp.trans hc).trans (State.keeps_modContainer _ _ _)).trans (State.keeps_dispose _ n c _)

theorem State.keeps_lookupDup {s : State} {n : LaneNo} {c : Chunk} {b : Nat} {i : Fin 16} {x : Entry}
    (hx : (s.bucket b)[i].entry = some x) : s.Keeps (s.lookupDup n c b i x) :=
  (State.keeps_updateEntry hx (by simp) fun k => k.increment (le_refl 1)).trans (State.keeps_dispose _ n c _)

theorem State.keeps_lookupFound {s : State} {n : LaneNo} {c : Chunk} {b : Nat} {i : Fin 16} {x : Entry}
    (hx : (s.bucket b)[i].entry = some x) : s.Keeps (s.lookupFound n c b i x) := by
  unfold State.lookupFound
  split
  · exact s.keeps_lookupUnindexed n c _
  · split
    · split
      · exact State.keeps_lookupDup hx
      · exact s.keeps_waitOn n _ _
    · exact State.keeps_lookupDup hx
    · exact State.keeps_lookupDup hx
    · exact State.keeps_lookupDup hx

theorem State.keeps_lookup (s : State) (n : LaneNo) (c : Chunk) : s.Keeps (s.lookup n c) := by
  unfold State.lookup
  split
  · exact s.keeps_lookupUnindexed n c _
  · have hr := s.keeps_readBucket (bucketOf c.fingerprint)
    dsimp only
    split
    · next h =>
      rw [h] at hr
      exact (hr.trans (State.keeps_passCheck _ s)).trans (State.keeps_lookupUnindexed _ n c _)
    · next t h =>
      rw [h] at hr
      split
      · next hf => exact hr.trans (State.keeps_lookupFound (findFingerprint_spec hf).1)
      · next hf =>
        split
        · exact hr.trans (State.keeps_lookupNew rfl (findFingerprint_none hf) _)
        · exact hr.trans (State.keeps_lookupUnindexed _ n c _)

theorem admits_lookup (n : LaneNo) (errs : List DramError) (s : State) : s.Admits (execLookup n errs s) := by
  unfold execLookup
  split
  · exact s.admits_self
  · refine State.admits_onEvent fun h => State.Keeps.preserves ?_
    have ha : (s.lane n).state = .active := by
      simp only [State.looksUp, Bool.and_eq_true, decide_eq_true_eq] at h
      exact h.1.1
    have hf : (((s.arise errs).leaveTurn n).lane n).state ≠ .free := by
      change (s.lane n).state ≠ .free
      simp [ha]
    exact ((s.keeps_arise errs).trans (State.keeps_leaveTurn _ n)).trans
      (State.keeps_seekStops_getD hf (State.keeps_lookup _ n _))

theorem State.keeps_countWaiter (s : State) (k : Nat) (d : Bool) : s.Keeps (s.countWaiter k d) := .of_same rfl rfl rfl

theorem State.keeps_waiterEntry (s : State) (g : Settling) (r : SlotRef) : s.Keeps (s.waiterEntry g r).2 := by
  unfold State.waiterEntry
  have hr := s.keeps_readBucket r.bucket
  split
  · split
    · next h => rw [h] at hr; exact hr
    · next h => rw [h] at hr; exact hr
  · rfl

/-- The entry a waiter completes with stands in its slot. -/
theorem State.waiterEntry_spec {s t : State} {g : Settling} {r : SlotRef} {x : Entry} (h : s.waiterEntry g r = (some x, t)) :
    (t.bucket r.bucket)[r.slot].entry = some x := by
  unfold State.waiterEntry at h
  split at h
  · split at h
    · cases h
    · obtain ⟨he, rfl⟩ := Prod.mk.inj h
      exact State.entry?_entry he
  · cases h

theorem State.keeps_waiterDup {s : State} {n : LaneNo} {c : Chunk} {r : SlotRef} {x : Entry}
    (hx : (s.bucket r.bucket)[r.slot].entry = some x) : s.Keeps (s.waiterDup n c r x) :=
  ((State.keeps_updateEntry hx (by simp) fun k => k.increment (le_refl 1)).trans (.modLane _ n Lane.endWait ⟨rfl, rfl, rfl⟩)).trans
    (State.keeps_dispose _ n c _)

theorem admits_waiterCompletion (k : Nat) (errs : List DramError) (s : State) : s.Admits (execWaiterCompletion k errs s) := by
  unfold execWaiterCompletion
  split
  · exact s.admits_self
  · next g _ =>
    split
    · exact s.admits_self
    · next n r _ _ =>
      refine State.admits_onEvent fun _ => State.Keeps.preserves ?_
      have hw := (s.keeps_arise errs).trans (State.keeps_waiterEntry _ g r)
      refine State.Keeps.trans (State.Keeps.trans ?_ (State.keeps_passCheck _ s)) (State.keeps_finishSettlings _)
      split
      · next x t c he _ =>
        rw [he] at hw
        exact (hw.trans (State.keeps_waiterDup (State.waiterEntry_spec he))).trans (State.keeps_countWaiter _ _ _)
      · next x t y he _ =>
        rw [he] at hw
        exact (hw.trans (State.keeps_releaseWaiters _ _ _)).trans (State.keeps_countWaiter _ _ _)

/-! ### Aborts -/

theorem admits_abortWithdrawal (n : LaneNo) (errs : List DramError) (s : State) : s.Admits (execAbortWithdrawal n errs s) := by
  unfold execAbortWithdrawal
  split
  · exact State.admits_onEvent fun _ =>
      (((s.keeps_arise errs).trans (State.keeps_withdrawOne _ _ _)).trans (State.keeps_passCheck _ s)).preserves
  · exact s.admits_self

theorem State.keeps_walkEntry (s : State) (n : LaneNo) (a : AbortRecord) (e : JournalEntry) (k : Nat) :
    s.Keeps (s.walkEntry n a e k).2 := by
  unfold State.walkEntry
  have hr := s.keeps_readJournalPlace n k
  split
  · next h => rw [h] at hr; exact hr
  · next h =>
    rw [h] at hr
    split
    · exact hr.trans (State.keeps_decrement _ _)
    · exact hr

theorem admits_walkStep (n : LaneNo) (errs : List DramError) (s : State) : s.Admits (execWalkStep n errs s) := by
  unfold execWalkStep
  dsimp only
  split
  · refine State.admits_onEvent fun _ => State.Keeps.preserves ?_
    exact ((((s.keeps_arise errs).trans (State.keeps_walkEntry _ n _ _ _)).trans (.modLane _ n _ ⟨rfl, rfl, rfl⟩)).trans
      (State.keeps_passCheck _ s)).trans (State.keeps_walkCheck _ n)
  · exact s.admits_self

/-! ### Steps -/

theorem admits_exec (i : Instr) (s : State) (hp : i ≠ .powerOn) (he : i ≠ .initialisationEnd) : s.Admits (exec i s) := by
  cases i with
  | powerOn => exact absurd rfl hp
  | initialisationEnd => exact absurd rfl he
  | commandWrite p r => exact admits_commandWrite p r s
  | consumerIndexWrite p v e => exact admits_consumerIndexWrite p v e s
  | commandRemovedUnattached p => exact admits_commandRemovedUnattached p s
  | unknownCommandKind p => exact admits_unknownCommandKind p s
  | attach p => exact admits_attach p s
  | detach p e => exact admits_detach p e s
  | openLane p => exact admits_openLane p s
  | feed p => exact admits_feed p s
  | mark p => exact admits_mark p s
  | setLaneWeight p => exact admits_setLaneWeight p s
  | laneStatus p => exact admits_laneStatus p s
  | abortLane p => exact admits_abortLane p s
  | adoptLane p => exact admits_adoptLane p s
  | readJournal p e => exact admits_readJournal p e s
  | settle p e => exact admits_settle p e s
  | release p => exact admits_release p s
  | releaseDecrement w e => exact admits_releaseDecrement w e s
  | insert p e => exact admits_insert p e s
  | queryByFingerprint p e => exact admits_queryByFingerprint p e s
  | queryByChunkId p e => exact admits_queryByChunkId p e s
  | epochAdvance p e => exact admits_epochAdvance p e s
  | epochFreeze p => exact admits_epochFreeze p s
  | epochThaw p e => exact admits_epochThaw p e s
  | holdPlace p => exact admits_holdPlace p s
  | holdLift p => exact admits_holdLift p s
  | holdList p => exact admits_holdList p s
  | sweepStart p => exact admits_sweepStart p s
  | sweepStop p => exact admits_sweepStop p s
  | propose p e => exact admits_propose p e s
  | consent p e => exact admits_consent p e s
  | withdraw p => exact admits_withdraw p s
  | readAttention p => exact admits_readAttention p s
  | deviceStatus p => exact admits_deviceStatus p s
  | linkReset p e => exact admits_linkReset p e s
  | dmaFailure p a e => exact admits_dmaFailure p a e s
  | watchdogExpiry p e => exact admits_watchdogExpiry p e s
  | settleDeadlineExpiry c e => exact admits_settleDeadlineExpiry c e s
  | orphanLimitExpiry n => exact admits_orphanLimitExpiry n s
  | epochTimerExpiry e => exact admits_epochTimerExpiry e s
  | consentDeadlineExpiry => exact admits_consentDeadlineExpiry s
  | sweepEndRequest e => exact admits_sweepEndRequest e s
  | startRequest => exact admits_startRequest s
  | bucketExamination e => exact admits_bucketExamination e s
  | engineGrant => exact admits_engineGrant s
  | byteTaken n b => exact admits_byteTaken n b s
  | cutReached n => exact admits_cutReached n s
  | tagReached n => exact admits_tagReached n s
  | checkpointReached n => exact admits_checkpointReached n s
  | endReached n => exact admits_endReached n s
  | lookup n e => exact admits_lookup n e s
  | waiterCompletion c e => exact admits_waiterCompletion c e s
  | abortWithdrawal n e => exact admits_abortWithdrawal n e s
  | walkStep n e => exact admits_walkStep n e s

theorem State.keeps_tick (s : State) : s.Keeps s.tick := by
  have hp : s.Keeps { s with ports := s.ports.map fun q => { q with watchdog := Timer.tick q.watchdog } } := .of_ports (fun p => by
    have h : ({ s with ports := s.ports.map fun q => { q with watchdog := Timer.tick q.watchdog } } : State).port p =
        { s.port p with watchdog := Timer.tick (s.port p).watchdog } := by simp [State.port]
    rw [h]
    exact ⟨.of_core rfl, .of_core rfl⟩) rfl rfl
  exact hp.trans (.of_bounds { State.BoundsKept.refl s with table := by simp [State.tick] } rfl rfl rfl rfl)

/-- Every step but power-on and the end of the initialisation keeps the data and the ownership of lanes in service. -/
theorem preserves_step {s t : State} (hp : s.pending.head? ≠ some .powerOn) (he : s.pending.head? ≠ some .initialisationEnd)
    (h : step s = .next t) : s.Preserves t := by
  unfold step at h
  split at h
  · cases h; exact s.keeps_tick.preserves
  · next c rest hq =>
    rw [hq] at hp he
    have hrest : s.Keeps { s with pending := rest } := .of_same rfl rfl rfl
    exact hrest.preserves.trans (admits_exec c _ (fun e => hp (by rw [e]; rfl)) (fun e => he (by rw [e]; rfl)) t h)

/-! ### Power-on and the end of the initialisation (R187) -/

/-- The state is the power-on state but for waiting commands, the clock, ring records and the queues of the port units. -/
structure State.Fresh (t : State) (u : State) : Prop where
  lanes : t.lanes = State.reset.lanes
  ports : ∀ p, (t.port p) = { Port.reset with queue := (u.port p).queue } ∨ t.port p = Port.reset
  memory : t.memory = u.memory
  index : t.index = []
  epoch : t.epoch = 1
  counter : t.counter = 1
  units : t.table = [] ∧ t.poisonList = [] ∧ t.scanner = Scanner.reset
  counts : t.collisions = 0 ∧ t.absorbed = 0 ∧ t.discarded = 0 ∧ t.correctable = 0 ∧ t.poisonCount = 0

theorem State.port_reset (p : PortNo) : State.reset.port p = Port.reset := by simp [State.port, State.reset]

theorem State.lane_reset (n : LaneNo) : State.reset.lane n = Lane.free := by simp [State.lane, State.reset]

theorem fresh_powerOn {s t : State} (h : exec .powerOn s = .next t) : t.Fresh s := by
  change (Host.Outcome.next _ : StepOutcome) = _ at h
  cases h
  exact ⟨rfl, fun p => .inr (State.port_reset p), rfl, rfl, rfl, rfl, ⟨rfl, rfl, rfl⟩, ⟨rfl, rfl, rfl, rfl, rfl⟩⟩

theorem fresh_initialisationEnd {s t : State} (h : exec .initialisationEnd s = .next t) : t = s ∨ t.Fresh s := by
  change s.onEvent _ _ = _ at h
  unfold State.onEvent at h
  split at h
  · cases h
    exact .inr ⟨rfl, fun p => .inl (by simp [State.port]), rfl, rfl, rfl, rfl, ⟨rfl, rfl, rfl⟩, ⟨rfl, rfl, rfl, rfl, rfl⟩⟩
  · cases h; exact .inl rfl

theorem State.Fresh.lane {t u : State} (f : t.Fresh u) (n : LaneNo) : t.lane n = Lane.free := by
  rw [← State.lane_reset n]
  simp only [State.lane, f.lanes]

/-- No slot of the index holds an entry. -/
theorem State.Fresh.entry {t u : State} (f : t.Fresh u) (b : Nat) (i : Fin 16) : (t.bucket b)[i].entry = none := by
  simp [State.bucket, f.index, sparseGet, Bucket.untouched]

theorem State.Fresh.wf {t u : State} (f : t.Fresh u) (w : Memory.wf u = true) : Memory.wf t = true := by
  rw [Memory.wf_iff] at w ⊢
  rw [f.index, f.memory]
  exact ⟨rfl, w.2⟩

theorem State.Fresh.bounded {t u : State} (f : t.Fresh u) (hq : ∀ p, (u.port p).queue.length ≤ 64) : t.Bounded := by
  obtain ⟨ht, hpl, hsc⟩ := f.units
  obtain ⟨h1, h2, h3, h4, h5⟩ := f.counts
  refine
    { queues := fun p => ?_, recent := fun p => ?_, notices := fun p => ?_, items := fun n => ?_, table := by simp [ht]
      poison := by simp [hpl], reclaim := by simp [hsc, Scanner.reset], cursor := by simp [hsc, Scanner.reset]
      epoch := by simp [f.epoch], counter := by simp [f.counter], counts := by omega }
  · rcases f.ports p with h | h <;> rw [h]
    · exact hq p
    · simp [Port.reset]
  · rcases f.ports p with h | h <;> rw [h] <;> simp [Port.reset]
  · rcases f.ports p with h | h <;> rw [h] <;> simp [Port.reset]
  · rw [f.lane]; simp [Lane.free]

theorem State.Fresh.distinct {t u : State} (f : t.Fresh u) : t.Distinct where
  home b i x h := by rw [f.entry] at h; cases h
  unique b i j x y h := by rw [f.entry] at h; cases h

theorem State.Fresh.sound {t u : State} (f : t.Fresh u) : t.Sound where
  entries b i x h := by rw [f.entry] at h; cases h
  epoch := by simp [f.epoch]

theorem State.Fresh.owned {t u : State} (f : t.Fresh u) : t.Owned where
  serving n h := by rw [f.lane] at h; cases h
  leaving _ _ _ n _ := by rw [f.lane]; rfl

/-- What a step does: it keeps what the invariants need, or it brings the power-on state. -/
theorem step_preserves_or_fresh {s t : State} (h : step s = .next t) : s.Preserves t ∨ t.Fresh s := by
  by_cases hp : s.pending.head? = some .powerOn
  · obtain ⟨rest, hq⟩ := List.head?_eq_some_iff.mp hp
    unfold step at h
    rw [hq] at h
    have f := fresh_powerOn h
    exact .inr ⟨f.lanes, f.ports, f.memory, f.index, f.epoch, f.counter, f.units, f.counts⟩
  · by_cases he : s.pending.head? = some .initialisationEnd
    · obtain ⟨rest, hq⟩ := List.head?_eq_some_iff.mp he
      unfold step at h
      rw [hq] at h
      rcases fresh_initialisationEnd h with rfl | f
      · have kept : s.Keeps { s with pending := rest } := .of_same rfl rfl rfl
        exact .inl kept.preserves
      · exact .inr ⟨f.lanes, f.ports, f.memory, f.index, f.epoch, f.counter, f.units, f.counts⟩
    · exact .inl (preserves_step hp he h)

/-! ### The step invariants -/

/-- Settles O55, from what each operation does to the index and to the ring records. -/
theorem stepKeepsMemoryCanonical : Obligations.StepKeepsMemoryCanonical := by
  unfold Obligations.StepKeepsMemoryCanonical
  intro s t w h
  exact (step_preserves_or_fresh h).elim (fun k => k.data.memory w) fun f => f.wf w

/-- Settles O56, from what each operation does to the bounded quantities. -/
theorem stepKeepsBounds : Obligations.StepKeepsBounds := by
  unfold Obligations.StepKeepsBounds
  intro s t b h
  exact (step_preserves_or_fresh h).elim (fun k => k.data.bounded b) fun f => f.bounded b.queues

/-- Settles O57: an entry is created only in the bucket of its fingerprint, where no entry has it. -/
theorem stepKeepsFingerprintsUnique : Obligations.StepKeepsFingerprintsUnique := by
  unfold Obligations.StepKeepsFingerprintsUnique
  intro s t w d h
  exact (step_preserves_or_fresh h).elim (fun k => k.data.index.distinct ((Memory.wf_iff s).mp w).1 d) fun f => f.distinct

/-- Settles O58: creation, increment, decrement and settlement make sound entries of sound ones, and the epoch only rises. -/
theorem stepKeepsEntriesSound : Obligations.StepKeepsEntriesSound := by
  unfold Obligations.StepKeepsEntriesSound
  intro s t w d h
  exact (step_preserves_or_fresh h).elim (fun k => k.data.index.sound ((Memory.wf_iff s).mp w).1 d) fun f => f.sound

/-- Settles O59: a lane enters service only for an ATTACHED port, and a port leaves ATTACHED only with its lanes out of service. -/
theorem stepKeepsServedLanesOwned : Obligations.StepKeepsServedLanesOwned := by
  unfold Obligations.StepKeepsServedLanesOwned
  intro s t o h
  exact (step_preserves_or_fresh h).elim (fun k => k.owned o) fun f => f.owned

/-- Settles O60, by what every operation but the two power events does to the two counters. -/
theorem stepNeverLowersEpochOrCounter : Obligations.StepNeverLowersEpochOrCounter := by
  unfold Obligations.StepNeverLowersEpochOrCounter
  intro s t he hp hi h
  have k := (preserves_step hp hi h).data
  exact ⟨(k.epoch he).1, k.counter.1⟩

/-- Settles O54: nothing has happened yet. -/
theorem resetMeetsInvariants : Obligations.ResetMeetsInvariants := by
  unfold Obligations.ResetMeetsInvariants
  have f : State.reset.Fresh State.reset :=
    ⟨rfl, fun p => .inr (State.port_reset p), rfl, rfl, rfl, rfl, ⟨rfl, rfl, rfl⟩, ⟨rfl, rfl, rfl, rfl, rfl⟩⟩
  refine ⟨?_, f.bounded fun p => ?_, f.distinct, f.sound, f.owned⟩
  · rw [Memory.wf_iff]
    exact ⟨rfl, fun p => by simp [State.reset, sparseWf, sparseWfFrom]⟩
  · rw [State.port_reset]; simp [Port.reset]

/-- Settles O1: both parts of a step, read off its definition. -/
theorem stepTakesFrontCommand : Obligations.StepTakesFrontCommand := by
  unfold Obligations.StepTakesFrontCommand
  intro c rest s
  constructor <;> intro h <;> unfold step <;> rw [h]

end Sys2Proof.Machine

/-! PROOFS. Power, the port units, their commands and the attention summary (O2, O4, O6, O7, O10, O11). -/

namespace Sys2Proof.Machine

open Sys2Proof

variable {s : State} {p : PortNo} {r : CommandRecord}

/-! ### Completions that are not written at once -/

/-- A completion that finds no free position, or a writer waiting before it, stands in hand (R179, R180). -/
theorem State.complete_held (ha : s.attached p = true) (hw : s.canWrite p = false) (c : Completion) :
    s.complete p c = (s.modPort p fun q => { q with hand := some (.completion c false) }).join p .command := by
  unfold State.complete
  simp [ha, hw]

/-- A completion at a port not ATTACHED is discarded and counted (R181). -/
theorem State.complete_unattached (ha : s.attached p = false) (c : Completion) :
    s.complete p c = (s.modPort p fun q => { q with hand := none }).discard 1 := by
  unfold State.complete
  simp [ha]

theorem State.attached_eq_false : s.attached p = false ↔ (s.port p).state ≠ .attached := by simp [State.attached]

@[simp] theorem State.attached_popQueue : (s.popQueue p).attached p = s.attached p := by simp [State.attached]

theorem State.canWrite_popQueue : (s.popQueue p).canWrite p = s.canWrite p := by
  apply State.canWrite_congr <;> rw [State.port_popQueue]

theorem State.port_join (w : Writer) : (s.join p w).port p = { s.port p with waiting := joinSet (s.port p).waiting w } := by
  simp [State.join]

theorem State.port_join_ne (w : Writer) {q : PortNo} (h : q ≠ p) : (s.join p w).port q = s.port q := by
  simp [State.join, State.port_modPort_ne _ _ _ h]

/-! ### Power (R187) -/

theorem exec_powerOn (s : State) : exec .powerOn s = .next { State.reset with pending := s.pending, memory := s.memory } := rfl

theorem exec_initialisationEnd_of_running (h : s.initialising = true) :
    exec .initialisationEnd s = .next { State.reset with
      initialising := false, pending := s.pending, memory := s.memory, now := s.now
      ports := s.ports.map fun q => { Port.reset with queue := q.queue } } := by
  change s.onEvent _ _ = _
  rw [State.onEvent, if_pos h]

/-- The state right after power-on, and after a record has been written while the initialisation runs. -/
def State.powered (s : State) : State := { State.reset with pending := s.pending, memory := s.memory }

def State.poweredWith (s : State) (p : PortNo) (r : CommandRecord) : State :=
  s.powered.modPort p fun q =>
    { q with queue := q.queue ++ [r], watchdog := if q.state = .attached then some q.period else q.watchdog }

/-- The state at the end of the initialisation. -/
def State.initialised (s : State) : State :=
  { State.reset with
    initialising := false, pending := s.pending, memory := s.memory, now := s.now
    ports := s.ports.map fun q => { Port.reset with queue := q.queue } }

theorem State.port_powered (q : PortNo) : s.powered.port q = Port.reset := State.port_reset q

theorem State.port_initialised (q : PortNo) : s.initialised.port q = { Port.reset with queue := (s.port q).queue } := by
  simp [State.initialised, State.port]

theorem State.queue_poweredWith (q : PortNo) : ((s.poweredWith p r).port q).queue = if q = p then [r] else [] := by
  unfold State.poweredWith
  by_cases hq : q = p
  · subst hq
    rw [State.port_modPort, State.port_powered]
    simp [Port.reset]
  · rw [State.port_modPort_ne _ _ _ hq, State.port_powered]
    simp [Port.reset, hq]

/-- Settles O2: power-on, a record written while the initialisation runs, and its end, each by its own equation. -/
theorem powerUpBringsRebuild : Obligations.PowerUpBringsRebuild := by
  unfold Obligations.PowerUpBringsRebuild
  intro s p r
  have hport (q : PortNo) : (s.poweredWith p r).initialised.port q = { Port.reset with queue := if q = p then [r] else [] } := by
    rw [State.port_initialised, State.queue_poweredWith]
  have hroom : (s.powered.port p).queue.length < 64 := by rw [State.port_powered]; decide
  refine ⟨s.powered, s.poweredWith p r, (s.poweredWith p r).initialised, exec_powerOn s, exec_commandWrite_of_room hroom, fun _ => rfl,
    exec_initialisationEnd_of_running rfl, ?front, rfl, fun q => ?before, fun q => ?ports, fun n => ?lanes, rfl⟩
  case front =>
    have hqueue : ((s.poweredWith p r).initialised.port p).queue = [r] := by rw [hport]; simp
    have hhand : ((s.poweredWith p r).initialised.port p).hand = none := by rw [hport]; rfl
    simp [State.front?, hqueue, hhand]
    rfl
  case before => rw [State.port_powered, hport]; rfl
  case ports => rw [hport]; rfl
  case lanes => exact congrArg Lane.state (State.lane_reset n)

/-! ### Consumer-index writes (R178, R155) -/

theorem exec_consumerIndexWrite (p : PortNo) (v : Nat) (errs : List DramError) (s : State) :
    exec (.consumerIndexWrite p v errs) s = execConsumerIndexWrite p v errs s := rfl

/-- The port unit after a consumer-index write, before the grants it brings. -/
def Port.consumed (q : Port) (v : Nat) : Port :=
  { q with
      watchdog := some q.period
      consumer := match q.ring with | some g => if v < g.size then v else q.consumer | none => q.consumer }

theorem exec_consumerIndexWrite_of_attached (h : s.attached p = true) (v : Nat) (errs : List DramError) :
    exec (.consumerIndexWrite p v errs) s =
      .next ((((s.arise errs).modPort p fun q => q.consumed v).drain p) ((s.port p).consumed v).free) := by
  rw [exec_consumerIndexWrite, execConsumerIndexWrite, State.onEvent, if_pos h]
  change Host.Outcome.next (State.drain _ p (State.port (State.modPort _ p _) p).free) = _
  rw [State.port_modPort]
  rfl

theorem exec_consumerIndexWrite_of_unattached (h : s.attached p = false) (v : Nat) (errs : List DramError) :
    exec (.consumerIndexWrite p v errs) s = .next s := by
  rw [exec_consumerIndexWrite, execConsumerIndexWrite, State.onEvent, if_neg (by simp [h])]

/-- Without a waiting writer nothing is granted. -/
theorem State.drain_of_none_waiting (h : (s.port p).waiting = []) (k : Nat) : s.drain p k = s := by
  cases k with
  | zero => rfl
  | succ k => unfold State.drain; rw [h]

/-- Settles O4: with no writer waiting the write is the change of the port unit alone. -/
theorem consumerIndexWriteMovesIndex : Obligations.ConsumerIndexWriteMovesIndex := by
  unfold Obligations.ConsumerIndexWriteMovesIndex
  intro s p v errs
  refine ⟨fun h => exec_consumerIndexWrite_of_unattached h v errs, fun g ha hg hw => ?_⟩
  have hp : ((s.arise errs).modPort p fun q => q.consumed v).port p = (s.port p).consumed v := State.port_modPort _ _ _
  refine ⟨_, exec_consumerIndexWrite_of_attached ha v errs, ?_⟩
  rw [State.drain_of_none_waiting (by rw [hp]; exact hw)]
  refine ⟨?_, fun q hq => State.port_modPort_ne _ _ _ hq, rfl⟩
  rw [hp]
  simp only [Port.consumed, hg]

/-! ### Commands without effect (R174, R195, R157) -/

theorem exec_commandRemovedUnattached (p : PortNo) (s : State) :
    exec (.commandRemovedUnattached p) s = execCommandRemovedUnattached p s := rfl

theorem exec_linkReset (p : PortNo) (errs : List DramError) (s : State) :
    exec (.linkReset p errs) s = .next ((s.arise errs).linkReset p) := rfl

theorem State.linkReset_unattached (h : s.attached p = false) : s.linkReset p = s.modPort p fun q => { q with queue := [] } := by
  unfold State.linkReset
  rw [if_neg (by simp [h])]

theorem exec_unknownCommandKind (p : PortNo) (s : State) : exec (.unknownCommandKind p) s = execUnknownCommandKind p s := rfl

/-- Settles O6: each event's condition holds, and what it does is its definition. -/
theorem strayCommandsHaveNoEffect : Obligations.StrayCommandsHaveNoEffect := by
  unfold Obligations.StrayCommandsHaveNoEffect
  refine ⟨fun s p r ha => ⟨fun hf hk => ?_, fun errs => ?_⟩, fun s p r h hk => ?_⟩
  · refine ⟨s.popQueue p, ?_, s.port_popQueue p, fun q hq => s.port_popQueue_ne p hq, rfl⟩
    rw [exec_commandRemovedUnattached, execCommandRemovedUnattached, State.onEvent]
    simp [ha, hf, hk]
  · refine ⟨_, exec_linkReset p errs s, ?_⟩
    rw [State.linkReset_unattached (s := s.arise errs) ha]
    exact ⟨State.port_modPort _ _ _, fun q hq => State.port_modPort_ne _ _ _ hq, rfl⟩
  · refine ⟨(s.popQueue p).refuse p r .badParam, ?_, h.refused .badParam⟩
    have hunknown : kindKnown (recKind r) = false := by
      unfold kindKnown
      simp
      omega
    rw [exec_unknownCommandKind, execUnknownCommandKind, h.front]
    simp [h.isAttached, hunknown]

/-! ### ATTACH (R175) -/

theorem exec_attach (p : PortNo) (s : State) : exec (.attach p) s = execAttach p s := rfl

/-- The ring sizes an ATTACH may carry are the powers of two from 256 to 65536. -/
theorem ringSize_iff (n : Nat) :
    n ∈ [256, 512, 1024, 2048, 4096, 8192, 16384, 32768, 65536] ↔ ∃ k, 8 ≤ k ∧ k ≤ 16 ∧ n = 2 ^ k := by
  constructor
  · intro h
    simp only [List.mem_cons, List.not_mem_nil, or_false] at h
    rcases h with rfl | rfl | rfl | rfl | rfl | rfl | rfl | rfl | rfl
    exacts [⟨8, by norm_num⟩, ⟨9, by norm_num⟩, ⟨10, by norm_num⟩, ⟨11, by norm_num⟩, ⟨12, by norm_num⟩, ⟨13, by norm_num⟩,
      ⟨14, by norm_num⟩, ⟨15, by norm_num⟩, ⟨16, by norm_num⟩]
  · rintro ⟨k, h1, h2, rfl⟩
    interval_cases k <;> norm_num

theorem attachParamsOk_iff (r : CommandRecord) :
    attachParamsOk r = true ↔
      numAt r 4 8 % 128 = 0 ∧ (∃ k, 8 ≤ k ∧ k ≤ 16 ∧ numAt r 12 4 = 2 ^ k) ∧ 10 ≤ numAt r 16 4 ∧ numAt r 16 4 ≤ 60000 ∧
        numAt r 20 4 ≤ 67108864 ∧ (watchModeOf? (byteAt r 24)).isSome = true := by
  rw [← ringSize_iff]
  simp only [attachParamsOk, Bool.and_eq_true, decide_eq_true_eq, and_assoc]
  rfl

/-- The attached port unit has a ring of free positions, and nothing waits for it. -/
theorem Port.attach_advanced (q : Port) (h : 256 ≤ numAt r 12 4) :
    (q.attach r).advanced = { q.attach r with producer := 1 } := by
  have hne : ¬ 1 = numAt r 12 4 := by omega
  simp [Port.attach, Port.advanced, hne]

theorem State.canWrite_attach (hw : (s.port p).waiting = []) (hs : 256 ≤ numAt r 12 4) :
    (s.modPort p fun q => q.attach r).canWrite p = true := by
  have hfree : 0 < ((s.port p).attach r).free := by
    simp only [Port.attach, Port.free, Nat.zero_add, Nat.sub_zero, Nat.mod_self]
    omega
  simp only [State.canWrite, State.attached, State.port_modPort, Bool.and_eq_true, decide_eq_true_eq]
  exact ⟨⟨rfl, by simp [Port.attach, hw]⟩, hfree⟩

theorem exec_attach_of_checks (hf : s.front? p = some r) (hk : recKind r = 0x01) (ha : s.attached p = false)
    (hok : attachParamsOk r = true) :
    exec (.attach p) s = .next (((s.popQueue p).modPort p fun q => q.attach r).reply p r .ok
      (((s.popQueue p).modPort p fun q => q.attach r).attachFields p)) := by
  rw [exec_attach, execAttach]
  simp only [hf, hk, ha, hok]
  rfl

theorem exec_attach_of_bad_parameter (hf : s.front? p = some r) (hk : recKind r = 0x01) (ha : s.attached p = false)
    (hok : attachParamsOk r = false) : exec (.attach p) s = .next ((s.popQueue p).refuse p r .badParam) := by
  rw [exec_attach, execAttach]
  simp only [hf, hk, ha, hok]
  rfl

theorem exec_attach_of_attached (h : s.Takes p r 0x01) : exec (.attach p) s = .next ((s.popQueue p).refuse p r .refusedState) := by
  rw [exec_attach, execAttach]
  simp only [h.front, h.kind_eq, h.isAttached]
  rfl

/-- Settles O7: the checks are the conjunction of the ranges; the new ring takes the completion at position 0. -/
theorem attachOpensRingOrIsRefused : Obligations.AttachOpensRingOrIsRefused := by
  unfold Obligations.AttachOpensRingOrIsRefused
  refine ⟨fun s p r m hf hk ha hw h1 h2 h3 h4 h5 h6 => ?opens, fun s p r => ⟨fun h => ?attached, fun hf hk ha hbad => ?bad⟩⟩
  case opens =>
    have hok : attachParamsOk r = true := (attachParamsOk_iff r).mpr ⟨h1, h2, h3, h4, h5, by rw [h6]; rfl⟩
    have hs : 256 ≤ numAt r 12 4 := by
      obtain ⟨k, hk1, -, e⟩ := h2
      rw [e]
      exact (by norm_num : 256 = 2 ^ 8).trans_le (Nat.pow_le_pow_right (by norm_num) hk1)
    have hcan := State.canWrite_attach (s := s.popQueue p) (p := p) (by rw [State.port_popQueue]; exact hw) hs
    have hport := State.port_modPort (s.popQueue p) p fun q => q.attach r
    have w := State.wrote_complete hcan
      ⟨recKind r, recTag r, .ok, ((s.popQueue p).modPort p fun q => q.attach r).attachFields p⟩
    have hfr := ((s.popQueue p).modPort p fun q => q.attach r).reply_frame p r .ok
      (((s.popQueue p).modPort p fun q => q.attach r).attachFields p)
    rw [State.reply, State.complete_discarded hcan] at hfr
    refine ⟨_, exec_attach_of_checks hf hk ha hok, ?_, ?_, fun q hq => ?_, hfr⟩
    · rw [State.reply, w.port, hport, Port.attach_advanced _ hs, State.port_popQueue]
      simp [Port.attach, h6]
    · have hrec := w.record
      rw [hport] at hrec
      have hfields : ((s.popQueue p).modPort p fun q => q.attach r).attachFields p =
          [.num 1 p.val, .num 1 s.device.code, .num 4 s.epoch, .num 8 ((s.port p).failSafeTime.getD 0)] := by
        unfold State.attachFields
        rw [State.port_modPort, State.port_popQueue]
        rfl
      rw [hfields, hk] at hrec
      rw [State.reply, hfields, hk]
      exact hrec
    · have ho := w.otherPorts q hq
      rw [State.port_modPort_ne _ _ _ hq, State.port_popQueue_ne _ _ hq] at ho
      exact ho
  case attached => exact ⟨_, exec_attach_of_attached h, h.refused .refusedState⟩
  case bad =>
    have hok : attachParamsOk r = false := by
      rw [Bool.eq_false_iff, Ne, attachParamsOk_iff]
      rintro ⟨k1, ⟨k, hk1, hk2, k2⟩, k3, k4, k5, k6⟩
      rcases hbad with h | h | h | h | h | h
      · exact h k1
      · exact h k hk1 hk2 k2
      · omega
      · omega
      · omega
      · rw [h] at k6; cases k6
    refine ⟨_, exec_attach_of_bad_parameter hf hk ha hok, ?_⟩
    rw [State.refuse, State.reply, State.complete_unattached (by rw [State.attached_popQueue]; exact ha)]
    refine ⟨?_, fun q hq => ?_, rfl⟩
    · rw [State.port_discard, State.port_modPort, State.port_popQueue]
    · rw [State.port_discard, State.port_modPort_ne _ _ _ hq, State.port_popQueue_ne _ _ hq]

/-! ### DEVICE_STATUS (R185) -/

theorem exec_deviceStatus (p : PortNo) (s : State) : exec (.deviceStatus p) s = execDeviceStatus p s := rfl

theorem State.onCommand_of_front (hf : s.front? p = some r) (ha : s.attached p = true) {kind : Nat} (hk : recKind r = kind)
    (body : CommandRecord → State → State) : s.onCommand p kind body = .next (body r (s.popQueue p)) := by
  unfold State.onCommand
  simp [hf, ha, hk]

/-- A container is OPEN or it is not. -/
theorem length_filter_not_isOpen (cs : List Container) :
    cs.length - (cs.filter Container.isOpen).length = (cs.filter fun c => !c.isOpen).length := by
  have h := List.length_eq_length_filter_add (l := cs) Container.isOpen
  omega

theorem State.port_state_popQueue (q : PortNo) : ((s.popQueue p).port q).state = (s.port q).state := by
  by_cases hq : q = p
  · subst hq; rw [State.port_popQueue]
  · rw [State.port_popQueue_ne _ _ hq]

theorem State.statusFields_popQueue : (s.popQueue p).statusFields =
    [.num 1 s.device.code, .num 4 s.epoch, .num 1 (bit s.advancePending), .num 4 s.occupancy, .num 4 s.poisonCount,
      .num 2 s.table.length, .num 2 (s.table.filter Container.isOpen).length,
      .num 2 (s.table.filter fun c => !c.isOpen).length, .num 2 (s.lanesIn .free), .num 2 (s.lanesIn .active),
      .num 2 (s.lanesIn .checkpointing), .num 2 (s.lanesIn .closing), .num 2 (s.lanesIn .aborting),
      .num 2 (s.lanesIn .orphaned), .num 1 s.scanner.state.code, .num 4 s.scanner.cursor, .num 4 s.discarded,
      .num 4 s.correctable, .num 4 s.collisions, .num 8 s.counter] ++ s.proposalFields ++
    [.num 1 (s.port 0).state.code, .num 1 (s.port 1).state.code, .num 1 (s.port 2).state.code, .num 1 (s.port 3).state.code] := by
  have hports : (allPorts.map fun q => Field.num 1 ((s.popQueue p).port q).state.code) =
      [.num 1 (s.port 0).state.code, .num 1 (s.port 1).state.code, .num 1 (s.port 2).state.code,
        .num 1 (s.port 3).state.code] := by
    simp only [State.port_state_popQueue]
    rfl
  rw [State.statusFields, hports, ← length_filter_not_isOpen]
  rfl

/-- Settles O10: the completion is written, or stands in hand, which leaves the port no command to take. -/
theorem deviceStatusReads : Obligations.DeviceStatusReads := by
  unfold Obligations.DeviceStatusReads
  intro s p r fields hf hk ha hfields
  have hfs : (s.popQueue p).statusFields = fields := by rw [hfields, State.statusFields_popQueue]; rfl
  have hexec : exec (.deviceStatus p) s = .next ((s.popQueue p).reply p r .ok fields) := by
    rw [exec_deviceStatus, execDeviceStatus, State.onCommand_of_front hf ha hk, hfs]
  refine ⟨fun hw => ?written, fun hw => ?held⟩
  case written => exact ⟨_, hexec, State.Takes.answers ⟨hf, hk, hw⟩ (s.popQueue p) rfl rfl .ok fields⟩
  case held =>
    refine ⟨_, hexec, ?_⟩
    have hport : (((s.popQueue p).modPort p fun q => { q with hand := some (.completion
          { kind := recKind r, tag := recTag r, outcome := .ok, fields := fields } false) }).join p .command).port p =
        { s.port p with
          queue := (s.port p).queue.drop 1
          hand := some (.completion { kind := 0x1B, tag := recTag r, outcome := .ok, fields := fields } false)
          waiting := joinSet (s.port p).waiting .command } := by
      rw [State.port_join, State.port_modPort, State.port_popQueue, hk]
    rw [State.reply, State.complete_held (by rw [State.attached_popQueue]; exact ha) (by rw [State.canWrite_popQueue]; exact hw)]
    refine ⟨hport, ?_, fun q hq => ?_, rfl⟩
    · rw [State.front?, hport]
      simp
    · rw [State.port_join_ne _ hq, State.port_modPort_ne _ _ _ hq, State.port_popQueue_ne _ _ hq]

/-! ### Flags (R182, R183) -/

/-- The flags, in the order of their marks. -/
def allFlags : List Flag :=
  [.occupancy, .journalHigh, .settleExpired, .peerFailsafe, .laneOrphaned, .orphanExpired, .poison, .passthrough, .consentOpen,
    .consentEnded, .epochAdvanced, .sweepEnded, .containersExhausted, .queueOverrun, .deviceReset]

/-- Each mark is one flag's. -/
theorem Flag.exists_place : ∀ i : Fin 15, ∃ f ∈ allFlags, f.place = i := by decide

theorem Flag.place_injective {f g : Flag} (h : f.place = g.place) : f = g := by
  have hall : ∀ f ∈ allFlags, ∀ g ∈ allFlags, f.place = g.place → f = g := by decide
  have hmem : ∀ f : Flag, f ∈ allFlags := fun f => by cases f <;> decide
  exact hall f (hmem f) g (hmem g) h

/-- The marks of a summary with a flag raised (R182). -/
theorem Summary.marks_eq_raise {m made : Summary} {f : Flag}
    (h : ∀ x, made.mark x = if x = f then (if m.mark f = .clear then .set else .again) else m.mark x) :
    made.marks = (m.raise f).marks := by
  ext i hi
  obtain ⟨x, -, hx⟩ := Flag.exists_place ⟨i, hi⟩
  have hxi : x.place.val = i := congrArg Fin.val hx
  have hm := h x
  simp only [Summary.mark, Fin.getElem_fin, hxi] at hm
  rw [hm]
  by_cases hxf : x = f
  · subst hxf
    simp only [Summary.raise, Fin.getElem_fin, hxi, if_true, Vector.getElem_set_self]
    cases m.marks[i] <;> rfl
  · have hne : f.place.val ≠ i := fun e => hxf (Flag.place_injective (hx.trans (Fin.ext e.symm)))
    simp only [Summary.raise, hxf, if_false, Vector.getElem_set_ne _ _ hne]

/-- The summary with a flag raised, field by field. -/
theorem Summary.eq_raise_carry (m : Summary) (f : Flag) (c : Carry) : ∀ made : Summary,
    (∀ x, made.mark x = if x = f then (if m.mark f = .clear then .set else .again) else m.mark x) →
    made.peers = (match f, c with | .peerFailsafe, .port q => joinSet m.peers q | _, _ => m.peers) →
    made.journalLanes = (match f, c with | .journalHigh, .lanes ns => ns.foldl joinSet m.journalLanes | _, _ => m.journalLanes) →
    made.orphanedLanes = (match f, c with | .laneOrphaned, .lanes ns => ns.foldl joinSet m.orphanedLanes | _, _ => m.orphanedLanes) →
    made.expiredLanes = (match f, c with | .orphanExpired, .lanes ns => ns.foldl joinSet m.expiredLanes | _, _ => m.expiredLanes) →
    made.ending = (match f, c with | .consentEnded, .ending e => some e | _, _ => m.ending) →
    made = (m.raise f).carry f c := by
  intro made hmarks hpeers hjournal horphaned hexpired hending
  have hm := Summary.marks_eq_raise hmarks
  clear hmarks
  obtain ⟨marks, peers, journalLanes, orphanedLanes, expiredLanes, ending⟩ := made
  subst hm hpeers hjournal horphaned hexpired hending
  cases f <;> cases c <;> rfl

/-- Settles O11: the three outcomes of a flag set at an ATTACHED port, and none at another. -/
theorem flagInEmptySummaryMakesAttention : Obligations.FlagInEmptySummaryMakesAttention := by
  unfold Obligations.FlagInEmptySummaryMakesAttention
  refine ⟨fun s p f c made hmarks hpeers hjournal horphaned hexpired hending => ?_, fun s p r h => exec_commandWrite_of_full h⟩
  have hmade := Summary.eq_raise_carry _ f c made hmarks hpeers hjournal horphaned hexpired hending
  have hraise : (s.raiseAt p f c).port p = { s.port p with summary := made } := by rw [State.port_raiseAt, hmade]
  have hset : s.raiseAt p f c = s.setPort p { s.port p with summary := made } := by rw [hmade]; rfl
  refine ⟨fun ha he hn hw => ?written, fun ha he hn hw hnot => ?held, fun ha hloud => ?loud, fun ha => State.setFlag_unattached f c ha⟩
  case written =>
    rcases State.setFlag_cases f c ha with ⟨hor, -⟩ | ⟨-, -, -, e⟩ | ⟨-, -, hno, -⟩
    · simp [he, hn] at hor
    · refine ⟨?_, s.setFlag_frame p f c⟩
      obtain ⟨g, hg⟩ := State.canWrite_ring hw
      have w := (s.raiseAt p f c).wrote_ringPut p (.attention made) (by rw [hraise]; simp [hg])
      rw [e, hraise]
      refine ⟨?_, ?_, fun q hq => ?_, fun g' a hg' hne => ?_⟩
      · have := w.record; rw [hraise] at this; exact this
      · rw [w.port, hraise]
        unfold Port.advanced
        simp [hg]
      · have := w.otherPorts q hq; rw [State.port_raiseAt_ne f c hq] at this; exact this
      · have := w.ring g' a (by rw [hraise]; exact hg') (by rw [hraise]; exact hne)
        exact this
    · simp [hw] at hno
  case held =>
    rcases State.setFlag_cases f c ha with ⟨hor, -⟩ | ⟨-, -, hyes, -⟩ | ⟨-, -, -, e⟩
    · simp [he, hn] at hor
    · simp [hw] at hyes
    · rw [e, hset]
      have hj : joinSet (s.port p).waiting .attention = (s.port p).waiting ++ [.attention] := if_neg hnot
      simp only [State.holdAttention, State.join, State.modPort, State.port_setPort, hj]
      simp [State.setPort]
  case loud =>
    rcases State.setFlag_cases f c ha with ⟨-, e⟩ | ⟨he, hn, -⟩ | ⟨he, hn, -⟩
    · rw [e, hset]
    · simp [he, hn] at hloud
    · simp [he, hn] at hloud

end Sys2Proof.Machine

/-! PROOFS. The lane commands: the checks of OPEN_LANE, FEED, MARK, SET_LANE_WEIGHT, LANE_STATUS, ABORT_LANE, ADOPT_LANE and
READ_JOURNAL, and what those that only read or stage do (O12, O13, O14, O15, O16, O19). -/

namespace Sys2Proof.Machine

open Sys2Proof

/-! ### Checks and operands -/

@[simp] theorem firstFailing_nil : firstFailing [] = none := rfl

@[simp] theorem firstFailing_passes (o : Outcome) (rest : List (Bool × Outcome)) :
    firstFailing ((true, o) :: rest) = firstFailing rest := rfl

@[simp] theorem firstFailing_fails (o : Outcome) (rest : List (Bool × Outcome)) :
    firstFailing ((false, o) :: rest) = some o := rfl

theorem laneOf?_eq_none {n : Nat} (h : 64 ≤ n) : laneOf? n = none := dif_neg (by omega)

@[simp] theorem laneOf?_val (n : LaneNo) : laneOf? n.val = some n := dif_pos n.isLt

theorem slotOf?_eq_none {n : Nat} (h : 4 ≤ n) : slotOf? n = none := dif_neg (by omega)

@[simp] theorem slotOf?_val (i : Fin 4) : slotOf? i.val = some i := dif_pos i.isLt

theorem slotOf?_eq_some {n : Nat} {i : Fin 4} (h : slotOf? n = some i) : n = i.val := by
  unfold slotOf? at h
  split at h
  · simp only [Option.some.injEq] at h; rw [← h]
  · cases h

theorem cutSourceOf?_eq_none_iff {k : Nat} : cutSourceOf? k = none ↔ 2 < k :=
  match k with
  | 0 | 1 | 2 => by simp [cutSourceOf?]
  | k + 3 => by simp [cutSourceOf?]

theorem failActionOf?_eq_none_iff {k : Nat} : failActionOf? k = none ↔ 1 < k :=
  match k with
  | 0 | 1 => by simp [failActionOf?]
  | k + 2 => by simp [failActionOf?]

theorem coalescingOf?_eq_none_iff {k : Nat} : coalescingOf? k = none ↔ 1 < k :=
  match k with
  | 0 | 1 => by simp [coalescingOf?]
  | k + 2 => by simp [coalescingOf?]

theorem markItem?_eq_none {k : Nat} (h : 4 ≤ k) (v : Nat) : markItem? k v = none :=
  match k, h with
  | _ + 4, _ => rfl

theorem markItem?_of_le {k : Nat} (h : k ≤ 3) (v : Nat) : ∃ i, markItem? k v = some i :=
  match k, h with
  | 0, _ | 1, _ | 2, _ | 3, _ => ⟨_, rfl⟩

theorem ProfileSlot.isActive_eq_true_iff {x : ProfileSlot} : x.isActive = true ↔ ∃ prof roll uses, x = .active prof roll uses := by
  cases x <;> simp [ProfileSlot.isActive]

section Commands

variable {s : State} {p : PortNo} {r : CommandRecord}

/-! ### What taking a command leaves -/

@[simp] theorem State.isOrphaned_popQueue (n : LaneNo) : (s.popQueue p).isOrphaned n = s.isOrphaned n := rfl

@[simp] theorem State.failSafeTime_popQueue (q : PortNo) : ((s.popQueue p).port q).failSafeTime = (s.port q).failSafeTime := by
  by_cases h : q = p
  · subst h; rw [State.port_popQueue]
  · rw [State.port_popQueue_ne _ _ h]

@[simp] theorem State.quietPassed_popQueue (n : LaneNo) : (s.popQueue p).quietPassed n = s.quietPassed n := by
  unfold State.quietPassed
  simp only [State.lane_popQueue, State.failSafeTime_popQueue]
  rfl

theorem State.quietPassed_iff (n : LaneNo) : s.quietPassed n = true ↔ s.QuietPassed n := by
  unfold State.quietPassed State.QuietPassed
  cases (s.lane n).former with
  | none => simp
  | some q => cases h : (s.port q).failSafeTime <;> simp [h]

/-- The QuietPassed of a statement fails exactly when the part's own test does. -/
theorem State.quietPassed_eq_false {n : LaneNo} (h : ¬s.QuietPassed n) : s.quietPassed n = false := by
  rwa [← State.quietPassed_iff, Bool.not_eq_true] at h

/-- A command that changes one lane's record alone: its reply answers it. -/
theorem State.Takes.answers_lane {kind : Nat} (h : s.Takes p r kind) (n : LaneNo) (l : Lane) (o : Outcome) (fs : List Field)
    {t : State} (ht : ((s.popQueue p).setLane n l).reply p r o fs = t) :
    s.Answered t p r o fs ∧ s.LaneBecomes t n l ∧ t = { s with ports := t.ports, memory := t.memory, lanes := t.lanes } := by
  subst ht
  obtain ⟨hanswered, hframe⟩ := h.answers ((s.popQueue p).setLane n l) rfl rfl o fs
  refine ⟨hanswered, ⟨by simp, fun m hm => ?_⟩, by rw [hframe]; rfl⟩
  rw [State.lane_reply, State.lane_setLane_ne _ _ _ hm]
  rfl

/-! ### OPEN_LANE (R50, R51) -/

theorem exec_openLane (p : PortNo) (s : State) : exec (.openLane p) s = execOpenLane p s := rfl

theorem exec_openLane_of_rebuild (h : s.Takes p r 0x03) (hd : s.device = .rebuild) :
    exec (.openLane p) s = .next ((s.popQueue p).refuse p r .refusedState) := by
  rw [exec_openLane, execOpenLane, State.onCommand_takes h, if_pos (by exact hd)]

theorem exec_openLane_of_bad_settings (h : s.Takes p r 0x03) (hd : s.device ≠ .rebuild) (hg : laneSettings? r = none) :
    exec (.openLane p) s = .next ((s.popQueue p).refuse p r .badParam) := by
  rw [exec_openLane, execOpenLane, State.onCommand_takes h, if_neg (by exact hd), hg]

theorem exec_openLane_of_inactive_slot (h : s.Takes p r 0x03) (hd : s.device ≠ .rebuild) {g : LaneSettings}
    (hg : laneSettings? r = some g) (hs : s.slots[g.slot].isActive = false) :
    exec (.openLane p) s = .next ((s.popQueue p).refuse p r .badParam) := by
  rw [exec_openLane, execOpenLane, State.onCommand_takes h, if_neg (by exact hd), hg]
  exact congrArg Host.Outcome.next (if_pos hs)

theorem exec_openLane_of_no_lane (h : s.Takes p r 0x03) (hd : s.device ≠ .rebuild) {g : LaneSettings}
    (hg : laneSettings? r = some g) (hs : s.slots[g.slot].isActive = true) (hn : s.freeLane? = none) :
    exec (.openLane p) s = .next ((s.popQueue p).refuse p r .full) := by
  have hslot : (s.popQueue p).slots[g.slot].isActive ≠ false := by simpa using hs
  have hlane : (s.popQueue p).freeLane? = none := hn
  rw [exec_openLane, execOpenLane, State.onCommand_takes h, if_neg (by exact hd), hg]
  dsimp only
  rw [if_neg hslot, hlane]

theorem exec_openLane_of_lane (h : s.Takes p r 0x03) (hd : s.device ≠ .rebuild) {g : LaneSettings}
    (hg : laneSettings? r = some g) (hs : s.slots[g.slot].isActive = true) {n : LaneNo} (hn : s.freeLane? = some n) :
    exec (.openLane p) s = .next (((s.popQueue p).openLane n p g).reply p r .ok [.num 1 n.val]) := by
  have hslot : (s.popQueue p).slots[g.slot].isActive ≠ false := by simpa using hs
  have hlane : (s.popQueue p).freeLane? = some n := hn
  rw [exec_openLane, execOpenLane, State.onCommand_takes h, if_neg (by exact hd), hg]
  dsimp only
  rw [if_neg hslot, hlane]

theorem laneSettings?_of_fields {i : Fin 4} {src : CutSource} {act : FailAction} {coal : Coalescing} (hi : byteAt r 4 = i.val)
    (hsrc : cutSourceOf? (byteAt r 5) = some src) (hact : failActionOf? (byteAt r 6) = some act) (hlow : 1 ≤ byteAt r 7)
    (hhigh : byteAt r 7 ≤ 15) (hcoal : coalescingOf? (byteAt r 8) = some coal) :
    laneSettings? r = some
      { slot := i, cutSource := src, action := act, weight := byteAt r 7, coalescing := coal, label := numAt r 16 8 } := by
  simp [laneSettings?, hi, hsrc, hact, hcoal, hlow, hhigh]

/-- Settings that are read lie in the ranges of R50, and name the slot of byte 4. -/
theorem laneSettings?_ranges {g : LaneSettings} (h : laneSettings? r = some g) :
    byteAt r 4 = g.slot.val ∧ byteAt r 5 ≤ 2 ∧ byteAt r 6 ≤ 1 ∧ 1 ≤ byteAt r 7 ∧ byteAt r 7 ≤ 15 ∧ byteAt r 8 ≤ 1 := by
  unfold laneSettings? at h
  split at h
  · next hslot hsrc hact hcoal =>
    have hsrc' : ¬2 < byteAt r 5 := fun h => by rw [cutSourceOf?_eq_none_iff.mpr h] at hsrc; cases hsrc
    have hact' : ¬1 < byteAt r 6 := fun h => by rw [failActionOf?_eq_none_iff.mpr h] at hact; cases hact
    have hcoal' : ¬1 < byteAt r 8 := fun h => by rw [coalescingOf?_eq_none_iff.mpr h] at hcoal; cases hcoal
    split at h
    · next hw =>
      cases h
      exact ⟨slotOf?_eq_some hslot, by omega, by omega, hw.1, hw.2, by omega⟩
    · cases h
  · cases h

theorem State.freeLane?_eq_none (h : ∀ m, (s.lane m).state ≠ .free) : s.freeLane? = none :=
  List.find?_finRange_none fun m => by simpa using h m

theorem State.freeLane?_lowest {n : LaneNo} (h : (s.lane n).state = .free) (hl : ∀ m, m < n → (s.lane m).state ≠ .free) :
    s.freeLane? = some n :=
  List.find?_finRange (by simpa using h) fun m hm => by simpa using hl m hm

/-- Settles O12: the settings are read as the record carries them, and the search finds the lowest-numbered FREE lane. -/
theorem openLaneTakesLowestFreeLane : Obligations.OpenLaneTakesLowestFreeLane := by
  unfold Obligations.OpenLaneTakesLowestFreeLane
  intro s p r n i src act coal prof roll uses h hd hi hsrc hact hlow hhigh hcoal hslot hfree hlower
  have hg := laneSettings?_of_fields hi hsrc hact hlow hhigh hcoal
  have hactive : s.slots[i].isActive = true := by rw [hslot]; rfl
  refine ⟨_, exec_openLane_of_lane h hd hg hactive (State.freeLane?_lowest hfree hlower), ?_⟩
  generalize hgs : LaneSettings.mk _ _ _ _ _ _ = g
  obtain ⟨hanswered, hframe⟩ := h.answers ((s.popQueue p).openLane n p g) rfl rfl .ok [.num 1 n.val]
  refine ⟨hanswered, ⟨?lane, fun m hm => ?others⟩, ?frame⟩
  case lane =>
    rw [State.lane_reply]
    have : ((s.popQueue p).openLane n p g).lane n = openedLane p g := State.lane_setLane (s.popQueue p) n (openedLane p g)
    rw [this, ← hgs]
    rfl
  case others =>
    rw [State.lane_reply]
    exact State.lane_setLane_ne (s.popQueue p) n (openedLane p g) hm
  case frame =>
    have hslots : ((s.popQueue p).openLane n p g).slots = s.slots.set i (.active prof roll (uses + 1)) := by
      have : s.slots[g.slot] = .active prof roll uses := by rw [← hgs]; exact hslot
      change s.slots.set g.slot s.slots[g.slot].takeUse = _
      rw [this, ← hgs]
      rfl
    rw [hframe, hslots]
    rfl

/-! ### FEED and MARK (R52) -/

theorem exec_feed (p : PortNo) (s : State) : exec (.feed p) s = execFeed p s := rfl

theorem exec_mark (p : PortNo) (s : State) : exec (.mark p) s = execMark p s := rfl

theorem exec_feed_of_bad_lane (h : s.Takes p r 0x04) (hn : 64 ≤ recLane r) :
    exec (.feed p) s = .next ((s.popQueue p).refuse p r .badParam) := by
  rw [exec_feed, execFeed, State.onCommand_takes h, laneOf?_eq_none hn]

theorem exec_feed_of_bad_length (h : s.Takes p r 0x04) (hlen : ¬(1 ≤ numAt r 16 4 ∧ numAt r 16 4 ≤ 16777216)) :
    exec (.feed p) s = .next ((s.popQueue p).refuse p r .badParam) := by
  rw [exec_feed, execFeed, State.onCommand_takes h]
  cases laneOf? (recLane r) with
  | none => rfl
  | some n => exact congrArg Host.Outcome.next (if_neg hlen)

theorem exec_mark_of_bad_param (h : s.Takes p r 0x05) (hbad : 64 ≤ recLane r ∨ 4 ≤ byteAt r 5) :
    exec (.mark p) s = .next ((s.popQueue p).refuse p r .badParam) := by
  rw [exec_mark, execMark, State.onCommand_takes h]
  rcases hbad with hn | hk
  · rw [laneOf?_eq_none hn]
  · rw [markItem?_eq_none hk]
    cases laneOf? (recLane r) <;> rfl

/-- `c` is a FEED or a MARK whose parameters pass, and `i` is the item it appends. -/
def Appends (s : State) (p : PortNo) (r : CommandRecord) (c : Instr) (i : Item) : Prop :=
  c = .feed p ∧ s.Takes p r 0x04 ∧ 1 ≤ numAt r 16 4 ∧ numAt r 16 4 ≤ 16777216 ∧ i = .data (numAt r 8 8) (numAt r 16 4) 0 ∨
    c = .mark p ∧ s.Takes p r 0x05 ∧ markItem? (byteAt r 5) (numAt r 8 4) = some i

theorem Appends.takes {c : Instr} {i : Item} (h : Appends s p r c i) : ∃ kind, s.Takes p r kind := by
  rcases h with ⟨-, h, -⟩ | ⟨-, h, -⟩
  · exact ⟨_, h⟩
  · exact ⟨_, h⟩

theorem Appends.exec {c : Instr} {i : Item} {n : LaneNo} (h : Appends s p r c i) (hn : recLane r = n.val) :
    exec c s = .next ((s.popQueue p).appendItem p r n i) := by
  rcases h with ⟨rfl, h, hlow, hhigh, rfl⟩ | ⟨rfl, h, hi⟩
  · rw [exec_feed, execFeed, State.onCommand_takes h, hn, laneOf?_val]
    exact congrArg Host.Outcome.next (if_pos ⟨hlow, hhigh⟩)
  · rw [exec_mark, execMark, State.onCommand_takes h, hn, laneOf?_val, hi]

/-- The first check of R52 that fails for an item at a lane that does not take it. -/
theorem State.itemChecks_fail {n : LaneNo}
    (h : ¬((s.lane n).owner = some p ∧ ((s.lane n).state = .active ∨ (s.lane n).state = .checkpointing) ∧
      Item.finish ∉ (s.lane n).items ∧ (s.lane n).items.length < 32)) :
    firstFailing (s.itemChecks p n [.active, .checkpointing] ++ (s.lane n).queueChecks) = some
      (if (s.lane n).state = .free then .refusedState
       else if (s.lane n).owner ≠ some p then .notOwner
       else if (s.lane n).state ≠ .active ∧ (s.lane n).state ≠ .checkpointing then .refusedState
       else if Item.finish ∈ (s.lane n).items then .refusedState
       else .full) := by
  simp only [State.itemChecks, Lane.queueChecks, List.cons_append, List.nil_append, Config.itemSlots, List.mem_cons,
    List.not_mem_nil, or_false]
  by_cases hfree : (s.lane n).state = .free
  · simp [hfree]
  by_cases hown : (s.lane n).owner = some p
  · by_cases hst : (s.lane n).state = .active ∨ (s.lane n).state = .checkpointing
    · by_cases hend : Item.finish ∈ (s.lane n).items
      · simp [hfree, hown, hst, hend, ← not_or]
      · have hlen : ¬(s.lane n).items.length < 32 := fun hlen => h ⟨hown, hst, hend, hlen⟩
        simp [hfree, hown, hst, hend, hlen, ← not_or]
    · simp [hfree, hown, hst, ← not_or]
  · simp [hfree, hown]

theorem State.itemChecks_pass {n : LaneNo} (hown : (s.lane n).owner = some p)
    (hst : (s.lane n).state = .active ∨ (s.lane n).state = .checkpointing) (hend : Item.finish ∉ (s.lane n).items)
    (hlen : (s.lane n).items.length < 32) :
    firstFailing (s.itemChecks p n [.active, .checkpointing] ++ (s.lane n).queueChecks) = none := by
  have hfree : (s.lane n).state ≠ .free := by rcases hst with h | h <;> simp [h]
  simp [State.itemChecks, Lane.queueChecks, Config.itemSlots, hfree, hown, hst, hend, hlen]

theorem State.appendItem_of_failing {n : LaneNo} {i : Item} {o : Outcome}
    (hc : firstFailing (s.itemChecks p n [.active, .checkpointing] ++ (s.lane n).queueChecks) = some o) :
    s.appendItem p r n i = s.refuse p r o := by
  unfold State.appendItem
  rw [hc]

/-- Settles O14: the checks of R52 pass, and the item is appended to the lane's record. -/
theorem itemsJoinTheLaneQueue : Obligations.ItemsJoinTheLaneQueue := by
  unfold Obligations.ItemsJoinTheLaneQueue
  intro s p r n c i hc hn hown hst hend hlen
  have happ : Appends s p r c i := hc.imp id fun ⟨h1, h2, hk⟩ => ⟨h1, h2, by
    rcases hk with ⟨hb, rfl⟩ | ⟨hb, rfl⟩ | ⟨hb, rfl⟩ | ⟨hb, rfl⟩ <;> rw [hb] <;> rfl⟩
  obtain ⟨kind, htakes⟩ := happ.takes
  have hnone := State.itemChecks_pass (s := s.popQueue p) hown hst hend hlen
  have happend : (s.popQueue p).appendItem p r n i =
      ((s.popQueue p).setLane n ((s.lane n).append i)).reply p r .ok [.num 2 ((s.lane n).items.length + 1)] := by
    unfold State.appendItem
    rw [hnone]
    dsimp only
    rw [State.lane_modLane]
    simp only [Lane.append, List.length_append, List.length_singleton]
    rfl
  exact ⟨_, happ.exec hn, htakes.answers_lane n ((s.lane n).append i) .ok _ happend.symm⟩

/-! ### SET_LANE_WEIGHT (R58) -/

theorem exec_setLaneWeight (p : PortNo) (s : State) : exec (.setLaneWeight p) s = execSetLaneWeight p s := rfl

theorem exec_setLaneWeight_of_bad_param (h : s.Takes p r 0x06) (hbad : 64 ≤ recLane r ∨ byteAt r 5 < 1 ∨ 15 < byteAt r 5) :
    exec (.setLaneWeight p) s = .next ((s.popQueue p).refuse p r .badParam) := by
  rw [exec_setLaneWeight, execSetLaneWeight, State.onCommand_takes h]
  rcases hbad with hn | hw
  · rw [laneOf?_eq_none hn]
  · cases laneOf? (recLane r) with
    | none => rfl
    | some n => exact congrArg Host.Outcome.next (if_neg (by omega))

theorem exec_setLaneWeight_of_failing (h : s.Takes p r 0x06) {n : LaneNo} (hn : recLane r = n.val)
    (hw : 1 ≤ byteAt r 5 ∧ byteAt r 5 ≤ 15) {o : Outcome}
    (hc : firstFailing (s.itemChecks p n [.active, .checkpointing, .closing]) = some o) :
    exec (.setLaneWeight p) s = .next ((s.popQueue p).refuse p r o) := by
  have hc' : firstFailing ((s.popQueue p).itemChecks p n [.active, .checkpointing, .closing]) = some o := hc
  rw [exec_setLaneWeight, execSetLaneWeight, State.onCommand_takes h, hn, laneOf?_val]
  dsimp only
  rw [if_pos hw, hc']

theorem exec_setLaneWeight_of_passing (h : s.Takes p r 0x06) {n : LaneNo} (hn : recLane r = n.val)
    (hw : 1 ≤ byteAt r 5 ∧ byteAt r 5 ≤ 15)
    (hc : firstFailing (s.itemChecks p n [.active, .checkpointing, .closing]) = none) :
    exec (.setLaneWeight p) s =
      .next (((s.popQueue p).setLane n { s.lane n with staged := some (byteAt r 5) }).reply p r .ok []) := by
  have hc' : firstFailing ((s.popQueue p).itemChecks p n [.active, .checkpointing, .closing]) = none := hc
  rw [exec_setLaneWeight, execSetLaneWeight, State.onCommand_takes h, hn, laneOf?_val]
  dsimp only
  rw [if_pos hw, hc']
  rfl

theorem LaneState.serves_iff {st : LaneState} : st.serves = true ↔ st ∈ [LaneState.active, .checkpointing, .closing] := by
  cases st <;> simp [LaneState.serves]

/-- Settles O15: the parameters, then the three checks that FEED has too. -/
theorem setLaneWeightStagesWeight : Obligations.SetLaneWeightStagesWeight := by
  unfold Obligations.SetLaneWeightStagesWeight
  intro s p r h
  refine ⟨fun hbad => ⟨_, exec_setLaneWeight_of_bad_param h hbad, h.refused _⟩, fun n hn hlow hhigh => ⟨?staged, ?refused⟩⟩
  case staged =>
    intro hown hserves
    have hfree : (s.lane n).state ≠ .free := fun hf => by simp [hf, LaneState.serves] at hserves
    have hnone : firstFailing (s.itemChecks p n [.active, .checkpointing, .closing]) = none := by
      rw [LaneState.serves_iff] at hserves
      simp only [State.itemChecks, hfree, hown, hserves, decide_true, ne_eq, not_false_eq_true, firstFailing_passes,
        firstFailing_nil]
    exact ⟨_, exec_setLaneWeight_of_passing h hn ⟨hlow, hhigh⟩ hnone, h.answers_lane n _ .ok [] rfl⟩
  case refused =>
    intro hnot
    have hfails : firstFailing (s.itemChecks p n [.active, .checkpointing, .closing]) = some
        (if (s.lane n).state = .free then .refusedState else if (s.lane n).owner ≠ some p then .notOwner else .refusedState) := by
      unfold State.itemChecks
      dsimp only
      by_cases hfree : (s.lane n).state = .free
      · simp [hfree]
      by_cases hown : (s.lane n).owner = some p
      · have hst : (s.lane n).state ∉ [LaneState.active, .checkpointing, .closing] := fun hm =>
          hnot ⟨hown, LaneState.serves_iff.mpr hm⟩
        simp only [hfree, hown, hst, decide_true, decide_false, ne_eq, not_false_eq_true, not_true, firstFailing_passes,
          firstFailing_fails, if_false]
      · simp [hfree, hown]
    exact ⟨_, exec_setLaneWeight_of_failing h hn ⟨hlow, hhigh⟩ hfails, h.refused _⟩

/-! ### LANE_STATUS (R59) -/

theorem exec_laneStatus (p : PortNo) (s : State) : exec (.laneStatus p) s = execLaneStatus p s := rfl

theorem exec_laneStatus_of_bad_lane (h : s.Takes p r 0x07) (hn : 64 ≤ recLane r) :
    exec (.laneStatus p) s = .next ((s.popQueue p).refuse p r .badParam) := by
  rw [exec_laneStatus, execLaneStatus, State.onCommand_takes h, laneOf?_eq_none hn]

theorem exec_laneStatus_of_lane (h : s.Takes p r 0x07) {n : LaneNo} (hn : recLane r = n.val) :
    exec (.laneStatus p) s = .next ((s.popQueue p).reply p r .ok ((s.lane n).snapshot n)) := by
  rw [exec_laneStatus, execLaneStatus, State.onCommand_takes h, hn, laneOf?_val]
  rfl

theorem Lane.snapshot_free {l : Lane} (h : l.state = .free) (n : LaneNo) :
    ∃ fs, l.snapshot n = .num 1 n.val :: .num 1 0 :: fs ∧ ∀ f ∈ fs, ∃ w, f = .num w 0 ∨ f = .num 1 0xFF := by
  unfold Lane.snapshot
  rw [if_pos h, h]
  refine ⟨_, rfl, ?_⟩
  simp [byteOr]

/-- Settles O16: the record of a lane that is not FREE is its fields, and that of a FREE lane its number, its state and absent
fields. -/
theorem laneStatusReads : Obligations.LaneStatusReads := by
  unfold Obligations.LaneStatusReads
  intro s p r h
  have answers (fs : List Field) := h.answers (s.popQueue p) rfl rfl .ok fs
  refine ⟨fun hn => ⟨_, exec_laneStatus_of_bad_lane h hn, h.refused _⟩, fun n l hn hl hfree => ?record, fun n hn hfree => ?free⟩
  case record =>
    have hsnap : l.snapshot n = _ := if_neg hfree
    obtain ⟨hanswered, hframe⟩ := answers (l.snapshot n)
    subst hl
    exact ⟨_, exec_laneStatus_of_lane h hn, hframe, hsnap ▸ hanswered⟩
  case free =>
    obtain ⟨fs, hsnap, habsent⟩ := Lane.snapshot_free hfree n
    obtain ⟨hanswered, hframe⟩ := answers ((s.lane n).snapshot n)
    refine ⟨_, fs, exec_laneStatus_of_lane h hn, hframe, ?_, habsent⟩
    rw [← hsnap]
    exact hanswered

/-! ### ABORT_LANE, ADOPT_LANE and READ_JOURNAL: their checks (R108, R166, R115) -/

theorem exec_abortLane (p : PortNo) (s : State) : exec (.abortLane p) s = execAbortLane p s := rfl

theorem exec_adoptLane (p : PortNo) (s : State) : exec (.adoptLane p) s = execAdoptLane p s := rfl

theorem exec_readJournal (p : PortNo) (errs : List DramError) (s : State) :
    exec (.readJournal p errs) s = execReadJournal p errs s := rfl

theorem exec_abortLane_of_bad_lane (h : s.Takes p r 0x08) (hn : 64 ≤ recLane r) :
    exec (.abortLane p) s = .next ((s.popQueue p).refuse p r .badParam) := by
  rw [exec_abortLane, execAbortLane, State.onCommand_takes h, laneOf?_eq_none hn]

theorem State.abortChecks_popQueue (n : LaneNo) : (s.popQueue p).abortChecks p n = s.abortChecks p n := by
  unfold State.abortChecks
  rw [State.quietPassed_popQueue]
  rfl

theorem exec_abortLane_of_failing (h : s.Takes p r 0x08) {n : LaneNo} (hn : recLane r = n.val) {o : Outcome}
    (hc : firstFailing (s.abortChecks p n) = some o) : exec (.abortLane p) s = .next ((s.popQueue p).refuse p r o) := by
  rw [exec_abortLane, execAbortLane, State.onCommand_takes h, hn, laneOf?_val]
  dsimp only
  rw [State.abortChecks_popQueue, hc]

theorem exec_abortLane_of_passing (h : s.Takes p r 0x08) {n : LaneNo} (hn : recLane r = n.val)
    (hc : firstFailing (s.abortChecks p n) = none) :
    exec (.abortLane p) s = .next (((s.popQueue p).reply p r .accepted []).abortLane n .command) := by
  rw [exec_abortLane, execAbortLane, State.onCommand_takes h, hn, laneOf?_val]
  dsimp only
  rw [State.abortChecks_popQueue, hc]

theorem exec_adoptLane_of_bad_lane (h : s.Takes p r 0x09) (hn : 64 ≤ recLane r) :
    exec (.adoptLane p) s = .next ((s.popQueue p).refuse p r .badParam) := by
  rw [exec_adoptLane, execAdoptLane, State.onCommand_takes h, laneOf?_eq_none hn]

theorem State.adoptChecks_popQueue (n : LaneNo) : (s.popQueue p).adoptChecks n = s.adoptChecks n := by
  unfold State.adoptChecks
  rw [State.quietPassed_popQueue]
  rfl

theorem exec_adoptLane_of_failing (h : s.Takes p r 0x09) {n : LaneNo} (hn : recLane r = n.val) {o : Outcome}
    (hc : firstFailing (s.adoptChecks n) = some o) : exec (.adoptLane p) s = .next ((s.popQueue p).refuse p r o) := by
  rw [exec_adoptLane, execAdoptLane, State.onCommand_takes h, hn, laneOf?_val]
  dsimp only
  rw [State.adoptChecks_popQueue, hc]

theorem exec_adoptLane_of_passing (h : s.Takes p r 0x09) {n : LaneNo} (hn : recLane r = n.val)
    (hc : firstFailing (s.adoptChecks n) = none) :
    exec (.adoptLane p) s = .next ((((s.popQueue p).reply p r .ok [.num 1 n.val]).adopt n p).kick n) := by
  rw [exec_adoptLane, execAdoptLane, State.onCommand_takes h, hn, laneOf?_val]
  dsimp only
  rw [State.adoptChecks_popQueue, hc]

theorem exec_readJournal_of_bad_param (h : s.Takes p r 0x0A) (errs : List DramError)
    (hbad : 64 ≤ recLane r ∨ 262143 < numAt r 8 4) :
    exec (.readJournal p errs) s = .next ((s.popQueue p).refuse p r .badParam) := by
  rw [exec_readJournal, execReadJournal, State.onCommand_takes h]
  rcases hbad with hn | hstart
  · rw [laneOf?_eq_none hn]
  · cases laneOf? (recLane r) with
    | none => rfl
    | some n => exact congrArg Host.Outcome.next (if_neg (by omega))

theorem State.journalChecks_popQueue (n : LaneNo) : (s.popQueue p).journalChecks p n = s.journalChecks p n := by
  unfold State.journalChecks
  rw [State.quietPassed_popQueue]
  rfl

theorem exec_readJournal_of_failing (h : s.Takes p r 0x0A) (errs : List DramError) {n : LaneNo} (hn : recLane r = n.val)
    (hstart : numAt r 8 4 ≤ 262143) {o : Outcome} (hc : firstFailing (s.journalChecks p n) = some o) :
    exec (.readJournal p errs) s = .next ((s.popQueue p).refuse p r o) := by
  rw [exec_readJournal, execReadJournal, State.onCommand_takes h, hn, laneOf?_val]
  dsimp only
  rw [if_pos hstart, State.journalChecks_popQueue, hc]

theorem exec_readJournal_of_passing (h : s.Takes p r 0x0A) (errs : List DramError) {n : LaneNo} (hn : recLane r = n.val)
    (hstart : numAt r 8 4 ≤ 262143) (hc : firstFailing (s.journalChecks p n) = none) {es : List (List Byte)} {t : State}
    (hread : ((s.popQueue p).arise errs).readEntries n (numAt r 8 4) 6 = (es, t)) :
    exec (.readJournal p errs) s = .next (t.reply p r .ok (journalFields n (t.lane n).journal es)) := by
  rw [exec_readJournal, execReadJournal, State.onCommand_takes h, hn, laneOf?_val]
  dsimp only
  rw [if_pos hstart, State.journalChecks_popQueue, hc]
  dsimp only
  rw [hread]

/-- Settles O13: for each command the parameters, then the first of its checks that fails. -/
theorem laneCommandsAreRefused : Obligations.LaneCommandsAreRefused := by
  unfold Obligations.LaneCommandsAreRefused
  refine ⟨fun s p r h => ⟨?rebuild, ?settings, ?noLane⟩, fun s p r => ⟨?feed, ?mark, ?items⟩,
    fun s p r errs => ⟨fun h => ⟨?abortLane, fun n hn => ⟨?abortState, ?abortOwner, ?abortEarly⟩⟩,
      fun h => ⟨?adoptLane, fun n hn => ⟨?adoptState, ?adoptEarly⟩⟩,
      fun h => ⟨?journalParam, fun n hn hstart => ⟨?journalState, ?journalOwner, ?journalEarly⟩⟩⟩⟩
  case rebuild => exact fun hd => ⟨_, exec_openLane_of_rebuild h hd, h.refused _⟩
  case settings =>
    intro hd hbad
    cases hg : laneSettings? r with
    | none => exact ⟨_, exec_openLane_of_bad_settings h hd hg, h.refused _⟩
    | some g =>
      obtain ⟨hslot, hranges⟩ := laneSettings?_ranges hg
      have hactive : s.slots[g.slot].isActive = false := by
        rw [← Bool.not_eq_true, ProfileSlot.isActive_eq_true_iff]
        rintro ⟨prof, roll, uses, heq⟩
        have hlt := g.slot.isLt
        rcases hbad with h4 | ⟨i, hi, hnot⟩ | hrest
        · omega
        · have : i = g.slot := Fin.ext (hi.symm.trans hslot)
          exact hnot prof roll uses (this ▸ heq)
        · omega
      exact ⟨_, exec_openLane_of_inactive_slot h hd hg hactive, h.refused _⟩
  case noLane =>
    intro i prof roll uses hd hi hslot hsrc hact hlow hhigh hcoal hnone
    obtain ⟨src, hsrc'⟩ := Option.ne_none_iff_exists'.mp (mt cutSourceOf?_eq_none_iff.mp (not_lt.mpr hsrc))
    obtain ⟨act, hact'⟩ := Option.ne_none_iff_exists'.mp (mt failActionOf?_eq_none_iff.mp (not_lt.mpr hact))
    obtain ⟨coal, hcoal'⟩ := Option.ne_none_iff_exists'.mp (mt coalescingOf?_eq_none_iff.mp (not_lt.mpr hcoal))
    have hg := laneSettings?_of_fields hi hsrc' hact' hlow hhigh hcoal'
    have hactive : s.slots[i].isActive = true := by rw [hslot]; rfl
    exact ⟨_, exec_openLane_of_no_lane h hd hg hactive (State.freeLane?_eq_none hnone), h.refused _⟩
  case feed =>
    intro h hbad
    rcases hbad with hn | hlen
    · exact ⟨_, exec_feed_of_bad_lane h hn, h.refused _⟩
    · exact ⟨_, exec_feed_of_bad_length h (by omega), h.refused _⟩
  case mark => exact fun h hbad => ⟨_, exec_mark_of_bad_param h hbad, h.refused _⟩
  case items =>
    intro n c hn hc hnot
    obtain ⟨i, happ⟩ : ∃ i, Appends s p r c i := by
      rcases hc with ⟨hc, h, hlow, hhigh⟩ | ⟨hc, h, hk⟩
      · exact ⟨_, .inl ⟨hc, h, hlow, hhigh, rfl⟩⟩
      · obtain ⟨i, hi⟩ := markItem?_of_le hk (numAt r 8 4)
        exact ⟨i, .inr ⟨hc, h, hi⟩⟩
    obtain ⟨kind, h⟩ := happ.takes
    have hfails := State.itemChecks_fail (s := s.popQueue p) hnot
    exact ⟨_, (happ.exec hn).trans (congrArg _ (State.appendItem_of_failing hfails)), h.refused _⟩
  case abortLane => exact fun hn => ⟨_, exec_abortLane_of_bad_lane h hn, h.refused _⟩
  case abortState =>
    intro hst
    have hc : firstFailing (s.abortChecks p n) = some .refusedState := by
      rcases hst with hst | hst <;> simp [State.abortChecks, hst]
    exact ⟨_, exec_abortLane_of_failing h hn hc, h.refused _⟩
  case abortOwner =>
    rintro hfree haborting ⟨q, hown, hne⟩
    have hc : firstFailing (s.abortChecks p n) = some .notOwner := by
      have hst : (s.lane n).state ∈ [LaneState.active, .checkpointing, .closing, .orphaned] := by
        cases hl : (s.lane n).state <;> simp_all
      simp only [State.abortChecks, hst, hown, hne, Option.some.injEq, Option.isNone_some, decide_true, decide_false, Bool.or_false,
        firstFailing_passes, firstFailing_fails]
    exact ⟨_, exec_abortLane_of_failing h hn hc, h.refused _⟩
  case abortEarly =>
    intro hst hown hquiet
    have hc : firstFailing (s.abortChecks p n) = some .tooEarly := by
      simp [State.abortChecks, hst, hown, State.isOrphaned, State.quietPassed_eq_false hquiet]
    exact ⟨_, exec_abortLane_of_failing h hn hc, h.refused _⟩
  case adoptLane => exact fun hn => ⟨_, exec_adoptLane_of_bad_lane h hn, h.refused _⟩
  case adoptState =>
    intro hst
    have hc : firstFailing (s.adoptChecks n) = some (if s.expired[n] = true then .late else .refusedState) := by
      simp [State.adoptChecks, State.isOrphaned, hst]
    exact ⟨_, exec_adoptLane_of_failing h hn hc, h.refused _⟩
  case adoptEarly =>
    intro hst hquiet
    have hc : firstFailing (s.adoptChecks n) = some .tooEarly := by
      simp [State.adoptChecks, State.isOrphaned, hst, State.quietPassed_eq_false hquiet]
    exact ⟨_, exec_adoptLane_of_failing h hn hc, h.refused _⟩
  case journalParam => exact fun hbad => ⟨_, exec_readJournal_of_bad_param h errs hbad, h.refused _⟩
  case journalState =>
    intro hst
    have hc : firstFailing (s.journalChecks p n) = some .refusedState := by simp [State.journalChecks, hst]
    exact ⟨_, exec_readJournal_of_failing h errs hn hstart hc, h.refused _⟩
  case journalOwner =>
    rintro hst ⟨q, hown, hne⟩
    have hc : firstFailing (s.journalChecks p n) = some .notOwner := by simp [State.journalChecks, hst, hown, hne]
    exact ⟨_, exec_readJournal_of_failing h errs hn hstart hc, h.refused _⟩
  case journalEarly =>
    intro hst hown hquiet
    have hc : firstFailing (s.journalChecks p n) = some .tooEarly := by
      simp [State.journalChecks, hst, hown, State.quietPassed_eq_false hquiet]
    exact ⟨_, exec_readJournal_of_failing h errs hn hstart hc, h.refused _⟩

/-! ### READ_JOURNAL (R116, R190) -/

/-- The 16 bytes READ_JOURNAL answers with for place `k` of a journal: its entry, DAMAGED where an error that cannot be corrected
stands, zeroes past the journal's end. -/
def State.journalPlace (s : State) (n : LaneNo) (k : Nat) : List Byte :=
  match (s.lane n).journal[k]? with
  | none => List.replicate 16 0
  | some e => if { place := .journal n k, error := .uncorrectable } ∈ s.damage then damagedBytes else journalBytes e

theorem State.hasError_iff {at_ : DramPlace} {e : EccError} : s.hasError at_ e = true ↔ { place := at_, error := e } ∈ s.damage := by
  simp only [State.hasError, List.any_eq_true, Bool.and_eq_true, decide_eq_true_eq]
  refine ⟨?_, fun h => ⟨_, h, rfl, rfl⟩⟩
  rintro ⟨⟨_, _⟩, h, rfl, rfl⟩
  exact h

/-- A journal place in which no single-bit error stands is read as it is. -/
theorem State.readJournalPlace_of_no_single {n : LaneNo} {k : Nat} (h : ∀ d ∈ s.damage, d ≠ { place := .journal n k, error := .single }) :
    s.readJournalPlace n k = (decide ({ place := .journal n k, error := .uncorrectable } ∈ s.damage), s) := by
  have hsingle : s.hasError (.journal n k) .single = false := by
    rw [← Bool.not_eq_true, State.hasError_iff]
    exact fun hm => h _ hm rfl
  unfold State.readJournalPlace
  by_cases hu : { place := .journal n k, error := .uncorrectable } ∈ s.damage
  · rw [if_pos (State.hasError_iff.mpr hu), decide_eq_true hu]
  · rw [if_neg (mt State.hasError_iff.mp hu), hsingle, decide_eq_false hu]
    rfl

/-- Up to `k` entries from `start` on are read, and no more than the journal holds; without a correction the reads change nothing. -/
theorem State.readEntries_eq {n : LaneNo} (h : ∀ d ∈ s.damage, ∀ k, d ≠ { place := .journal n k, error := .single }) (k start : Nat) :
    ∃ es, s.readEntries n start k = (es, s) ∧ es.length = min k ((s.lane n).journal.length - start) ∧
      ∀ i, i < k → es.getD i (List.replicate 16 0) = s.journalPlace n (start + i) := by
  induction k generalizing start with
  | zero => exact ⟨[], rfl, by simp, fun i hi => absurd hi (Nat.not_lt_zero i)⟩
  | succ k ih =>
    unfold State.readEntries
    cases hj : (s.lane n).journal[start]? with
    | none =>
      have hlen := List.getElem?_eq_none_iff.mp hj
      refine ⟨[], rfl, by simp; omega, fun i _ => ?_⟩
      have hpast : (s.lane n).journal[start + i]? = none := List.getElem?_eq_none_iff.mpr (by omega)
      simp [State.journalPlace, hpast]
    | some e =>
      obtain ⟨es, hes, hlength, hplaces⟩ := ih (start + 1)
      have hlen := (List.getElem?_eq_some_iff.mp hj).1
      refine ⟨(if { place := .journal n start, error := .uncorrectable } ∈ s.damage then damagedBytes else journalBytes e) :: es, ?_, ?_, ?_⟩
      · rw [State.readJournalPlace_of_no_single fun d hd => h d hd start]
        simp only [hes, decide_eq_true_eq]
      · rw [List.length_cons, hlength]; omega
      · intro i hi
        cases i with
        | zero => simp [State.journalPlace, hj]
        | succ i =>
          rw [List.getD_cons_succ, hplaces i (by omega)]
          congr 1
          omega

/-- Settles O19: the six places are read one after the other. -/
theorem readJournalReturnsEntries : Obligations.ReadJournalReturnsEntries := by
  unfold Obligations.ReadJournalReturnsEntries
  intro s p r n errs place h hn hstart hfree hown hsingle hplace
  have hc : firstFailing (s.journalChecks p n) = none := by
    rcases hown with hown | ⟨hown, hquiet⟩
    · simp [State.journalChecks, hfree, hown]
    · simp [State.journalChecks, hfree, hown, (State.quietPassed_iff n).mpr hquiet]
  have hplace' (i : Nat) : ((s.popQueue p).arise errs).journalPlace n (numAt r 8 4 + i) = place i := (hplace i).symm
  obtain ⟨es, hread, hlength, hplaces⟩ := State.readEntries_eq (s := (s.popQueue p).arise errs) (n := n) hsingle 6 (numAt r 8 4)
  obtain ⟨hanswered, hframe⟩ := h.answers ((s.popQueue p).arise errs) rfl rfl .ok
    (journalFields n (s.lane n).journal es)
  refine ⟨_, exec_readJournal_of_passing h errs hn hstart hc hread, ?_, by exact hframe.trans rfl⟩
  have hfields : journalFields n (s.lane n).journal es =
      [.num 1 n.val, .num 4 (s.lane n).journal.length, .num 4 (((s.lane n).journal.head?.map JournalEntry.seq).getD 0),
        .raw (place 0), .raw (place 1), .raw (place 2), .raw (place 3), .raw (place 4), .raw (place 5),
        .num 1 (min 6 ((s.lane n).journal.length - numAt r 8 4))] := by
    have hes (i : Nat) (hi : i < 6) : es.getD i (List.replicate 16 0) = place i := (hplaces i hi).trans (hplace' i)
    have hrange : List.range 6 = [0, 1, 2, 3, 4, 5] := rfl
    rw [journalFields, hrange, hlength]
    simp only [List.map_cons, List.map_nil, hes 0 (by omega), hes 1 (by omega), hes 2 (by omega), hes 3 (by omega),
      hes 4 (by omega), hes 5 (by omega)]
    rfl
  rw [← hfields]
  exact hanswered

end Commands

end Sys2Proof.Machine

/-! PROOFS. The index: count arithmetic, the checks of SETTLE, RELEASE and INSERT, RELEASE and its decrements, INSERT and QUERY
(O21, O22, O23, O24, O25). -/

namespace Sys2Proof.Machine

open Sys2Proof

/-! ### Count arithmetic (R16, R18) -/

section Counts

variable {s : State} {b : Nat} {i : Fin 16}

theorem State.decrement_of_poisoned {g : Nat} (hg : g < 16384) (h : b ∈ s.poisonList) :
    s.decrement (b * 262144 + i.val * 16384 + g) = (.poisoned, s) := by
  unfold State.decrement
  simp only [decodeId_of hg, State.readBucket_poisoned h]

theorem State.decrement_of_stale {g : Nat} (hg : g < 16384) (h : s.readBucket b = (false, s))
    (he : s.entry? { bucket := b, slot := i, generation := g } = none) :
    s.decrement (b * 262144 + i.val * 16384 + g) = (.stale, s) := by
  unfold State.decrement
  simp only [decodeId_of hg, h, he]

theorem State.decrement_of_entry {g : Nat} (hg : g < 16384) (h : s.readBucket b = (false, s)) {x : Entry}
    (he : s.entry? { bucket := b, slot := i, generation := g } = some x) :
    s.decrement (b * 262144 + i.val * 16384 + g) = ((x.decrement s.epoch).1, s.updateEntry b i (x.decrement s.epoch).2) := by
  unfold State.decrement
  simp only [decodeId_of hg, h, he]

theorem State.entry?_of_mismatch {g : Nat} (h : (s.bucket b)[i].generation ≠ g ∨ (s.bucket b)[i].entry = none) :
    s.entry? { bucket := b, slot := i, generation := g } = none := by
  unfold State.entry? entryAt
  rcases h with h | h
  · exact if_neg h
  · split
    · exact h
    · rfl

theorem State.Readable.clean (h : s.Readable [] b) : s.readBucket b = (false, s) :=
  State.readBucket_clean h.1 fun d hd => h.2 d (by simpa using hd)

theorem Entry.increment_live {x : Entry} (h : x.state = .live) (n e : Nat) :
    x.increment n e =
      if x.count + n < 16777215 then { x with count := x.count + n, lastRef := e }
      else { x with count := 16777215, state := .pinned, lastRef := e } := by
  unfold Entry.increment; rw [h]; rfl

theorem Entry.increment_zero {x : Entry} {z : Nat} (h : x.state = .zero z) (n e : Nat) :
    x.increment n e =
      if n < 16777215 then { x with count := n, state := .live, lastRef := e }
      else { x with count := 16777215, state := .pinned, lastRef := e } := by
  unfold Entry.increment; rw [h]; rfl

/-- Settles O23: the decrement by the state of what the ID names, the increment by the state of the entry. -/
theorem countsFollowState : Obligations.CountsFollowState := by
  unfold Obligations.CountsFollowState
  refine ⟨fun s b i g hg => ⟨State.decrement_of_poisoned hg, fun hr hm => ?stale, fun x hr hx => ?entry⟩,
    fun x n e hlow hhigh => ⟨?room, ?full, ?pinned, ?revived, ?revivedPinned, ?pending⟩⟩
  case stale => exact State.decrement_of_stale hg hr.clean (State.entry?_of_mismatch hm)
  case entry =>
    have he : s.entry? { bucket := b, slot := i, generation := g } = some x := State.entry?_of hx
    refine ⟨_, (x.decrement s.epoch).2, _, State.decrement_of_entry hg hr.clean he, ?_, rfl, ?_⟩
    · have := State.slotBecomes_updateEntry (s := s) (b := b) (i := i) (x.decrement s.epoch).2
      rwa [hx] at this
    · unfold Entry.decrement
      rfl
  case room => exact fun h hc => by rw [Entry.increment_live h, if_pos hc]
  case full => exact fun h hc => by rw [Entry.increment_live h, if_neg (not_lt.mpr hc)]
  case pinned => exact fun h => by unfold Entry.increment; rw [h]
  case revived => exact fun z h hc => by rw [Entry.increment_zero h, if_pos hc]
  case revivedPinned => exact fun z h hc => by rw [Entry.increment_zero h, if_neg (by omega)]
  case pending => exact fun m h => by unfold Entry.increment; rw [h]; rfl

end Counts

section Commands

variable {s : State} {p : PortNo} {r : CommandRecord}

/-! ### The checks of SETTLE, RELEASE and INSERT (R84, R114, R20) -/

theorem exec_settle (p : PortNo) (errs : List DramError) (s : State) : exec (.settle p errs) s = execSettle p errs s := rfl

theorem exec_release (p : PortNo) (s : State) : exec (.release p) s = execRelease p s := rfl

theorem exec_insert (p : PortNo) (errs : List DramError) (s : State) : exec (.insert p errs) s = execInsert p errs s := rfl

theorem exec_settle_of_zero (h : s.Takes p r 0x0B) (errs : List DramError) (hn : numAt r 4 4 = 0) :
    exec (.settle p errs) s = .next ((s.popQueue p).refuse p r .badParam) := by
  rw [exec_settle, execSettle, State.onCommand_takes h]
  exact congrArg Host.Outcome.next (if_pos hn)

theorem exec_settle_of_unknown (h : s.Takes p r 0x0B) (errs : List DramError) (hn : numAt r 4 4 ≠ 0)
    (hc : s.container? (numAt r 4 4) = none) :
    exec (.settle p errs) s =
      .next ((s.popQueue p).refuse p r (if numAt r 4 4 ∈ (s.port p).recent then .late else .unknown)) := by
  have hc' : (s.popQueue p).container? (numAt r 4 4) = none := hc
  rw [exec_settle, execSettle, State.onCommand_takes h]
  dsimp only
  rw [if_neg hn, hc', State.port_popQueue]

theorem exec_settle_of_failing (h : s.Takes p r 0x0B) (errs : List DramError) (hn : numAt r 4 4 ≠ 0) {c : Container}
    (hc : s.container? (numAt r 4 4) = some c) {o : Outcome} (ho : firstFailing (s.settleChecks p c) = some o) :
    exec (.settle p errs) s = .next ((s.popQueue p).refuse p r o) := by
  have hc' : (s.popQueue p).container? (numAt r 4 4) = some c := hc
  have ho' : firstFailing ((s.popQueue p).settleChecks p c) = some o := ho
  rw [exec_settle, execSettle, State.onCommand_takes h]
  dsimp only
  rw [if_neg hn, hc']
  dsimp only
  rw [ho']

theorem Container.isOpen_iff {c : Container} : c.isOpen = true ↔ c.state = .opened := by
  unfold Container.isOpen
  cases c.state <;> simp

theorem State.settleChecks_fail {c : Container}
    (h : ¬(c.ownerPort = p ∧ (s.lane c.ownerLane).state ≠ .orphaned ∧ c.state ≠ .opened)) :
    firstFailing (s.settleChecks p c) = some (if c.ownerPort ≠ p then .notOwner else .refusedState) := by
  unfold State.settleChecks
  by_cases hown : c.ownerPort = p
  · by_cases horph : (s.lane c.ownerLane).state = .orphaned
    · simp [hown, State.isOrphaned, horph]
    · have hopen : c.isOpen = true := Container.isOpen_iff.mpr (by by_contra hno; exact h ⟨hown, horph, hno⟩)
      simp [hown, State.isOrphaned, horph, hopen]
  · simp [hown]

theorem exec_release_of_failing (h : s.Takes p r 0x0C) {o : Outcome} (ho : firstFailing (s.releaseChecks r) = some o) :
    exec (.release p) s = .next ((s.popQueue p).refuse p r o) := by
  have ho' : firstFailing ((s.popQueue p).releaseChecks r) = some o := ho
  rw [exec_release, execRelease, State.onCommand_takes h, ho']

theorem exec_insert_of_failing (h : s.Takes p r 0x0D) (errs : List DramError) {o : Outcome}
    (ho : firstFailing (s.insertChecks r) = some o) :
    exec (.insert p errs) s = .next ((s.popQueue p).refuse p r o) := by
  have ho' : firstFailing ((s.popQueue p).insertChecks r) = some o := ho
  rw [exec_insert, execInsert, State.onCommand_takes h, ho']

/-- The parameters of an INSERT lie in their ranges (R20). -/
def InsertParams (r : CommandRecord) : Prop :=
  1 ≤ numAt r 8 4 ∧ numAt r 12 4 % 64 = 0 ∧ numAt r 12 4 ≤ 4194240 ∧ 1 ≤ numAt r 16 4 ∧ numAt r 16 4 ≤ 262144 ∧
    numAt r 12 4 + numAt r 16 4 ≤ 4194304 ∧ 1 ≤ numAt r 20 4 ∧ numAt r 20 4 ≤ 16777215

theorem State.insertChecks_passthrough (hd : s.device = .passthrough) : firstFailing (s.insertChecks r) = some .refusedState := by
  simp [State.insertChecks, hd]

theorem State.insertChecks_pass (hd : s.device ≠ .passthrough) (h : InsertParams r) : firstFailing (s.insertChecks r) = none := by
  obtain ⟨h1, h2, h3, h4, h5, h6, h7, h8⟩ := h
  have d1 : decide (numAt r 20 4 ≤ Config.maxCount) = true := decide_eq_true h8
  have d2 : decide (numAt r 16 4 ≤ Config.maxChunk) = true := decide_eq_true h5
  have d3 : decide (numAt r 12 4 + numAt r 16 4 ≤ Config.containerSize) = true := decide_eq_true h6
  simp [State.insertChecks, hd, h1, h2, h3, h4, h7, d1, d2, d3]

/-- The five checks after the device's all answer BAD_PARAM: one of them fails when a parameter is out of range. -/
theorem State.insertChecks_bad (hd : s.device ≠ .passthrough) (h : ¬InsertParams r) :
    firstFailing (s.insertChecks r) = some .badParam := by
  have allBad (a b c d e : Bool) (hno : ¬(a = true ∧ b = true ∧ c = true ∧ d = true ∧ e = true)) :
      firstFailing [(true, .refusedState), (a, .badParam), (b, .badParam), (c, .badParam), (d, .badParam), (e, .badParam)] =
        some .badParam := by
    cases a
    · rfl
    cases b
    · rfl
    cases c
    · rfl
    cases d
    · rfl
    cases e
    · rfl
    exact absurd ⟨rfl, rfl, rfl, rfl, rfl⟩ hno
  unfold State.insertChecks
  dsimp only
  rw [decide_eq_true hd]
  refine allBad _ _ _ _ _ ?_
  simp only [Bool.and_eq_true, decide_eq_true_eq]
  rintro ⟨h1, ⟨h2, h3⟩, ⟨h4, h5⟩, h6, h7, h8⟩
  exact h ⟨h1, h2, h3, h4, h5, h6, h7, h8⟩

/-- Settles O21: the first check that fails, command by command. -/
theorem indexCommandsAreRefused : Obligations.IndexCommandsAreRefused := by
  unfold Obligations.IndexCommandsAreRefused
  refine ⟨fun s p r errs => ⟨fun h => ⟨?zero, ?unknown, ?settle⟩, fun h => ⟨?release, ?count⟩⟩, fun s p r errs h => ⟨?insert, ?params⟩⟩
  case zero => exact fun hn => ⟨_, exec_settle_of_zero h errs hn, h.refused _⟩
  case unknown => exact fun hn hc => ⟨_, exec_settle_of_unknown h errs hn hc, h.refused _⟩
  case settle => exact fun c hn hc hno => ⟨_, exec_settle_of_failing h errs hn hc (State.settleChecks_fail hno), h.refused _⟩
  case release =>
    intro hd
    exact ⟨_, exec_release_of_failing h (by simp [State.releaseChecks, hd]), h.refused _⟩
  case count =>
    intro hd hcount
    have hrange : (decide (1 ≤ byteAt r 1) && decide (byteAt r 1 ≤ 12)) = false := by
      rw [← Bool.not_eq_true, Bool.and_eq_true, decide_eq_true_eq, decide_eq_true_eq]; omega
    exact ⟨_, exec_release_of_failing h (by rw [State.releaseChecks, hrange, decide_eq_true hd]; rfl), h.refused _⟩
  case insert => exact fun hd => ⟨_, exec_insert_of_failing h errs (State.insertChecks_passthrough hd), h.refused _⟩
  case params =>
    intro hd hbad
    have hno : ¬InsertParams r := by unfold InsertParams; omega
    exact ⟨_, exec_insert_of_failing h errs (State.insertChecks_bad hd hno), h.refused _⟩

/-! ### PASSTHROUGH is not entered without a poisoning (R189) -/

/-- An operation that poisoned no bucket does not enter PASSTHROUGH. -/
theorem State.passCheck_of_same {t : State} (h : t.poisonCount = s.poisonCount) : t.passCheck s = t := by
  unfold State.passCheck
  rw [if_neg]
  rintro ⟨hlt, -⟩
  omega

/-! ### RELEASE and its decrements (R114, R158) -/

theorem exec_release_of_passing (h : s.Takes p r 0x0C) (hd : s.device ≠ .passthrough)
    (hcount : 1 ≤ byteAt r 1 ∧ byteAt r 1 ≤ 12) :
    exec (.release p) s = .next ((s.popQueue p).modPort p fun q =>
      { q with hand := some (.release { tag := recTag r, ids := recReleaseIds r, results := [] }) }) := by
  have hnone : firstFailing ((s.popQueue p).releaseChecks r) = none := by
    rw [State.releaseChecks, State.popQueue_device, decide_eq_true hd, decide_eq_true hcount.1, decide_eq_true hcount.2]
    rfl
  rw [exec_release, execRelease, State.onCommand_takes h, hnone]

theorem exec_releaseDecrement (w : ReleaseRef) (errs : List DramError) (s : State) :
    exec (.releaseDecrement w errs) s = execReleaseDecrement w errs s := rfl

/-- One decrement, by the result and the state its ID's decrement gives. -/
theorem State.releaseOne_eq {w : ReleaseWork} {id : Nat} {rest : List Nat} {res : DecResult} {u : State} (hw : w.ids = id :: rest)
    (hd : s.decrement id = (res, u)) :
    s.releaseOne w = ({ w with ids := rest, results := w.results ++ [res] }, u.passCheck s) := by
  unfold State.releaseOne
  rw [hw]
  dsimp only
  rw [hd]

/-- The state at a poisoning before its flags are set (R189 steps 1 to 4). -/
def State.struck (s : State) (b : Nat) : State :=
  { s with
    poisonList := if b ∉ s.poisonList ∧ s.poisonList.length < 64 then s.poisonList ++ [b] else s.poisonList
    poisonCount := countTo 4294967295 s.poisonCount
    table := s.table.map fun c => { c with members := c.members.filter fun m => decide (m.bucket ≠ b) } }

theorem State.poison_eq (b : Nat) : s.poison b = (s.struck b).setFlagAll .poison .none := rfl

theorem State.poison_strayReleases (b : Nat) : (s.poison b).strayReleases = s.strayReleases := by
  rw [State.poison_eq, State.setFlagAll_strayReleases]; rfl

theorem State.readBucket_strayReleases (b : Nat) : (s.readBucket b).2.strayReleases = s.strayReleases := by
  unfold State.readBucket
  split
  · rfl
  · split
    · exact s.poison_strayReleases b
    · split <;> rfl

/-- A decrement leaves the RELEASEs of failed ports. -/
theorem State.decrement_strayReleases (id : Nat) : (s.decrement id).2.strayReleases = s.strayReleases := by
  have hread := s.readBucket_strayReleases (decodeId id).bucket
  unfold State.decrement
  dsimp only
  split
  · next hb => rw [hb] at hread; exact hread
  · next hb =>
    rw [hb] at hread
    split
    · exact hread
    · exact hread

/-- Settles O22: the RELEASE stays in hand, and each decrement moves its next ID's result to the results. -/
theorem releaseTakesDecrementsInOrder : Obligations.ReleaseTakesDecrementsInOrder := by
  unfold Obligations.ReleaseTakesDecrementsInOrder
  refine ⟨fun s p r h hd hlow hhigh => ⟨_, exec_release_of_passing h hd ⟨hlow, hhigh⟩, ?taken, ?others, rfl⟩,
    fun s u w id rest res errs hw hdec hcount => ?decrements⟩
  case taken => rw [State.port_modPort, State.port_popQueue]; rfl
  case others => exact fun q hq => by rw [State.port_modPort_ne _ _ _ hq, State.port_popQueue_ne _ _ hq]
  case decrements =>
    have hdec' : (s.arise errs).decrement id = (res, u) := hdec
    have hone : (s.arise errs).releaseOne w = ({ w with ids := rest, results := w.results ++ [res] }, u) := by
      rw [State.releaseOne_eq hw hdec', State.passCheck_of_same (s := s.arise errs) hcount]
    have hstray : u.strayReleases = s.strayReleases := by
      have := (s.arise errs).decrement_strayReleases id
      rwa [hdec'] at this
    refine ⟨fun p hhand hrest => ?next, fun p hhand hrest hcan => ?last, fun i hi hrest => ?strayNext, fun i hi hrest => ?strayLast⟩
    case next =>
      refine ⟨u.modPort p fun q => { q with hand := some (.release { w with ids := rest, results := w.results ++ [res] }) }, ?_,
        State.port_modPort _ _ _, fun q hq => State.port_modPort_ne _ _ _ hq, rfl⟩
      rw [exec_releaseDecrement]
      simp only [execReleaseDecrement, hhand, hone, if_neg hrest]
    case last =>
      have hfields : ReleaseWork.completion { w with ids := rest, results := w.results ++ [res] } =
          { kind := 0x0C, tag := w.tag, outcome := .ok,
            fields := .num 1 (w.results.length + 1) :: (w.results ++ [res]).map fun x => .num 1 x.code } := by
        simp [ReleaseWork.completion, releaseFields]
      have hwrote := State.wrote_complete hcan (ReleaseWork.completion { w with ids := rest, results := w.results ++ [res] })
      have hframe := u.complete_frame p (ReleaseWork.completion { w with ids := rest, results := w.results ++ [res] })
      rw [State.complete_discarded hcan] at hframe
      rw [hfields] at hwrote hframe
      refine ⟨_, ?_, hwrote, hframe⟩
      rw [exec_releaseDecrement]
      simp only [execReleaseDecrement, hhand, hone, if_pos hrest, hfields]
    case strayNext =>
      rw [exec_releaseDecrement]
      simp only [execReleaseDecrement, hi, hone, if_neg hrest, hstray]
    case strayLast =>
      rw [exec_releaseDecrement]
      simp only [execReleaseDecrement, hi, hone, if_pos hrest, hstray]
      rfl

/-! ### Flags set by a command that is answered -/

theorem State.ports_ext {t : State} (h : ∀ q, s.port q = t.port q) : s.ports = t.ports :=
  Vector.ext fun q hq => h ⟨q, hq⟩

/-- A flag without an ATTENTION record changes a port's summary alone. -/
theorem Port.flagged_eq (q : Port) (f : Flag) (c : Carry) : q.flagged f c = { q with summary := (q.flagged f c).summary } := by
  unfold Port.flagged
  split <;> rfl

theorem State.flaggedAt_port_eq (among : PortNo → Bool) (f : Flag) (c : Carry) (q : PortNo) :
    (s.flaggedAt among f c).port q = { s.port q with summary := ((s.flaggedAt among f c).port q).summary } := by
  rw [State.flaggedAt_port]
  split
  · exact Port.flagged_eq _ _ _
  · rfl

/-- A port takes its command whether or not flags have been set. -/
theorem State.Takes.flaggedAt {kind : Nat} (h : s.Takes p r kind) (among : PortNo → Bool) (f : Flag) (c : Carry) :
    (s.flaggedAt among f c).Takes p r kind := by
  have hport := s.flaggedAt_port_eq among f c p
  obtain ⟨hfront, hkind, hcan⟩ := h
  refine ⟨?_, hkind, ?_⟩
  · rw [← hfront]
    unfold State.front?
    rw [hport]
    rfl
  · rw [← hcan]
    apply State.canWrite_congr <;> rw [hport]

theorem Port.flagged_drop (q : Port) (f : Flag) (c : Carry) :
    ({ q with queue := q.queue.drop 1 } : Port).flagged f c = { q.flagged f c with queue := q.queue.drop 1 } := by
  by_cases h : q.state = .attached
  · simp only [Port.flagged, h, if_true]
  · simp only [Port.flagged, h, if_false]

/-- Flags and the taking of a command touch different parts of a port unit. -/
theorem State.port_flaggedAt_popQueue (among : PortNo → Bool) (f : Flag) (c : Carry) (q : PortNo) :
    ((s.popQueue p).flaggedAt among f c).port q = ((s.flaggedAt among f c).popQueue p).port q := by
  rw [State.flaggedAt_port]
  by_cases hq : q = p
  · subst hq
    have hqueue : ((s.flaggedAt among f c).port q).queue = (s.port q).queue := by rw [State.flaggedAt_port_eq]
    rw [State.port_popQueue, State.port_popQueue, hqueue, State.flaggedAt_port, Port.flagged_drop]
    split <;> rfl
  · rw [State.port_popQueue_ne _ _ hq, State.port_popQueue_ne _ _ hq, State.flaggedAt_port]

/-- A command that sets flags of which none makes an ATTENTION record, and else leaves the port units and the ring records: its reply
answers it in the state with the flags set. -/
theorem State.Takes.answers_flagged {kind : Nat} (h : s.Takes p r kind) (among : PortNo → Bool) (f : Flag) (c : Carry) (e : State)
    (hp : ∀ q, e.port q = ((s.popQueue p).flaggedAt among f c).port q) (hm : e.memory = s.memory) (o : Outcome) (fs : List Field) :
    (s.flaggedAt among f c).Answered (e.reply p r o fs) p r o fs ∧
      e.reply p r o fs = { e with ports := (e.reply p r o fs).ports, memory := (e.reply p r o fs).memory } :=
  (h.flaggedAt among f c).answers e
    (State.ports_ext fun q => by rw [hp, State.port_flaggedAt_popQueue]) hm o fs

/-- Whether a change of occupancy makes an ATTENTION record depends on what the watches and the summaries stand at. -/
theorem State.CrossesQuietly.of_ports {b : Nat} {t : State} (h : s.CrossesQuietly b) (hocc : t.occupancy = s.occupancy)
    (hport : ∀ q, ∃ queue, t.port q = { s.port q with queue := queue }) : t.CrossesQuietly b := by
  rcases h with h | h
  · refine .inl fun q ha => ?_
    obtain ⟨queue, hq⟩ := hport q
    have hsum : (t.port q).summary = (s.port q).summary := by rw [hq]
    rw [hsum]
    refine h q ?_
    rw [← ha]
    unfold State.attached
    rw [hq]
  · refine .inr fun q => ?_
    obtain ⟨queue, hq⟩ := hport q
    rw [← h q, hocc]
    unfold Port.sees
    rw [hq]

theorem State.port_popQueue_eq (q : PortNo) : ∃ queue, (s.popQueue p).port q = { s.port q with queue := queue } := by
  by_cases hq : q = p
  · subst hq; exact ⟨_, State.port_popQueue _ _⟩
  · exact ⟨_, State.port_popQueue_ne _ _ hq⟩

/-- The crossings of a state whose port units differ in their queues alone. -/
theorem State.port_crossed_of_ports {b : Nat} {t : State} (hocc : t.occupancy = s.occupancy) (hports : t.ports = (s.popQueue p).ports)
    (q : PortNo) : (t.crossed b).port q =
      ((s.popQueue p).flaggedAt (fun q => (s.port q).sees s.occupancy b) .occupancy .none).port q := by
  have hport : t.port q = (s.popQueue p).port q := by simp only [State.port, hports]
  obtain ⟨queue, hq⟩ := State.port_popQueue_eq (s := s) (p := p) q
  have hsees : ((s.popQueue p).port q).sees s.occupancy b = (s.port q).sees s.occupancy b := by
    unfold Port.sees
    rw [hq]
  rw [State.crossed, State.flaggedAt_port, State.flaggedAt_port, hocc, hport, hsees]

/-! ### INSERT (R20, R21, R22) -/

theorem exec_insert_of_passing (h : s.Takes p r 0x0D) (errs : List DramError) (hd : s.device ≠ .passthrough) (hr : InsertParams r)
    {o : Outcome} {fs : List Field} {t : State}
    (hat : (((s.popQueue p).arise errs).raiseCounter (numAt r 8 4)).insertAt r = (o, fs, t)) :
    exec (.insert p errs) s = .next ((t.passCheck (s.popQueue p)).reply p r o fs) := by
  have hnone : firstFailing ((s.popQueue p).insertChecks r) = none := State.insertChecks_pass (s := s.popQueue p) hd hr
  rw [exec_insert, execInsert, State.onCommand_takes h, hnone]
  dsimp only
  rw [hat]

theorem State.insertAt_of_free (hread : s.readBucket (bucketOf (recFingerprint r)) = (false, s))
    (hlacks : (s.bucket (bucketOf (recFingerprint r))).Lacks (recFingerprint r)) {i : Fin 16}
    (hfree : (s.bucket (bucketOf (recFingerprint r))).FirstFree i) :
    s.insertAt r = (.ok, [.num 5 (idIn (bucketOf (recFingerprint r)) (s.bucket (bucketOf (recFingerprint r))) i)],
      s.createEntry (bucketOf (recFingerprint r)) i (insertedEntry r s.epoch)) := by
  unfold State.insertAt
  simp only [hread, findFingerprint_lacks hlacks, freeSlot?_first hfree]

theorem State.insertAt_of_full (hread : s.readBucket (bucketOf (recFingerprint r)) = (false, s))
    (hlacks : (s.bucket (bucketOf (recFingerprint r))).Lacks (recFingerprint r))
    (hfull : ∀ i : Fin 16, (s.bucket (bucketOf (recFingerprint r)))[i].entry ≠ none) : s.insertAt r = (.full, [], s) := by
  unfold State.insertAt
  simp only [hread, findFingerprint_lacks hlacks, freeSlot?_full hfull]

theorem State.insertAt_of_match (hread : s.readBucket (bucketOf (recFingerprint r)) = (false, s)) {i : Fin 16} {x : Entry}
    (hfirst : (s.bucket (bucketOf (recFingerprint r))).FirstWith (recFingerprint r) i x)
    (hcheck : x.check = BitVec.ofNat 32 (numAt r 4 4)) :
    s.insertAt r =
      (.exists_,
        [.num 5 (idIn (bucketOf (recFingerprint r)) (s.bucket (bucketOf (recFingerprint r))) i),
          .num 4 (x.increment (numAt r 20 4) s.epoch).count, .num 1 0],
        s.updateEntry (bucketOf (recFingerprint r)) i (x.increment (numAt r 20 4) s.epoch)) := by
  unfold State.insertAt
  simp only [hread, findFingerprint_first hfirst, if_pos hcheck]

theorem State.insertAt_of_collision (hread : s.readBucket (bucketOf (recFingerprint r)) = (false, s)) {i : Fin 16} {x : Entry}
    (hfirst : (s.bucket (bucketOf (recFingerprint r))).FirstWith (recFingerprint r) i x)
    (hcheck : x.check ≠ BitVec.ofNat 32 (numAt r 4 4)) :
    s.insertAt r =
      (.exists_,
        [.num 5 (idIn (bucketOf (recFingerprint r)) (s.bucket (bucketOf (recFingerprint r))) i), .num 4 x.count, .num 1 1],
        s.collide) := by
  unfold State.insertAt
  simp only [hread, findFingerprint_first hfirst, if_neg hcheck]

theorem State.insertAt_of_poisoned (h : bucketOf (recFingerprint r) ∈ s.poisonList) : s.insertAt r = (.poisoned, [], s) := by
  unfold State.insertAt
  simp only [State.readBucket_poisoned h]

theorem State.SlotBecomes.of_index {e t u : State} {b : Nat} {i : Fin 16} {v : Slot} (h : e.SlotBecomes t b i v)
    (hs : s.index = e.index) (ht : u.index = t.index) : s.SlotBecomes u b i v := by
  have hsb (k : Nat) : s.bucket k = e.bucket k := by simp only [State.bucket, hs]
  have htb (k : Nat) : u.bucket k = t.bucket k := by simp only [State.bucket, ht]
  refine ⟨by rw [htb]; exact h.1, fun k j hne => ?_⟩
  rw [htb, hsb]
  exact h.2 k j hne

theorem Port.sees_next_iff (q : Port) (a : Nat) :
    q.sees a (a + 1) = true ↔
      q.state = .attached ∧ (q.watchMode = .rising ∨ q.watchMode = .both) ∧ q.watchThreshold = a + 1 := by
  unfold Port.sees
  simp only [Bool.and_eq_true, Bool.or_eq_true, decide_eq_true_eq]
  constructor
  · rintro ⟨hs, ⟨hm, hlt, hle⟩ | ⟨hm, hle, hlt⟩⟩
    · exact ⟨hs, hm, by omega⟩
    · omega
  · rintro ⟨hs, hm, ht⟩
    exact ⟨hs, .inl ⟨hm, by omega, by omega⟩⟩

/-- Settles O24: the bucket is read as it is, and the search in it decides between the five ends. -/
theorem insertCreatesOrIncrements : Obligations.InsertCreatesOrIncrements := by
  unfold Obligations.InsertCreatesOrIncrements
  intro s p r errs b check n h hd h1 h2 h3 h4 h5 h6 h7 h8 hn hcheck hb
  subst hn hcheck hb
  have hparams : InsertParams r := ⟨h1, h2, h3, h4, h5, h6, h7, h8⟩
  generalize he : ((s.popQueue p).arise errs).raiseCounter (numAt r 8 4) = e
  have hports : e.ports = (s.popQueue p).ports := by rw [← he]; rfl
  have hmemory : e.memory = s.memory := by rw [← he]; rfl
  have hindex : e.index = s.index := by rw [← he]; rfl
  have hbucket : e.bucket (bucketOf (recFingerprint r)) = s.bucket (bucketOf (recFingerprint r)) := by rw [← he]; rfl
  have hepoch : e.epoch = s.epoch := by rw [← he]; rfl
  have hocc : e.occupancy = s.occupancy := by rw [← he]; rfl
  have hcount : e.poisonCount = (s.popQueue p).poisonCount := by rw [← he]; rfl
  have hread (hr : s.Readable errs (bucketOf (recFingerprint r))) :
      e.readBucket (bucketOf (recFingerprint r)) = (false, e) :=
    State.readBucket_clean (by rw [← he]; exact hr.1) (by rw [← he]; exact hr.2)
  have hexec {o : Outcome} {fs : List Field} {t : State} (hat : e.insertAt r = (o, fs, t)) (hpc : t.poisonCount = e.poisonCount) :
      exec (.insert p errs) s = .next (t.reply p r o fs) := by
    have hat' : (((s.popQueue p).arise errs).raiseCounter (numAt r 8 4)).insertAt r = (o, fs, t) := by rw [he]; exact hat
    rw [exec_insert_of_passing h errs hd hparams hat', State.passCheck_of_same (hpc.trans hcount)]
  refine ⟨fun q => ?sees, fun i hr hlacks hfree hquiet => ?created, fun i x hr hfirst hcheck => ?incremented,
    fun i x hr hfirst hcheck => ?collided, fun hr hlacks hfull => ?full, fun hpoison => ?poisoned⟩
  case sees => rw [Port.sees_next_iff, State.attached, decide_eq_true_eq]
  case created =>
    have hat := State.insertAt_of_free (s := e) (r := r) (hread hr) (by rw [hbucket]; exact hlacks) (by rw [hbucket]; exact hfree)
    generalize hx : insertedEntry r e.epoch = x at hat
    have hcreate : e.createEntry (bucketOf (recFingerprint r)) i x =
        { (e.updateEntry (bucketOf (recFingerprint r)) i x).crossed (s.occupancy + 1) with occupancy := s.occupancy + 1 } := by
      rw [← hocc]
      refine State.changeOccupancy_quiet (s := e.updateEntry (bucketOf (recFingerprint r)) i x)
        (State.CrossesQuietly.of_ports (s := s) (by rw [hocc]; exact hquiet) hocc fun q => ?_)
      have : (e.updateEntry (bucketOf (recFingerprint r)) i x).port q = (s.popQueue p).port q := by
        change e.ports[q] = _
        rw [hports]
        rfl
      rw [this]
      exact State.port_popQueue_eq q
    rw [hcreate] at hat
    refine ⟨_, hexec hat rfl, ?_⟩
    obtain ⟨hanswered, hframe⟩ := h.answers_flagged (fun q => (s.port q).sees s.occupancy (s.occupancy + 1)) .occupancy .none
      { (e.updateEntry (bucketOf (recFingerprint r)) i x).crossed (s.occupancy + 1) with occupancy := s.occupancy + 1 }
      (fun q => State.port_crossed_of_ports (t := e.updateEntry (bucketOf (recFingerprint r)) i x) hocc hports q) hmemory .ok
      [.num 5 (idIn (bucketOf (recFingerprint r)) (e.bucket (bucketOf (recFingerprint r))) i)]
    refine ⟨?_, ?_, ?_⟩
    · rw [hbucket] at hanswered ⊢
      exact hanswered
    · have hslot := State.slotBecomes_updateEntry (s := e) (b := bucketOf (recFingerprint r)) (i := i) x
      rw [hbucket, ← hx, hepoch] at hslot
      refine hslot.of_index hindex.symm ?_
      rw [hframe, ← hx, hepoch]
      rfl
    · rw [hframe, ← he]
      rfl
  case incremented =>
    have hat := State.insertAt_of_match (s := e) (r := r) (hread hr) (by rw [hbucket]; exact hfirst) hcheck
    rw [hepoch, hbucket] at hat
    refine ⟨_, hexec hat rfl, ?_⟩
    obtain ⟨hanswered, hframe⟩ := h.answers
      (e.updateEntry (bucketOf (recFingerprint r)) i (x.increment (numAt r 20 4) s.epoch)) hports hmemory .exists_
      [.num 5 (idIn (bucketOf (recFingerprint r)) (s.bucket (bucketOf (recFingerprint r))) i),
        .num 4 (x.increment (numAt r 20 4) s.epoch).count, .num 1 0]
    refine ⟨hanswered, ?_, by rw [hframe, ← he]; rfl⟩
    have hslot := State.slotBecomes_updateEntry (s := e) (b := bucketOf (recFingerprint r)) (i := i)
      (x.increment (numAt r 20 4) s.epoch)
    rw [hbucket] at hslot
    exact hslot.of_index hindex.symm (by rw [hframe])
  case collided =>
    have hat := State.insertAt_of_collision (s := e) (r := r) (hread hr) (by rw [hbucket]; exact hfirst) hcheck
    rw [hbucket] at hat
    refine ⟨_, hexec hat rfl, ?_⟩
    obtain ⟨hanswered, hframe⟩ := h.answers e.collide hports hmemory .exists_
      [.num 5 (idIn (bucketOf (recFingerprint r)) (s.bucket (bucketOf (recFingerprint r))) i), .num 4 x.count, .num 1 1]
    exact ⟨hanswered, by rw [hframe, ← he]; rfl⟩
  case full =>
    have hat := State.insertAt_of_full (s := e) (r := r) (hread hr) (by rw [hbucket]; exact hlacks) (by rw [hbucket]; exact hfull)
    obtain ⟨hanswered, hframe⟩ := h.answers e hports hmemory .full []
    exact ⟨_, hexec hat rfl, hanswered, by rw [hframe, ← he]; rfl⟩
  case poisoned =>
    have hat := State.insertAt_of_poisoned (s := e) (r := r) (by rw [← he]; exact hpoison)
    obtain ⟨hanswered, hframe⟩ := h.answers e hports hmemory .poisoned []
    exact ⟨_, hexec hat rfl, hanswered, by rw [hframe, ← he]; rfl⟩

/-! ### QUERY (R23, R24) -/

theorem exec_queryByFingerprint (p : PortNo) (errs : List DramError) (s : State) :
    exec (.queryByFingerprint p errs) s = execQueryByFingerprint p errs s := rfl

theorem exec_queryByChunkId (p : PortNo) (errs : List DramError) (s : State) :
    exec (.queryByChunkId p errs) s = execQueryByChunkId p errs s := rfl

theorem State.onQuery_takes (h : s.Takes p r 0x0E) {k : Nat} (hk : byteAt r 4 = k) (body : CommandRecord → State → State) :
    s.onQuery p k body = .next (body r (s.popQueue p)) := by
  unfold State.onQuery
  simp [h.front, h.isAttached, h.kind_eq, hk]

/-- A selector that names neither is answered BAD_PARAM by the row of either (R195). -/
theorem State.onQuery_bad (h : s.Takes p r 0x0E) {k : Nat} (hk : k ≤ 1) (hbad : 2 ≤ byteAt r 4) (body : CommandRecord → State → State) :
    s.onQuery p k body = .next ((s.popQueue p).refuse p r .badParam) := by
  have hne : byteAt r 4 ≠ k := by omega
  unfold State.onQuery
  simp [h.front, h.isAttached, h.kind_eq, hne, hbad]

/-- A QUERY's answer with what it finds: the outcome, the result fields, and the state after the bucket's read. -/
def State.queried (s : State) (p : PortNo) (r : CommandRecord) (found : Outcome × List Field × State) : State :=
  (found.2.2.passCheck (s.popQueue p)).reply p r found.1 found.2.1

theorem exec_queryByFingerprint_of_takes (h : s.Takes p r 0x0E) (errs : List DramError) (hk : byteAt r 4 = 0) :
    exec (.queryByFingerprint p errs) s = .next (s.queried p r (((s.popQueue p).arise errs).queryFingerprint (recFingerprint r))) := by
  rw [exec_queryByFingerprint, execQueryByFingerprint, State.onQuery_takes h hk]
  rfl

theorem exec_queryByChunkId_of_takes (h : s.Takes p r 0x0E) (errs : List DramError) (hk : byteAt r 4 = 1) :
    exec (.queryByChunkId p errs) s = .next (s.queried p r (((s.popQueue p).arise errs).queryId (recChunkId r))) := by
  rw [exec_queryByChunkId, execQueryByChunkId, State.onQuery_takes h hk]
  rfl

/-- A QUERY whose read changes nothing is answered with what it finds, and changes nothing. -/
theorem State.Takes.queried (h : s.Takes p r 0x0E) (errs : List DramError) {found : Outcome × List Field × State} {o : Outcome}
    {fs : List Field} (hf : found = (o, fs, (s.popQueue p).arise errs)) :
    s.Answered (s.queried p r found) p r o fs ∧
      s.queried p r found =
        { s with ports := (s.queried p r found).ports, memory := (s.queried p r found).memory, damage := s.damage ++ errs } := by
  have heq : s.queried p r found = ((s.popQueue p).arise errs).reply p r o fs := by
    rw [hf, State.queried]
    dsimp only
    rw [State.passCheck_of_same (by rfl)]
  obtain ⟨hanswered, hframe⟩ := h.answers ((s.popQueue p).arise errs) rfl rfl o fs
  rw [heq]
  exact ⟨hanswered, hframe.trans rfl⟩

section Reads

variable {b : Nat} {i : Fin 16}

theorem State.queryFingerprint_of_first {fp : List Byte} {x : Entry} (hread : s.readBucket (bucketOf fp) = (false, s))
    (hfirst : (s.bucket (bucketOf fp)).FirstWith fp i x) :
    s.queryFingerprint fp = (.ok, x.snapshot (idIn (bucketOf fp) (s.bucket (bucketOf fp)) i) s.epoch, s) := by
  unfold State.queryFingerprint
  simp only [hread, findFingerprint_first hfirst]

theorem State.queryFingerprint_of_lacks {fp : List Byte} (hread : s.readBucket (bucketOf fp) = (false, s))
    (hlacks : (s.bucket (bucketOf fp)).Lacks fp) : s.queryFingerprint fp = (.unknown, [], s) := by
  unfold State.queryFingerprint
  simp only [hread, findFingerprint_lacks hlacks]

theorem State.queryFingerprint_of_poisoned {fp : List Byte} (h : bucketOf fp ∈ s.poisonList) :
    s.queryFingerprint fp = (.poisoned, [], s) := by
  unfold State.queryFingerprint
  simp only [State.readBucket_poisoned h]

theorem State.queryId_of_entry {g : Nat} (hg : g < 16384) (hread : s.readBucket b = (false, s)) {x : Entry}
    (he : s.entry? { bucket := b, slot := i, generation := g } = some x) :
    s.queryId (b * 262144 + i.val * 16384 + g) = (.ok, x.snapshot (b * 262144 + i.val * 16384 + g) s.epoch, s) := by
  unfold State.queryId
  simp only [decodeId_of hg, hread, he]

theorem State.queryId_of_stale {g : Nat} (hg : g < 16384) (hread : s.readBucket b = (false, s))
    (he : s.entry? { bucket := b, slot := i, generation := g } = none) :
    s.queryId (b * 262144 + i.val * 16384 + g) = (.stale, [.num 4 (s.bucket b)[i].generation], s) := by
  unfold State.queryId
  simp only [decodeId_of hg, hread, he]

theorem State.queryId_of_poisoned {g : Nat} (hg : g < 16384) (h : b ∈ s.poisonList) :
    s.queryId (b * 262144 + i.val * 16384 + g) = (.poisoned, [], s) := by
  unfold State.queryId
  simp only [decodeId_of hg, State.readBucket_poisoned h]

end Reads

/-- Settles O25: the read leaves the state, and what it finds is one of the answers. -/
theorem queryReadsEntry : Obligations.QueryReadsEntry := by
  unfold Obligations.QueryReadsEntry
  intro s p r errs b i snapshot h hsnap
  have hread (hr : s.Readable errs b) : ((s.popQueue p).arise errs).readBucket b = (false, (s.popQueue p).arise errs) :=
    State.readBucket_arise (s := s.popQueue p) hr
  refine ⟨fun hbad => ⟨_, ?badFp, ?badId, h.refused _⟩, fun hk hb => ?byFingerprint, fun g hk hid hg => ?byId⟩
  case badFp => rw [exec_queryByFingerprint, execQueryByFingerprint, State.onQuery_bad h (by omega) hbad]
  case badId => rw [exec_queryByChunkId, execQueryByChunkId, State.onQuery_bad h (by omega) hbad]
  case byFingerprint =>
    subst hb
    have hfirst (x : Entry) (hr : s.Readable errs (bucketOf (recFingerprint r)))
        (hf : (s.bucket (bucketOf (recFingerprint r))).FirstWith (recFingerprint r) i x) :=
      h.queried errs (State.queryFingerprint_of_first (s := (s.popQueue p).arise errs) (hread hr) hf)
    have hlacks (hr : s.Readable errs (bucketOf (recFingerprint r)))
        (hf : (s.bucket (bucketOf (recFingerprint r))).Lacks (recFingerprint r)) :=
      h.queried errs (State.queryFingerprint_of_lacks (s := (s.popQueue p).arise errs) (hread hr) hf)
    have hpoisoned (hp : bucketOf (recFingerprint r) ∈ s.poisonList) :=
      h.queried errs (State.queryFingerprint_of_poisoned (s := (s.popQueue p).arise errs) (fp := recFingerprint r) hp)
    refine ⟨_, exec_queryByFingerprint_of_takes h errs hk, fun x hr hf => ?_, fun hr hf => (hlacks hr hf).1,
      fun hp => (hpoisoned hp).1, ?_⟩
    · rw [hsnap]
      exact (hfirst x hr hf).1
    · rintro (hr | hp)
      · cases hfind : findFingerprint (s.bucket (bucketOf (recFingerprint r))) (recFingerprint r) with
        | none =>
          have hq : ((s.popQueue p).arise errs).queryFingerprint (recFingerprint r) = (.unknown, [], (s.popQueue p).arise errs) := by
            unfold State.queryFingerprint
            simp only [hread hr, State.bucket_arise, State.bucket_popQueue, hfind]
          exact (h.queried errs hq).2
        | some y =>
          have hq : ((s.popQueue p).arise errs).queryFingerprint (recFingerprint r) =
              (.ok, y.2.snapshot (idIn (bucketOf (recFingerprint r)) (s.bucket (bucketOf (recFingerprint r))) y.1) s.epoch,
                (s.popQueue p).arise errs) := by
            unfold State.queryFingerprint
            simp only [hread hr, State.bucket_arise, State.bucket_popQueue, hfind]
            rfl
          exact (h.queried errs hq).2
      · exact (hpoisoned hp).2
  case byId =>
    have hid' : recChunkId r = b * 262144 + i.val * 16384 + g := hid
    have hentry (x : Entry) (hr : s.Readable errs b) (he : s.entry? { bucket := b, slot := i, generation := g } = some x) :=
      h.queried errs (State.queryId_of_entry (s := (s.popQueue p).arise errs) hg (hread hr) he)
    have hstale (hr : s.Readable errs b) (he : s.entry? { bucket := b, slot := i, generation := g } = none) :=
      h.queried errs (State.queryId_of_stale (s := (s.popQueue p).arise errs) hg (hread hr) he)
    have hpoisoned (hp : b ∈ s.poisonList) :=
      h.queried errs (State.queryId_of_poisoned (s := (s.popQueue p).arise errs) (i := i) hg hp)
    refine ⟨_, exec_queryByChunkId_of_takes h errs hk, ?_⟩
    rw [hid']
    refine ⟨fun x hr hx => ?_, fun hr hm => (hstale hr (State.entry?_of_mismatch hm)).1, fun hp => (hpoisoned hp).1, ?_⟩
    · rw [hsnap]
      exact (hentry x hr (State.entry?_of hx)).1
    · rintro (hr | hp)
      · cases he : s.entry? { bucket := b, slot := i, generation := g } with
        | none => exact (hstale hr he).2
        | some x => exact (hentry x hr he).2
      · exact (hpoisoned hp).2

end Commands

end Sys2Proof.Machine

/-! PROOFS. The epoch unit, the hold list and the reclaim scanner's commands (O27, O28, O29, O30, O33, O34). -/

namespace Sys2Proof.Machine

open Sys2Proof

variable {s : State} {p : PortNo} {r : CommandRecord}

/-! ### Freezes -/

theorem State.frozen_congr {t : State} (h : ∀ q, (t.port q).freeze = (s.port q).freeze) : t.frozen = s.frozen := by
  unfold State.frozen
  simp only [h]

theorem State.frozen_eq_nil_iff : s.frozen = [] ↔ ∀ q, (s.port q).freeze = false := by
  simp [State.frozen, allPorts]

@[simp] theorem State.frozen_popQueue : (s.popQueue p).frozen = s.frozen :=
  State.frozen_congr fun q => by
    obtain ⟨queue, hq⟩ := State.port_popQueue_eq (s := s) (p := p) q
    rw [hq]

@[simp] theorem State.frozen_flaggedAt (among : PortNo → Bool) (f : Flag) (c : Carry) : (s.flaggedAt among f c).frozen = s.frozen :=
  State.frozen_congr fun q => by rw [State.flaggedAt_port_eq]

theorem State.Alert.popQueue (h : s.Alert) (p : PortNo) : (s.popQueue p).Alert := by
  intro q ha
  obtain ⟨queue, hq⟩ := State.port_popQueue_eq (s := s) (p := p) q
  have hs : (s.port q).summary.isEmpty = false := h q (by rw [← ha]; unfold State.attached; rw [hq])
  rw [hq]
  exact hs

/-! ### Advances (R117, R120, R121, R123) -/

/-- What the epoch timer is started with: the interval in force, or nothing for an interval of 0 (R120). -/
def Policy.timer (q : Policy) : Timer := if q.interval = 0 then none else some (q.interval * 1000)

/-- The end of an advance (R121): its flag, the timer and the start request. -/
def State.announceAdvance (s : State) : State :=
  let t := (s.setFlagAll .epochAdvanced .none).startEpochTimer
  { t with startRequests := t.startRequests + 1 }

theorem State.advance_of_unstaged (h : s.stagedPolicy = none) :
    s.advance = State.announceAdvance { s with epoch := countTo 4294967295 s.epoch } := by
  unfold State.advance
  dsimp only
  rw [h]
  rfl

theorem State.advance_of_staged {q : Policy} (h : s.stagedPolicy = some q) :
    s.advance = (State.activatePolicy { s with epoch := countTo 4294967295 s.epoch } q).announceAdvance := by
  unfold State.advance
  dsimp only
  rw [h]
  rfl

theorem State.announceAdvance_loud (h : s.Alert) :
    s.announceAdvance = { s.flaggedAt (fun _ => true) .epochAdvanced .none with
      epochTimer := s.policy.timer, startRequests := s.startRequests + 1 } := by
  unfold State.announceAdvance
  rw [State.setFlagAll_loud _ _ h]
  rfl

/-- A policy becomes active without the entry into PASSTHROUGH when the count of poisonings stands below its threshold (R144). -/
theorem State.activatePolicy_below {q : Policy} (h : s.poisonCount < q.threshold) :
    s.activatePolicy q = { s with policy := q, stagedPolicy := none, epochTimer := q.timer } := by
  unfold State.activatePolicy
  dsimp only
  rw [if_neg]
  · rfl
  · rintro ⟨hle, -⟩
    have : q.threshold ≤ s.poisonCount := hle
    omega

/-- An advance that makes no ATTENTION record and finds no staged policy. -/
theorem State.advance_loud (hp : s.stagedPolicy = none) (ha : s.Alert) :
    s.advance = { s.flaggedAt (fun _ => true) .epochAdvanced .none with
      epoch := countTo 4294967295 s.epoch, epochTimer := s.policy.timer, startRequests := s.startRequests + 1 } := by
  rw [State.advance_of_unstaged hp, State.announceAdvance_loud (s := { s with epoch := countTo 4294967295 s.epoch }) ha]
  rfl

/-- An advance with which a staged policy becomes active, whose threshold the count of poisonings has not reached (R144). -/
theorem State.advance_staged {q : Policy} (hp : s.stagedPolicy = some q) (ha : s.Alert) (hc : s.poisonCount < q.threshold) :
    s.advance = { s.flaggedAt (fun _ => true) .epochAdvanced .none with
      epoch := countTo 4294967295 s.epoch, epochTimer := q.timer, startRequests := s.startRequests + 1, policy := q
      stagedPolicy := none } := by
  let t : State := { s with epoch := countTo 4294967295 s.epoch }
  have hactive : t.activatePolicy q = { t with policy := q, stagedPolicy := none, epochTimer := q.timer } :=
    State.activatePolicy_below hc
  rw [State.advance_of_staged hp, hactive,
    State.announceAdvance_loud (s := { t with policy := q, stagedPolicy := none, epochTimer := q.timer }) ha]
  rfl

theorem State.requestAdvance_of_free (h : s.frozen = []) :
    s.requestAdvance = (if s.epoch = 4294967295 then .atLimit else .advanced, s.advance) := by
  unfold State.requestAdvance
  rw [if_pos h]
  rfl

theorem State.requestAdvance_of_frozen (h : s.frozen ≠ []) (hp : s.advancePending = false) :
    s.requestAdvance = (.held, { s with advancePending := true }) := by
  unfold State.requestAdvance
  rw [if_neg h, if_neg (by simp [hp])]

theorem State.requestAdvance_of_pending (h : s.frozen ≠ []) (hp : s.advancePending = true) :
    s.requestAdvance = (.absorbed, { s with absorbed := countTo 4294967295 s.absorbed }) := by
  unfold State.requestAdvance
  rw [if_neg h, if_pos hp]
  rfl

/-! ### EPOCH_ADVANCE (R119) -/

theorem exec_epochAdvance (p : PortNo) (errs : List DramError) (s : State) :
    exec (.epochAdvance p errs) s = execEpochAdvance p errs s := rfl

theorem exec_epochAdvance_of_no_trigger (h : s.Takes p r 0x0F) (errs : List DramError) (ht : s.policy.triggers.command = false) :
    exec (.epochAdvance p errs) s = .next ((s.popQueue p).refuse p r .refusedState) := by
  rw [exec_epochAdvance, execEpochAdvance, State.onCommand_takes h, State.popQueue_policy, ht]
  rfl

theorem exec_epochAdvance_of_trigger (h : s.Takes p r 0x0F) (errs : List DramError) (ht : s.policy.triggers.command = true)
    {d : Disposition} {t : State} (hreq : ((s.popQueue p).arise errs).requestAdvance = (d, t)) :
    exec (.epochAdvance p errs) s = .next (t.reply p r .ok (.num 1 d.code :: t.epochFields)) := by
  rw [exec_epochAdvance, execEpochAdvance, State.onCommand_takes h, State.popQueue_policy, if_pos ht]
  dsimp only
  rw [hreq]

/-- Settles O27: with no port frozen the request is an advance, which sets its flag at every attached port. -/
theorem epochAdvanceRaisesEpoch : Obligations.EpochAdvanceRaisesEpoch := by
  unfold Obligations.EpochAdvanceRaisesEpoch
  intro s p r errs h
  refine ⟨fun ht => ⟨_, exec_epochAdvance_of_no_trigger h errs ht, h.refused _⟩, fun e d ht hfree hstaged halert hlimit => ?_⟩
  have hfrozen : ((s.popQueue p).arise errs).frozen = [] :=
    (State.frozen_popQueue (s := s) (p := p)).trans (State.frozen_eq_nil_iff.mpr hfree)
  have hadvance := State.advance_loud (s := (s.popQueue p).arise errs) hstaged (halert.popQueue p)
  have hreq := State.requestAdvance_of_free hfrozen
  rw [hadvance] at hreq
  have hepoch : countTo 4294967295 s.epoch = e := by unfold countTo; split <;> omega
  have hcode : (if s.epoch = 4294967295 then Disposition.atLimit else .advanced).code = d := by
    rcases hlimit with ⟨hlt, -, rfl⟩ | ⟨heq, -, rfl⟩
    · rw [if_neg (by omega)]; rfl
    · rw [if_pos heq]; rfl
  refine ⟨_, exec_epochAdvance_of_trigger h errs ht hreq, ?_⟩
  generalize hu : ({ ((s.popQueue p).arise errs).flaggedAt (fun _ => true) .epochAdvanced .none with
    epoch := countTo 4294967295 ((s.popQueue p).arise errs).epoch
    epochTimer := ((s.popQueue p).arise errs).policy.timer
    startRequests := ((s.popQueue p).arise errs).startRequests + 1 } : State) = u
  have hfields : (.num 1 (if s.epoch = 4294967295 then Disposition.atLimit else .advanced).code :: u.epochFields : List Field) =
      [.num 1 d, .num 4 e, .num 1 (bit s.advancePending), .num 1 0, .num 4 s.absorbed] := by
    have hnone : u.frozen = [] := by
      rw [← hu]
      exact (State.frozen_flaggedAt (s := (s.popQueue p).arise errs) (fun _ => true) .epochAdvanced .none).trans hfrozen
    rw [State.epochFields, hnone, hcode, ← hepoch, ← hu]
    rfl
  obtain ⟨hanswered, hframe⟩ := h.answers_flagged (fun _ => true) .epochAdvanced .none u
    (fun q => by rw [← hu]; rfl) (by rw [← hu]; rfl) .ok
    [.num 1 d, .num 4 e, .num 1 (bit s.advancePending), .num 1 0, .num 4 s.absorbed]
  rw [show ((s.popQueue p).arise errs).epoch = s.epoch from rfl, hfields]
  refine ⟨hanswered, ?_⟩
  rw [hframe, ← hu, ← hepoch]
  rfl

/-! ### EPOCH_FREEZE and EPOCH_THAW (R122, R124) -/

theorem exec_epochFreeze (p : PortNo) (s : State) : exec (.epochFreeze p) s = execEpochFreeze p s := rfl

theorem exec_epochThaw (p : PortNo) (errs : List DramError) (s : State) : exec (.epochThaw p errs) s = execEpochThaw p errs s := rfl

/-- Setting or clearing a freeze changes nothing that a ring depends on. -/
theorem ringNeutral_freeze (b : Bool) : RingNeutral fun q => { q with freeze := b } where
  state _ := rfl
  ring _ := rfl
  producer _ := rfl
  consumer _ := rfl
  waiting _ := rfl
  pass _ := rfl
  commutes q := by
    obtain ⟨_, _, _, ring⟩ := q
    cases ring <;> rfl

theorem State.frozen_modPort (b : Bool) :
    (s.modPort p fun q => { q with freeze := b }).frozen = allPorts.filter fun q => if q = p then b else (s.port q).freeze := by
  unfold State.frozen
  congr 1
  funext q
  by_cases hq : q = p
  · subst hq; rw [State.port_modPort, if_pos rfl]
  · rw [State.port_modPort_ne _ _ _ hq, if_neg hq]

theorem exec_epochFreeze_of_takes (h : s.Takes p r 0x10) :
    exec (.epochFreeze p) s = .next (((s.popQueue p).modPort p fun q => { q with freeze := true }).reply p r .ok
      ((s.popQueue p).modPort p fun q => { q with freeze := true }).epochFields) := by
  rw [exec_epochFreeze, execEpochFreeze, State.onCommand_takes h]

theorem exec_epochThaw_of_takes (h : s.Takes p r 0x11) (errs : List DramError) :
    exec (.epochThaw p errs) s = .next ((((s.popQueue p).arise errs).clearFreeze p).reply p r .ok
      (((s.popQueue p).arise errs).clearFreeze p).epochFields) := by
  rw [exec_epochThaw, execEpochThaw, State.onCommand_takes h]

/-- Settles O28: a freeze changes the port unit alone, and while one stands the request for an advance is held or absorbed. -/
theorem freezeHoldsAdvances : Obligations.FreezeHoldsAdvances := by
  unfold Obligations.FreezeHoldsAdvances
  intro s p r errs
  refine ⟨fun h => ?freeze, fun frozen h ht hfrozen hne => ?advance⟩
  case freeze =>
    have hfields : ((s.popQueue p).modPort p fun q => { q with freeze := true }).epochFields =
        [.num 4 s.epoch, .num 1 (bit s.advancePending),
          .num 1 (maskOf ((allPorts.filter fun q => decide (q = p) || (s.port q).freeze).map Fin.val)), .num 4 s.absorbed] := by
      have : ((s.popQueue p).modPort p fun q => { q with freeze := true }).frozen =
          allPorts.filter fun q => decide (q = p) || (s.port q).freeze := by
        rw [State.frozen_modPort]
        congr 1
        funext q
        by_cases hq : q = p
        · simp [hq]
        · rw [if_neg hq, State.port_popQueue_ne _ _ hq]; simp [hq]
      rw [State.epochFields, this]
      rfl
    obtain ⟨hanswered, hframe⟩ := h.answers_change (ringNeutral_freeze true) .ok
      ((s.popQueue p).modPort p fun q => { q with freeze := true }).epochFields
    exact ⟨_, exec_epochFreeze_of_takes h, hframe, hfields ▸ hanswered⟩
  case advance =>
    have hstands : ((s.popQueue p).arise errs).frozen = frozen :=
      (State.frozen_popQueue (s := s) (p := p)).trans hfrozen.symm
    have hfields (u : State) (hu : u.frozen = frozen) : u.epochFields =
        [.num 4 u.epoch, .num 1 (bit u.advancePending), .num 1 (maskOf (frozen.map Fin.val)), .num 4 u.absorbed] := by
      rw [State.epochFields, hu]
    refine ⟨fun hp => ?held, fun k hp hk => ?absorbed⟩
    case held =>
      have hreq := State.requestAdvance_of_frozen (s := (s.popQueue p).arise errs) (hstands ▸ hne) hp
      obtain ⟨hanswered, hframe⟩ := h.answers { (s.popQueue p).arise errs with advancePending := true } rfl rfl .ok
        [.num 1 2, .num 4 s.epoch, .num 1 1, .num 1 (maskOf (frozen.map Fin.val)), .num 4 s.absorbed]
      refine ⟨_, exec_epochAdvance_of_trigger h errs ht hreq, ?_⟩
      rw [hfields _ (by exact hstands)]
      exact ⟨hanswered, hframe.trans rfl⟩
    case absorbed =>
      have hreq := State.requestAdvance_of_pending (s := (s.popQueue p).arise errs) (hstands ▸ hne) hp
      have hcount : countTo 4294967295 ((s.popQueue p).arise errs).absorbed = k := hk.symm
      rw [hcount] at hreq
      obtain ⟨hanswered, hframe⟩ := h.answers { (s.popQueue p).arise errs with absorbed := k } rfl rfl .ok
        [.num 1 3, .num 4 s.epoch, .num 1 1, .num 1 (maskOf (frozen.map Fin.val)), .num 4 k]
      refine ⟨_, exec_epochAdvance_of_trigger h errs ht hreq, ?_⟩
      have hfields' : (State.epochFields { (s.popQueue p).arise errs with absorbed := k }) =
          [.num 4 s.epoch, .num 1 1, .num 1 (maskOf (frozen.map Fin.val)), .num 4 k] := by
        rw [hfields _ (by exact hstands)]
        have : ((s.popQueue p).arise errs).advancePending = true := hp
        rw [this]
        rfl
      rw [hfields']
      exact ⟨hanswered, hframe.trans rfl⟩

/-- A thaw that was not the last, or finds no advance held, clears the port's freeze alone (R124). -/
theorem State.clearFreeze_of_no_advance
    (h : (s.port p).freeze = false ∨ (s.modPort p fun q => { q with freeze := false }).frozen ≠ [] ∨ s.advancePending = false) :
    s.clearFreeze p = s.modPort p fun q => { q with freeze := false } := by
  unfold State.clearFreeze
  rw [if_neg]
  rintro ⟨hf, hn, ha⟩
  rcases h with h | h | h
  · rw [hf] at h; cases h
  · exact h hn
  · rw [State.modPort_advancePending, h] at ha; cases ha

/-- The last thaw takes the advance that is held (R124). -/
theorem State.clearFreeze_of_last (hf : (s.port p).freeze = true)
    (hn : (s.modPort p fun q => { q with freeze := false }).frozen = []) (ha : s.advancePending = true) :
    s.clearFreeze p = State.advance { s.modPort p fun q => { q with freeze := false } with advancePending := false } := by
  unfold State.clearFreeze
  rw [if_pos ⟨hf, hn, ha⟩]

/-- Settles O29: the thaw clears the freeze, and the last one is an advance as well. -/
theorem lastThawTakesHeldAdvance : Obligations.LastThawTakesHeldAdvance := by
  unfold Obligations.LastThawTakesHeldAdvance
  intro s p r errs h
  generalize hu : ((s.popQueue p).arise errs).modPort p (fun q => { q with freeze := false }) = u
  have hport : u.port p = { (s.popQueue p).port p with freeze := false } := by rw [← hu, State.port_modPort]; rfl
  have hother (q : PortNo) (hq : q ≠ p) : u.port q = s.port q := by
    rw [← hu, State.port_modPort_ne _ _ _ hq]
    exact State.port_popQueue_ne _ _ hq
  have hstands : u.frozen = allPorts.filter fun q => decide (q ≠ p) && (s.port q).freeze := by
    rw [← hu, State.frozen_modPort]
    congr 1
    funext q
    by_cases hq : q = p
    · simp [hq]
    · rw [if_neg hq, State.port_arise, State.port_popQueue_ne _ _ hq]; simp [hq]
  have hfreeze : ((s.popQueue p).port p).freeze = (s.port p).freeze := by rw [State.port_popQueue]
  refine ⟨fun frozen hfrozen hno => ?cleared, fun hlast hothers hpending hepoch hstaged halert => ?advance⟩
  case cleared =>
    have hclear : ((s.popQueue p).arise errs).clearFreeze p = u := by
      rw [← hu]
      refine State.clearFreeze_of_no_advance (hno.imp (fun h => hfreeze.trans h) (Or.imp (fun hne => ?_) id))
      rw [hu, hstands, ← hfrozen]
      exact hne
    have hfields : u.epochFields = [.num 4 s.epoch, .num 1 (bit s.advancePending), .num 1 (maskOf (frozen.map Fin.val)),
        .num 4 s.absorbed] := by
      rw [State.epochFields, hstands, ← hfrozen, ← hu]
      rfl
    obtain ⟨hanswered, hdiscarded⟩ := h.answered (ringNeutral_freeze false) hport hother (by rw [← hu]; rfl) .ok
      [.num 4 s.epoch, .num 1 (bit s.advancePending), .num 1 (maskOf (frozen.map Fin.val)), .num 4 s.absorbed]
    refine ⟨_, exec_epochThaw_of_takes h errs, ?_⟩
    rw [hclear, hfields]
    have hframe := u.reply_frame p r .ok
      [.num 4 s.epoch, .num 1 (bit s.advancePending), .num 1 (maskOf (frozen.map Fin.val)), .num 4 s.absorbed]
    rw [hdiscarded] at hframe
    exact ⟨hanswered, by rw [hframe, ← hu]; rfl⟩
  case advance =>
    have hnone : u.frozen = [] := by
      rw [hstands, List.filter_eq_nil_iff]
      intro q _
      by_cases hq : q = p
      · simp [hq]
      · simp [hothers q hq]
    have halertu : u.Alert := by
      intro q hatt
      by_cases hq : q = p
      · subst hq
        rw [hport]
        have hsum : ((s.popQueue q).port q).summary.isEmpty = false := by
          refine halert.popQueue q q ?_
          rw [← hatt, State.attached, State.attached, hport]
        exact hsum
      · rw [hother q hq]
        refine halert q ?_
        rw [← hatt, State.attached, State.attached, hother q hq]
    have hclear : ((s.popQueue p).arise errs).clearFreeze p =
        { u.flaggedAt (fun _ => true) .epochAdvanced .none with
          epoch := s.epoch + 1, epochTimer := s.policy.timer, startRequests := s.startRequests + 1, advancePending := false } := by
      rw [State.clearFreeze_of_last (s := (s.popQueue p).arise errs) (hfreeze.trans hlast) (by rw [hu]; exact hnone) hpending, hu,
        State.advance_loud (s := { u with advancePending := false }) (by rw [← hu]; exact hstaged) halertu]
      have hcount : countTo 4294967295 s.epoch = s.epoch + 1 := if_pos hepoch
      rw [← hu, ← hcount]
      rfl
    generalize hv : ({ u.flaggedAt (fun _ => true) .epochAdvanced .none with
      epoch := s.epoch + 1, epochTimer := s.policy.timer, startRequests := s.startRequests + 1
      advancePending := false } : State) = v at hclear
    have hflagged (q : PortNo) : v.port q = (u.port q).flagged .epochAdvanced .none := by
      rw [← hv]
      exact State.flaggedAt_port (s := u) (fun _ => true) _ _ q
    have hfields : v.epochFields = [.num 4 (s.epoch + 1), .num 1 0, .num 1 0, .num 4 s.absorbed] := by
      have : v.frozen = [] := by
        rw [← hv]
        exact (State.frozen_flaggedAt (s := u) (fun _ => true) .epochAdvanced .none).trans hnone
      rw [State.epochFields, this, ← hv, ← hu]
      rfl
    have hmemory : v.memory = s.memory := by rw [← hv, ← hu]; rfl
    have hunfrozen (x : Port) : ({ x with freeze := false } : Port).flagged .epochAdvanced .none =
        { x.flagged .epochAdvanced .none with freeze := false } := by
      by_cases hx : x.state = .attached
      · simp only [Port.flagged, hx, if_true]
      · simp only [Port.flagged, hx, if_false]
    have hportv : v.port p =
        { ((s.flaggedAt (fun _ => true) .epochAdvanced .none).popQueue p).port p with freeze := false } := by
      rw [hflagged, hport, ← State.port_flaggedAt_popQueue, State.flaggedAt_port, if_pos rfl, hunfrozen]
    have hotherv (q : PortNo) (hq : q ≠ p) : v.port q = (s.flaggedAt (fun _ => true) .epochAdvanced .none).port q := by
      rw [hflagged, hother q hq, State.flaggedAt_port, if_pos rfl]
    obtain ⟨hanswered, hdiscarded⟩ := (h.flaggedAt (fun _ => true) .epochAdvanced .none).answered (ringNeutral_freeze false)
      hportv hotherv (by exact hmemory) .ok [.num 4 (s.epoch + 1), .num 1 0, .num 1 0, .num 4 s.absorbed]
    refine ⟨_, exec_epochThaw_of_takes h errs, ?_⟩
    rw [hclear, hfields]
    have hframe := v.reply_frame p r .ok [.num 4 (s.epoch + 1), .num 1 0, .num 1 0, .num 4 s.absorbed]
    rw [hdiscarded] at hframe
    exact ⟨hanswered, by rw [hframe, ← hv, ← hu]; rfl⟩

/-! ### The epoch timer and pass-end requests (R120, R136) -/

theorem exec_epochTimerExpiry (errs : List DramError) (s : State) : exec (.epochTimerExpiry errs) s = execEpochTimerExpiry errs s := rfl

theorem exec_sweepEndRequest (errs : List DramError) (s : State) : exec (.sweepEndRequest errs) s = execSweepEndRequest errs s := rfl

theorem exec_epochTimerExpiry_of_trigger (errs : List DramError) (h : s.epochTimer = some 0) (ht : s.policy.triggers.timer = true) :
    exec (.epochTimerExpiry errs) s = .next (s.arise errs).requestAdvance.2.startEpochTimer := by
  have ht' : (s.arise errs).policy.triggers.timer = true := ht
  rw [exec_epochTimerExpiry, execEpochTimerExpiry, State.onEvent, if_pos (decide_eq_true h)]
  dsimp only
  rw [if_pos ht']

theorem exec_epochTimerExpiry_of_no_trigger (errs : List DramError) (h : s.epochTimer = some 0)
    (ht : s.policy.triggers.timer = false) :
    exec (.epochTimerExpiry errs) s = .next (s.arise errs).startEpochTimer := by
  have ht' : ¬(s.arise errs).policy.triggers.timer = true := by rw [Bool.not_eq_true]; exact ht
  rw [exec_epochTimerExpiry, execEpochTimerExpiry, State.onEvent, if_pos (decide_eq_true h)]
  dsimp only
  rw [if_neg ht']

theorem exec_sweepEndRequest_of_made (errs : List DramError) (h : 0 < s.sweepEndRequests) :
    exec (.sweepEndRequest errs) s =
      .next (State.requestAdvance { s.arise errs with sweepEndRequests := s.sweepEndRequests - 1 }).2 := by
  rw [exec_sweepEndRequest, execSweepEndRequest, State.onEvent, if_pos (decide_eq_true h)]
  rfl

/-- Settles O30: both are requests for an advance, and the timer's expiry restarts the timer after it. -/
theorem timerAndPassEndRequestAdvances : Obligations.TimerAndPassEndRequestAdvances := by
  unfold Obligations.TimerAndPassEndRequestAdvances
  refine ⟨fun s errs c base timer htimer hc => ?requests, fun s errs hz ht => ?restart, fun s errs pol hmade hfree hstaged halert
    hepoch hbelow => ?staged⟩
  case requests =>
    have hfrozen (h : ∃ q, (s.port q).freeze = true) : s.frozen ≠ [] := by
      obtain ⟨q, hq⟩ := h
      rw [Ne, State.frozen_eq_nil_iff]
      intro hall
      rw [hall q] at hq
      cases hq
    have htimer' : s.policy.timer = timer := htimer.symm
    rcases hc with ⟨rfl, hz, rfl, ht⟩ | ⟨rfl, hmade, rfl⟩
    · rw [exec_epochTimerExpiry_of_trigger errs hz ht]
      let t := s.arise errs
      refine ⟨fun hfree hstaged halert => ?_, fun hf hp => ?_, fun hf hp => ?_⟩
      · rw [State.requestAdvance_of_free (s := t) (State.frozen_eq_nil_iff.mpr hfree), State.advance_loud (s := t) hstaged halert,
          ← htimer']
        rfl
      · rw [State.requestAdvance_of_frozen (s := t) (hfrozen hf) hp, ← htimer']
        rfl
      · rw [State.requestAdvance_of_pending (s := t) (hfrozen hf) hp, ← htimer']
        rfl
    · rw [exec_sweepEndRequest_of_made errs hmade]
      let t : State := { s.arise errs with sweepEndRequests := s.sweepEndRequests - 1 }
      refine ⟨fun hfree hstaged halert => ?_, fun hf hp => ?_, fun hf hp => ?_⟩
      · rw [State.requestAdvance_of_free (s := t) (State.frozen_eq_nil_iff.mpr hfree), State.advance_loud (s := t) hstaged halert,
          ← htimer']
        rfl
      · rw [State.requestAdvance_of_frozen (s := t) (hfrozen hf) hp]
        rfl
      · rw [State.requestAdvance_of_pending (s := t) (hfrozen hf) hp]
        rfl
  case restart =>
    rw [exec_epochTimerExpiry_of_no_trigger errs hz ht]
    rfl
  case staged =>
    have hcount : countTo 4294967295 s.epoch = s.epoch + 1 := if_pos hepoch
    let t : State := { s.arise errs with sweepEndRequests := s.sweepEndRequests - 1 }
    rw [exec_sweepEndRequest_of_made errs hmade, State.requestAdvance_of_free (s := t) (State.frozen_eq_nil_iff.mpr hfree),
      State.advance_staged (s := t) hstaged halert hbelow, ← hcount]
    rfl

/-! ### HOLD_LIST (R128) -/

theorem exec_holdList (p : PortNo) (s : State) : exec (.holdList p) s = execHoldList p s := rfl

theorem exec_holdList_of_bad_start (h : s.Takes p r 0x14) (hbad : 16 ≤ byteAt r 4) :
    exec (.holdList p) s = .next ((s.popQueue p).refuse p r .badParam) := by
  rw [exec_holdList, execHoldList, State.onCommand_takes h]
  exact congrArg Host.Outcome.next (if_neg (by omega))

theorem exec_holdList_of_start (h : s.Takes p r 0x14) (hstart : byteAt r 4 ≤ 15) :
    exec (.holdList p) s = .next ((s.popQueue p).reply p r .ok (s.holdListFields (byteAt r 4))) := by
  rw [exec_holdList, execHoldList, State.onCommand_takes h]
  exact congrArg Host.Outcome.next (if_pos hstart)

/-- The fields of the place for the `k`-th hold of a page (R128). -/
def pagePlace (later : List (Fin 16 × Hold)) (k : Nat) : List Field := (later[k]?.map holdFields).getD noHoldFields

/-- The page's three places are the first three holds from the start number on. -/
theorem State.holdListFields_eq (start : Nat) {later : List (Fin 16 × Hold)}
    (hl : s.holdsHeld.filter (fun h => decide (start ≤ h.1.val)) = later) :
    s.holdListFields start =
      [.num 2 s.holdsHeld.length] ++ pagePlace later 0 ++ pagePlace later 1 ++ pagePlace later 2 ++
        [.num 1 (min 3 later.length), .num 1 (if later.length ≤ 3 then 16 else (later[2]?.map fun h => h.1.val + 1).getD 16)] := by
  have hrange : List.range 3 = [0, 1, 2] := rfl
  have hlast : (later.take 3).getLast? = if later.length ≤ 3 then (later.take 3).getLast? else later[2]? := by
    split
    · rfl
    · rw [List.getLast?_eq_getElem?, List.length_take, Nat.min_eq_left (by omega), List.getElem?_take_of_lt (by omega)]
  unfold State.holdListFields
  simp only [hl, hrange, List.flatMap_cons, List.flatMap_nil, List.append_nil, List.length_take, pagePlace]
  rw [List.getElem?_take_of_lt (by omega), List.getElem?_take_of_lt (by omega), List.getElem?_take_of_lt (by omega), hlast]
  by_cases hlen : later.length ≤ 3
  · simp [hlen]
  · simp [hlen]

/-- Settles O33: the page's places are read off the list of holds from the start number on. -/
theorem holdListPages : Obligations.HoldListPages := by
  unfold Obligations.HoldListPages
  intro s p r all later place h hall hlater hplace
  have hheld : s.holdsHeld = all := hall.symm
  have hfields := State.holdListFields_eq (s := s) (byteAt r 4) (later := later) (by rw [hheld, hlater])
  have hplaces (k : Nat) : pagePlace later k = place k := by
    rw [hplace, pagePlace]
    cases later[k]? <;> rfl
  rw [hplaces, hplaces, hplaces, hheld] at hfields
  refine ⟨fun hbad => ⟨_, exec_holdList_of_bad_start h hbad, h.refused _⟩, fun hstart hlen => ?last, fun third hstart hlen hthird => ?more⟩
  case last =>
    rw [Nat.min_eq_right hlen, if_pos hlen] at hfields
    obtain ⟨hanswered, hframe⟩ := h.answers (s.popQueue p) rfl rfl .ok (s.holdListFields (byteAt r 4))
    exact ⟨_, exec_holdList_of_start h hstart, hframe, hfields ▸ hanswered⟩
  case more =>
    rw [Nat.min_eq_left (by omega), if_neg (by omega), hthird] at hfields
    obtain ⟨hanswered, hframe⟩ := h.answers (s.popQueue p) rfl rfl .ok (s.holdListFields (byteAt r 4))
    exact ⟨_, exec_holdList_of_start h hstart, hframe, hfields ▸ hanswered⟩

/-! ### Sweeps (R131, R132, R137) -/

theorem exec_sweepStart (p : PortNo) (s : State) : exec (.sweepStart p) s = execSweepStart p s := rfl

theorem exec_sweepStop (p : PortNo) (s : State) : exec (.sweepStop p) s = execSweepStop p s := rfl

theorem exec_startRequest (s : State) : exec .startRequest s = execStartRequest s := rfl

theorem sweepModeOf?_eq {k : Nat} (h : k ≤ 1) : sweepModeOf? k = some (if k = 0 then .onePass else .continuous) :=
  match k, h with
  | 0, _ | 1, _ => rfl

theorem sweepModeOf?_eq_none {k : Nat} (h : 1 < k) : sweepModeOf? k = none :=
  match k, h with
  | _ + 2, _ => rfl

theorem originIsStart?_eq {k : Nat} (h : k ≤ 1) : originIsStart? k = some (decide (k = 0)) :=
  match k, h with
  | 0, _ | 1, _ => rfl

theorem originIsStart?_eq_none {k : Nat} (h : 1 < k) : originIsStart? k = none :=
  match k, h with
  | _ + 2, _ => rfl

theorem exec_sweepStart_of_bad_param (h : s.Takes p r 0x15) (hbad : 1 < byteAt r 4 ∨ 1 < byteAt r 5) :
    exec (.sweepStart p) s = .next ((s.popQueue p).refuse p r .badParam) := by
  rw [exec_sweepStart, execSweepStart, State.onCommand_takes h]
  rcases hbad with hm | ho
  · rw [sweepModeOf?_eq_none hm]
  · rw [originIsStart?_eq_none ho]
    cases sweepModeOf? (byteAt r 4) <;> rfl

/-- The checks of SWEEP_START after its parameters (R131). -/
def State.sweepChecks (s : State) : List (Bool × Outcome) :=
  [(decide (s.device = .service), .refusedState), (decide (s.scanner.state = .idle), .busy)]

theorem exec_sweepStart_of_failing (h : s.Takes p r 0x15) (hm : byteAt r 4 ≤ 1) (ho : byteAt r 5 ≤ 1) {o : Outcome}
    (hc : firstFailing s.sweepChecks = some o) : exec (.sweepStart p) s = .next ((s.popQueue p).refuse p r o) := by
  have hc' : firstFailing (s.popQueue p).sweepChecks = some o := hc
  rw [exec_sweepStart, execSweepStart, State.onCommand_takes h, sweepModeOf?_eq hm, originIsStart?_eq ho]
  dsimp only
  rw [← State.sweepChecks, hc']

/-- The scanner as SWEEP_START sets it going for a port (R131). -/
def Scanner.started (c : Scanner) (p : PortNo) (mode : SweepMode) (fromStart : Bool) : Scanner :=
  { c with
      state := .scanning, mode := mode, requester := some p, finishing := false
      cursor := if fromStart then 0 else c.cursor }

theorem exec_sweepStart_of_passing (h : s.Takes p r 0x15) (hm : byteAt r 4 ≤ 1) (ho : byteAt r 5 ≤ 1)
    (hc : firstFailing s.sweepChecks = none) :
    exec (.sweepStart p) s = .next (State.reply
      { s.popQueue p with
        scanner := s.scanner.started p (if byteAt r 4 = 0 then .onePass else .continuous) (decide (byteAt r 5 = 0)) }
      p r .accepted []) := by
  have hc' : firstFailing (s.popQueue p).sweepChecks = none := hc
  rw [exec_sweepStart, execSweepStart, State.onCommand_takes h, sweepModeOf?_eq hm, originIsStart?_eq ho]
  dsimp only
  rw [← State.sweepChecks, hc']
  rfl

theorem exec_sweepStop_of_other (h : s.Takes p r 0x16) (ho : ∃ q, s.scanner.requester = some q ∧ q ≠ p) :
    exec (.sweepStop p) s = .next ((s.popQueue p).refuse p r .notOwner) := by
  obtain ⟨q, hq, hne⟩ := ho
  rw [exec_sweepStop, execSweepStop, State.onCommand_takes h]
  exact congrArg Host.Outcome.next (if_neg (by simp [hq, hne]))

theorem exec_sweepStop_of_own (h : s.Takes p r 0x16) (ho : s.scanner.requester = none ∨ s.scanner.requester = some p) :
    exec (.sweepStop p) s = .next (State.reply { s.popQueue p with scanner := s.scanner.stop } p r .ok
      [.num 1 s.scanner.state.code, .num 4 s.scanner.cursor]) := by
  rw [exec_sweepStop, execSweepStop, State.onCommand_takes h]
  exact congrArg Host.Outcome.next (if_pos (by rcases ho with ho | ho <;> simp [ho]))

/-- The command that moves the scanner alone: its reply answers it. -/
theorem State.Takes.answers_scanner {kind : Nat} (h : s.Takes p r kind) (c : Scanner) (o : Outcome) (fs : List Field) {t : State}
    (ht : State.reply { s.popQueue p with scanner := c } p r o fs = t) :
    s.Answered t p r o fs ∧ t = { s with ports := t.ports, memory := t.memory, scanner := c } := by
  subst ht
  exact h.answers { s.popQueue p with scanner := c } rfl rfl o fs

/-- A start request taken at the scanner: a new pass when the scanner begins one, and otherwise nothing. -/
theorem exec_startRequest_of_made (h : 0 < s.startRequests) :
    exec .startRequest s = .next
      (if s.startsPass then
        { s with startRequests := s.startRequests - 1, scanner := { s.scanner with state := .scanning, finishing := false } }
      else { s with startRequests := s.startRequests - 1 }) := by
  rw [exec_startRequest, execStartRequest, State.onEvent, if_pos (decide_eq_true h)]
  rfl

/-- Settles O34: the checks of the two commands, and the four conditions under which a start request begins a pass. -/
theorem sweepsStartAndStop : Obligations.SweepsStartAndStop := by
  unfold Obligations.SweepsStartAndStop
  intro s p r
  refine ⟨fun h => ⟨?param, ?device, ?busy, ?started⟩, fun h => ⟨?other, ?stopped⟩, fun h => ⟨?pass, ?none⟩⟩
  case param => exact fun hbad => ⟨_, exec_sweepStart_of_bad_param h hbad, h.refused _⟩
  case device =>
    intro hm ho hd
    exact ⟨_, exec_sweepStart_of_failing h hm ho (by simp [State.sweepChecks, hd]), h.refused _⟩
  case busy =>
    intro hm ho hd hs
    exact ⟨_, exec_sweepStart_of_failing h hm ho (by simp [State.sweepChecks, hd, hs]), h.refused _⟩
  case started =>
    intro hm ho hd hs
    have hexec := exec_sweepStart_of_passing h hm ho (by simp [State.sweepChecks, hd, hs])
    obtain ⟨hanswered, hframe⟩ := h.answers_scanner
      (s.scanner.started p (if byteAt r 4 = 0 then .onePass else .continuous) (decide (byteAt r 5 = 0))) .accepted [] rfl
    refine ⟨_, hexec, hanswered, hframe.trans ?_⟩
    simp only [Scanner.started, decide_eq_true_eq]
  case other => exact fun ho => ⟨_, exec_sweepStop_of_other h ho, h.refused _⟩
  case stopped =>
    intro ho
    have hcode : s.scanner.state.code = if s.scanner.state = .idle then 0 else 1 := by
      cases s.scanner.state <;> rfl
    obtain ⟨hanswered, hframe⟩ := h.answers_scanner s.scanner.stop .ok [.num 1 s.scanner.state.code, .num 4 s.scanner.cursor] rfl
    exact ⟨_, exec_sweepStop_of_own h ho, hcode ▸ hanswered, hframe⟩
  case pass =>
    intro hidle hmode hdevice hrequester hattached
    have hstarts : s.startsPass = true := by simp [State.startsPass, hidle, hmode, hdevice, hrequester, hattached]
    rw [exec_startRequest_of_made h, if_pos hstarts]
  case none =>
    intro hno
    have hstarts : ¬s.startsPass = true := by
      rcases hno with hno | hno | hno | hno <;> simp [State.startsPass, hno]
    rw [exec_startRequest_of_made h, if_neg hstarts]

end Sys2Proof.Machine

/-! PROOFS. Consent: the checks of PROPOSE and CONSENT, proposals that open, apply and end, and WITHDRAW (O36, O37, O38, O39), and the
device reset (O40). -/

namespace Sys2Proof.Machine

open Sys2Proof

variable {s : State} {p : PortNo} {r : CommandRecord}

/-! ### Reading a proposal (R146, R195) -/

theorem triggersOf?_eq_none_iff {m : Nat} : triggersOf? m = none ↔ 7 < m := by
  unfold triggersOf?
  split <;> simp <;> omega

theorem recPolicy?_eq_none_iff : recPolicy? r = none ↔ 7 < byteAt r 9 := by
  rw [recPolicy?, Option.map_eq_none_iff, triggersOf?_eq_none_iff]

theorem slotOf?_eq_none_iff {n : Nat} : slotOf? n = none ↔ 3 < n := by
  unfold slotOf?
  split <;> simp <;> omega

/-- The codes of a proposal that name no value: its kind, a target that its kind has, a trigger set. -/
theorem recProposal?_eq_none_iff :
    recProposal? r = none ↔ 4 < byteAt r 4 ∨ byteAt r 4 < 2 ∧ 3 < byteAt r 5 ∨ byteAt r 4 = 2 ∧ 7 < byteAt r 9 := by
  unfold recProposal?
  split
  · next h => rw [Option.map_eq_none_iff, slotOf?_eq_none_iff, h]; omega
  · next h => rw [Option.map_eq_none_iff, slotOf?_eq_none_iff, h]; omega
  · next h => rw [Option.map_eq_none_iff, recPolicy?_eq_none_iff, h]; omega
  · next h => rw [h]; simp
  · next h => rw [h]; simp
  · next h0 h1 h2 h3 h4 =>
    have hkind : 4 < byteAt r 4 := by
      by_contra hle
      have hcases : byteAt r 4 = 0 ∨ byteAt r 4 = 1 ∨ byteAt r 4 = 2 ∨ byteAt r 4 = 3 ∨ byteAt r 4 = 4 := by omega
      rcases hcases with h | h | h | h | h
      · exact h0 h
      · exact h1 h
      · exact h2 h
      · exact h3 h
      · exact h4 h
    simp [hkind]

/-- A profile payload lies in the ranges of R28. -/
def ProfileInRange (r : CommandRecord) : Prop :=
  4 ≤ byteAt r 8 ∧ byteAt r 8 ≤ 64 ∧ 4 ≤ byteAt r 9 ∧ byteAt r 9 ≤ 20 ∧ byteAt r 8 ≤ numAt r 12 4 ∧ 8 ≤ numAt r 12 4 ∧
    numAt r 12 4 ≤ 65536 ∧ numAt r 12 4 ≤ numAt r 16 4 ∧ numAt r 16 4 ≤ 262144

/-- A policy payload lies in the ranges of R142. -/
def PolicyInRange (r : CommandRecord) : Prop :=
  numAt r 12 4 ≤ 86400 ∧ 1 ≤ numAt r 16 2 ∧ numAt r 16 2 ≤ 600 ∧ 50 ≤ numAt r 18 2 ∧ numAt r 18 2 ≤ 10000 ∧
    1 ≤ numAt r 20 2 ∧ numAt r 20 2 ≤ 3600 ∧ 1 ≤ byteAt r 10 ∧ byteAt r 10 ≤ 60 ∧ 1 ≤ byteAt r 11 ∧ byteAt r 11 ≤ 64

theorem recProfile_valid_iff : (recProfile r).valid = true ↔ ProfileInRange r := by
  have hseed : numAt r 20 4 ≤ 4294967295 := Nat.le_of_lt_succ (numAt_lt r 20 4)
  unfold Profile.valid ProfileInRange
  simp only [Bool.and_eq_true, decide_eq_true_eq]
  simp only [recProfile, Config.maxChunk, Config.max32]
  omega

theorem recPolicy?_valid_iff {q : Policy} (h : recPolicy? r = some q) : q.valid = true ↔ PolicyInRange r := by
  have hgrace : byteAt r 8 ≤ 255 := Nat.le_of_lt_succ (BitVec.isLt _)
  obtain ⟨t, -, rfl⟩ := Option.map_eq_some_iff.mp h
  unfold Policy.valid PolicyInRange
  simp only [Bool.and_eq_true, decide_eq_true_eq]
  omega

theorem recProposal?_valid_iff {b : ProposalBody} (h : recProposal? r = some b) :
    b.valid = true ↔ (byteAt r 4 = 0 → ProfileInRange r) ∧ (byteAt r 4 = 2 → PolicyInRange r) := by
  unfold recProposal? at h
  split at h
  · next h4 =>
    obtain ⟨i, -, rfl⟩ := Option.map_eq_some_iff.mp h
    simp [h4, ProposalBody.valid, recProfile_valid_iff]
  · next h4 =>
    obtain ⟨i, -, rfl⟩ := Option.map_eq_some_iff.mp h
    simp [h4, ProposalBody.valid]
  · next h4 =>
    obtain ⟨q, hq, rfl⟩ := Option.map_eq_some_iff.mp h
    simp [h4, ProposalBody.valid, recPolicy?_valid_iff hq]
  · next h4 => cases h; simp [h4, ProposalBody.valid]
  · next h4 => cases h; simp [h4, ProposalBody.valid]
  · cases h

/-! ### The checks of PROPOSE, CONSENT and WITHDRAW (R146, R148, R149) -/

theorem exec_propose (p : PortNo) (errs : List DramError) (s : State) : exec (.propose p errs) s = execPropose p errs s := rfl

theorem exec_consent (p : PortNo) (errs : List DramError) (s : State) : exec (.consent p errs) s = execConsent p errs s := rfl

theorem exec_withdraw (p : PortNo) (s : State) : exec (.withdraw p) s = execWithdraw p s := rfl

theorem exec_propose_of_unread (h : s.Takes p r 0x17) (errs : List DramError) (hb : recProposal? r = none) :
    exec (.propose p errs) s = .next ((s.popQueue p).refuse p r .badParam) := by
  rw [exec_propose, execPropose, State.onCommand_takes h, hb]

theorem exec_propose_of_failing (h : s.Takes p r 0x17) (errs : List DramError) {b : ProposalBody} (hb : recProposal? r = some b)
    {o : Outcome} (hc : firstFailing (s.proposeChecks b) = some o) :
    exec (.propose p errs) s = .next ((s.popQueue p).refuse p r o) := by
  have hc' : firstFailing ((s.popQueue p).proposeChecks b) = some o := hc
  rw [exec_propose, execPropose, State.onCommand_takes h, hb]
  dsimp only
  rw [hc']

theorem exec_consent_of_unread (h : s.Takes p r 0x18) (errs : List DramError) (hb : recProposal? r = none) :
    exec (.consent p errs) s = .next ((s.popQueue p).refuse p r .badParam) := by
  rw [exec_consent, execConsent, State.onCommand_takes h, hb]

theorem exec_consent_of_no_proposal (h : s.Takes p r 0x18) (errs : List DramError) {b : ProposalBody} (hb : recProposal? r = some b)
    (hq : s.proposal = none) :
    exec (.consent p errs) s =
      .next ((s.popQueue p).refuse p r (if s.lastEnded.map Ending.body = some b then .late else .unknown)) := by
  rw [exec_consent, execConsent, State.onCommand_takes h, hb]
  dsimp only
  rw [State.popQueue_proposal, hq, State.popQueue_lastEnded]

theorem exec_consent_of_not_required (h : s.Takes p r 0x18) (errs : List DramError) {b : ProposalBody} (hb : recProposal? r = some b)
    {q : Proposal} (hq : s.proposal = some q) (hp : p ∉ q.required) :
    exec (.consent p errs) s = .next ((s.popQueue p).refuse p r .notRequired) := by
  rw [exec_consent, execConsent, State.onCommand_takes h, hb]
  dsimp only
  rw [State.popQueue_proposal, hq]
  exact congrArg Host.Outcome.next (if_neg hp)

theorem exec_consent_of_required (h : s.Takes p r 0x18) (errs : List DramError) {b : ProposalBody} (hb : recProposal? r = some b)
    {q : Proposal} (hq : s.proposal = some q) (hp : p ∈ q.required) :
    exec (.consent p errs) s = .next (((s.popQueue p).arise errs).consentTo p r b q) := by
  rw [exec_consent, execConsent, State.onCommand_takes h, hb]
  dsimp only
  rw [State.popQueue_proposal, hq]
  exact congrArg Host.Outcome.next (if_pos hp)

theorem ProfileSlot.isEmpty_eq_true_iff {x : ProfileSlot} : x.isEmpty = true ↔ x = .empty := by
  cases x <;> simp [ProfileSlot.isEmpty]

/-- Settles O37: a record that names no proposal, and then the three checks of a PROPOSE in their order. -/
theorem proposeAndConsentAreRefused : Obligations.ProposeAndConsentAreRefused := by
  unfold Obligations.ProposeAndConsentAreRefused
  intro s p r errs
  refine ⟨fun h => ⟨?param, fun b hb => recProposal?_valid_iff hb, ?busy, ?target⟩, fun h => ⟨?unread, ?none, ?notRequired⟩⟩
  case param =>
    intro hbad
    cases hb : recProposal? r with
    | none => exact ⟨_, exec_propose_of_unread h errs hb, h.refused _⟩
    | some b =>
      have hread : ¬(4 < byteAt r 4 ∨ byteAt r 4 < 2 ∧ 3 < byteAt r 5 ∨ byteAt r 4 = 2 ∧ 7 < byteAt r 9) := by
        rw [← recProposal?_eq_none_iff, hb]
        exact Option.some_ne_none b
      have hvalid : b.valid = false := by
        rw [← Bool.not_eq_true, recProposal?_valid_iff hb]
        unfold ProfileInRange PolicyInRange
        rintro ⟨hprofile, hpolicy⟩
        omega
      exact ⟨_, exec_propose_of_failing h errs hb (by simp [State.proposeChecks, hvalid]), h.refused _⟩
  case busy =>
    intro b hb hv hq
    have hopen : s.proposal.isNone = false := by cases hs : s.proposal <;> simp_all
    exact ⟨_, exec_propose_of_failing h errs hb (by simp [State.proposeChecks, hv, hopen]), h.refused _⟩
  case target =>
    intro b hb hv hq htarget
    have hmay : s.mayPropose b = false := by
      rcases htarget with ⟨i, prof, rfl, hi⟩ | ⟨i, rfl, hi⟩ | ⟨rfl, hd⟩
      · rw [← Bool.not_eq_true, State.mayPropose, ProfileSlot.isEmpty_eq_true_iff]
        exact hi
      · rw [← Bool.not_eq_true, State.mayPropose, ProfileSlot.isActive_eq_true_iff]
        rintro ⟨prof, roll, k, heq⟩
        exact hi prof roll k heq
      · simp [State.mayPropose, hd]
    exact ⟨_, exec_propose_of_failing h errs hb (by simp [State.proposeChecks, hv, hq, hmay]), h.refused _⟩
  case unread => exact fun hbad => ⟨_, exec_consent_of_unread h errs (recProposal?_eq_none_iff.mpr hbad), h.refused _⟩
  case none => exact fun b hb hq => ⟨_, exec_consent_of_no_proposal h errs hb hq, h.refused _⟩
  case notRequired => exact fun b q hb hq hp => ⟨_, exec_consent_of_not_required h errs hb hq hp, h.refused _⟩

/-! ### The end of a proposal (R152) -/

/-- The ports that see CONSENT_ENDED: the proposer and the required ports (R152). -/
def Proposal.told (q : Proposal) : PortNo → Bool := fun k => decide (k = q.proposer ∨ k ∈ q.required)

theorem State.endProposal_eq {q : Proposal} (hq : s.proposal = some q) (o : ProposalOutcome) :
    s.endProposal o = State.setFlags { s with proposal := none, lastEnded := some { body := q.body, outcome := o } }
      (q.proposer :: q.required) .consentEnded (.ending { body := q.body, outcome := o }) := by
  unfold State.endProposal
  rw [hq]

/-- A proposal that ends where no ATTENTION record is made. -/
theorem State.endProposal_loud {q : Proposal} (hq : s.proposal = some q) (o : ProposalOutcome) (ha : s.Alert)
    (hn : q.required.Nodup) (hp : q.proposer ∉ q.required) :
    s.endProposal o = { s.flaggedAt q.told .consentEnded (.ending { body := q.body, outcome := o }) with
      proposal := none, lastEnded := some { body := q.body, outcome := o } } := by
  have htold : (fun k => decide (k ∈ q.proposer :: q.required)) = q.told := by
    funext k
    simp only [Proposal.told, List.mem_cons]
  rw [State.endProposal_eq hq, State.setFlags_loud (s := { s with proposal := none, lastEnded := _ }) _ _ ha (List.nodup_cons.mpr ⟨hp, hn⟩),
    htold]
  rfl

/-- The end of a proposal changes the port units, the rings, the open proposal and the last-ended record alone. -/
theorem State.endProposal_frame {q : Proposal} (hq : s.proposal = some q) (o : ProposalOutcome) :
    s.endProposal o = { s with
      ports := (s.endProposal o).ports, memory := (s.endProposal o).memory, proposal := none
      lastEnded := some { body := q.body, outcome := o } } := by
  rw [State.endProposal_eq hq]
  exact State.setFlags_frame _ _ _ _

/-- A completion at an ATTACHED port discards nothing: it is written, or stands in hand. -/
theorem State.complete_discarded_of_attached (h : s.attached p = true) (c : Completion) :
    (s.complete p c).discarded = s.discarded := by
  unfold State.complete
  rw [if_pos h]
  split
  · simp
  · rfl

/-! ### WITHDRAW (R149) -/

theorem exec_withdraw_of_none (h : s.Takes p r 0x19) (hq : s.proposal = none) :
    exec (.withdraw p) s = .next ((s.popQueue p).refuse p r .unknown) := by
  rw [exec_withdraw, execWithdraw, State.onCommand_takes h, State.popQueue_proposal, hq]

theorem exec_withdraw_of_other (h : s.Takes p r 0x19) {q : Proposal} (hq : s.proposal = some q) (hp : q.proposer ≠ p) :
    exec (.withdraw p) s = .next ((s.popQueue p).refuse p r .notOwner) := by
  rw [exec_withdraw, execWithdraw, State.onCommand_takes h, State.popQueue_proposal, hq]
  exact congrArg Host.Outcome.next (if_neg hp)

theorem exec_withdraw_of_own (h : s.Takes p r 0x19) {q : Proposal} (hq : s.proposal = some q) (hp : q.proposer = p) :
    exec (.withdraw p) s = .next (((s.popQueue p).endProposal .withdrawn).reply p r .ok []) := by
  rw [exec_withdraw, execWithdraw, State.onCommand_takes h, State.popQueue_proposal, hq]
  exact congrArg Host.Outcome.next (if_pos hp)

/-- Settles O39: the two checks, and the end of the proposal before the completion. -/
theorem withdrawEndsProposal : Obligations.WithdrawEndsProposal := by
  unfold Obligations.WithdrawEndsProposal
  intro s p r h
  refine ⟨fun hq => ⟨_, exec_withdraw_of_none h hq, h.refused _⟩, fun q hq hp => ⟨_, exec_withdraw_of_other h hq hp, h.refused _⟩,
    fun q hq hp => ⟨_, exec_withdraw_of_own h hq hp, ?frame, fun hn hmem halert => ?answered⟩⟩
  case frame =>
    have hattached : ((s.popQueue p).endProposal .withdrawn).attached p = true := by
      refine decide_eq_true (((State.keeps_endProposal (s.popQueue p) .withdrawn).service.ports p).attached ?_)
      rw [State.port_popQueue]
      exact h.state_eq
    have hframe := ((s.popQueue p).endProposal .withdrawn).reply_frame p r .ok []
    rw [State.reply, State.complete_discarded_of_attached hattached] at hframe
    rw [State.reply, hframe, State.endProposal_frame (s := s.popQueue p) hq]
    rfl
  case answered =>
    have hend := State.endProposal_loud (s := s.popQueue p) hq .withdrawn (halert.popQueue p) hn (by rwa [hp])
    rw [hend]
    have htold : q.told = fun k => decide (k = p ∨ k ∈ q.required) := by
      funext k
      rw [Proposal.told, hp]
    rw [htold]
    exact (h.answers_flagged _ .consentEnded (.ending { body := q.body, outcome := .withdrawn })
      { (s.popQueue p).flaggedAt (fun k => decide (k = p ∨ k ∈ q.required)) .consentEnded
          (.ending { body := q.body, outcome := .withdrawn }) with
        proposal := none, lastEnded := some { body := q.body, outcome := .withdrawn } }
      (fun _ => rfl) rfl .ok []).1

/-! ### A proposal that applies (R148, R153, R154) -/

/-- The state with what a proposal changes as `u` has it: the profile slots, the policy, the epoch timer and the device state. -/
def State.applied (t u : State) : State :=
  { t with
    slots := u.slots, stagedPolicy := u.stagedPolicy, policy := u.policy, epochTimer := u.epochTimer, device := u.device }

/-- At `s` a proposal of body `b` ends with outcome `o`, and its application turns `s` into `u`; so it does at a state that differs in
its port units, in the errors standing in stacked DRAM and in the open proposal. -/
structure State.AppliesAs (s : State) (b : ProposalBody) (o : ProposalOutcome) (u : State) : Prop where
  changes : u = s.applied u
  body : ∀ ports damage proposal,
    State.applyBody { s with ports := ports, damage := damage, proposal := proposal } b =
      (o, State.applied { s with ports := ports, damage := damage, proposal := proposal } u)

theorem State.appliesAs_profileInstall (i : Fin 4) (prof : Profile) :
    s.AppliesAs (.profileInstall i prof) .applied { s with slots := s.slots.set i (.active prof (rollFactor prof) 0) } :=
  ⟨rfl, fun _ _ _ => rfl⟩

theorem State.appliesAs_profileRetire (i : Fin 4) :
    s.AppliesAs (.profileRetire i) .applied { s with slots := s.slots.set i s.slots[i].retire } :=
  ⟨rfl, fun _ _ _ => rfl⟩

theorem State.appliesAs_policy_staged (q : Policy) (hd : s.device ≠ .rebuild) :
    s.AppliesAs (.policy q) .applied { s with stagedPolicy := some q } := by
  refine ⟨rfl, fun _ _ _ => ?_⟩
  unfold State.applyBody
  dsimp only
  split
  · next h => exact absurd h hd
  · rfl
  · rfl

theorem State.appliesAs_policy_active (q : Policy) (hd : s.device = .rebuild) (hc : s.poisonCount < q.threshold) :
    s.AppliesAs (.policy q) .applied { s with policy := q, stagedPolicy := none, epochTimer := q.timer } := by
  refine ⟨rfl, fun ports damage proposal => ?_⟩
  unfold State.applyBody
  dsimp only
  rw [hd]
  dsimp only
  rw [State.activatePolicy_below (s := { s with device := .rebuild, ports := ports, damage := damage, proposal := proposal }) hc]
  rfl

theorem State.appliesAs_serviceStart (hd : s.device = .rebuild) : s.AppliesAs .serviceStart .applied { s with device := .service } := by
  refine ⟨rfl, fun _ _ _ => ?_⟩
  unfold State.applyBody
  dsimp only
  rw [hd]
  rfl

theorem State.appliesAs_serviceStart_voided (hd : s.device ≠ .rebuild) : s.AppliesAs .serviceStart .voided s := by
  refine ⟨rfl, fun _ _ _ => ?_⟩
  unfold State.applyBody
  dsimp only
  split
  · next h => exact absurd h hd
  · rfl
  · rfl

theorem State.applyProposal_eq {q : Proposal} (hq : s.proposal = some q) {o : ProposalOutcome} {t : State}
    (hb : s.applyBody q.body = (o, t)) : s.applyProposal = t.endProposal o := by
  unfold State.applyProposal
  rw [hq]
  dsimp only
  rw [hb]

/-- What an answer says depends on the port units and the ring records before it. -/
theorem State.Answered.of_same {e t : State} {o : Outcome} {fs : List Field} {change : Port → Port}
    (h : e.Answered t p r o fs change) (hp : s.ports = e.ports) (hm : s.memory = e.memory) : s.Answered t p r o fs change := by
  have hport : s.port p = e.port p := by simp only [State.port, hp]
  have hsame := State.Wrote.of_same (s := s) h hp.symm hm.symm
  rw [← hport] at hsame
  exact hsame

/-- A command with which a proposal applies, and is answered: the flags of the ending make no ATTENTION record. -/
theorem State.Takes.answers_applied {kind : Nat} (h : s.Takes p r kind) (errs : List DramError) {q : Proposal} {o : ProposalOutcome}
    {u : State} (happ : s.AppliesAs q.body o u) (ha : s.Alert) (hn : q.required.Nodup) (hp : q.proposer ∉ q.required) {t : State}
    (ht : State.applyProposal { (s.popQueue p).arise errs with proposal := some q } = t) (fs : List Field) :
    t.endingFields = [.num 1 o.code] ∧
    (u.flaggedAt q.told .consentEnded (.ending { body := q.body, outcome := o })).Answered (t.reply p r .ok fs) p r .ok fs ∧
      t.reply p r .ok fs = { u with
        ports := (t.reply p r .ok fs).ports, memory := (t.reply p r .ok fs).memory, damage := s.damage ++ errs, proposal := none
        lastEnded := some { body := q.body, outcome := o } } := by
  have hbody := happ.body (s.popQueue p).ports (s.damage ++ errs) (some q)
  have hend := State.endProposal_loud
    (s := State.applied { s with ports := (s.popQueue p).ports, damage := s.damage ++ errs, proposal := some q } u) rfl o
    (ha.popQueue p) hn hp
  have happlied := State.applyProposal_eq (s := { (s.popQueue p).arise errs with proposal := some q }) rfl hbody
  rw [hend] at happlied
  rw [← ht, happlied, happ.changes]
  obtain ⟨hanswered, hframe⟩ := h.answers_flagged q.told .consentEnded (.ending { body := q.body, outcome := o })
    { (State.applied { s with ports := (s.popQueue p).ports, damage := s.damage ++ errs, proposal := some q } u).flaggedAt q.told
        .consentEnded (.ending { body := q.body, outcome := o }) with
      proposal := none, lastEnded := some { body := q.body, outcome := o } } (fun _ => rfl) rfl .ok fs
  exact ⟨rfl, hanswered.of_same rfl rfl, hframe⟩

/-! ### PROPOSE (R146, R147) -/

theorem State.attached_popQueue_other (q : PortNo) : (s.popQueue p).attached q = s.attached q := by
  obtain ⟨queue, hq⟩ := State.port_popQueue_eq (s := s) (p := p) q
  unfold State.attached
  rw [hq]

theorem State.openedProposal_popQueue (b : ProposalBody) : (s.popQueue p).openedProposal p b = s.openedProposal p b := by
  unfold State.openedProposal
  simp only [State.attached_popQueue_other, State.popQueue_policy]

theorem exec_propose_of_required (h : s.Takes p r 0x17) (errs : List DramError) {b : ProposalBody} (hb : recProposal? r = some b)
    (hc : firstFailing (s.proposeChecks b) = none) (hq : (s.openedProposal p b).required ≠ []) :
    exec (.propose p errs) s = .next
      ((State.setFlags { (s.popQueue p).arise errs with proposal := some (s.openedProposal p b) } (s.openedProposal p b).required
        .consentOpen .none).reply p r .ok
        [.num 1 (maskOf ((s.openedProposal p b).required.map Fin.val)), .num 4 (s.policy.consentWindow * 1000)]) := by
  have hc' : firstFailing ((s.popQueue p).proposeChecks b) = none := hc
  rw [exec_propose, execPropose, State.onCommand_takes h, hb]
  dsimp only
  rw [hc']
  dsimp only
  rw [State.openedProposal_popQueue, if_neg hq]
  rfl

theorem exec_propose_of_alone (h : s.Takes p r 0x17) (errs : List DramError) {b : ProposalBody} (hb : recProposal? r = some b)
    (hc : firstFailing (s.proposeChecks b) = none) (hq : (s.openedProposal p b).required = []) {t : State}
    (ht : State.applyProposal { (s.popQueue p).arise errs with proposal := some (s.openedProposal p b) } = t) :
    exec (.propose p errs) s = .next (t.reply p r .ok (.num 1 0 :: t.endingFields)) := by
  have hc' : firstFailing ((s.popQueue p).proposeChecks b) = none := hc
  rw [exec_propose, execPropose, State.onCommand_takes h, hb]
  dsimp only
  rw [hc']
  dsimp only
  rw [State.openedProposal_popQueue, if_pos hq, ht]

theorem State.proposeChecks_pass {b : ProposalBody} (hv : b.valid = true) (hq : s.proposal = none) (hm : s.mayPropose b = true) :
    firstFailing (s.proposeChecks b) = none := by
  simp [State.proposeChecks, hv, hq, hm]

/-- Settles O36: a proposal required of a port is opened, and one required of none applies. -/
theorem proposeOpensOrApplies : Obligations.ProposeOpensOrApplies := by
  unfold Obligations.ProposeOpensOrApplies
  intro s p r errs b others h hb hv hq hothers halert
  have hrequired : (s.openedProposal p b).required = others := hothers.symm
  refine ⟨fun hne hmay => ?opened, fun u hnone happlies => ?applied⟩
  case opened =>
    have hnodup : others.Nodup := hothers ▸ (List.nodup_finRange 4).filter _
    have hloud := State.setFlags_loud (s := { (s.popQueue p).arise errs with proposal := some (s.openedProposal p b) }) .consentOpen
      .none (halert.popQueue p) hnodup
    have hexec := exec_propose_of_required h errs hb (State.proposeChecks_pass hv hq hmay) (hrequired ▸ hne)
    rw [hrequired, hloud] at hexec
    obtain ⟨hanswered, hframe⟩ := h.answers_flagged (fun q => decide (q ∈ others)) .consentOpen .none
      (State.flaggedAt { (s.popQueue p).arise errs with proposal := some (s.openedProposal p b) } (fun q => decide (q ∈ others))
        .consentOpen .none) (fun _ => rfl) rfl .ok
      [.num 1 (maskOf (others.map Fin.val)), .num 4 (s.policy.consentWindow * 1000)]
    refine ⟨_, hexec, hanswered, hframe.trans ?_⟩
    have hproposal : s.openedProposal p b =
        { body := b, proposer := p, required := others, received := [], deadline := some (s.policy.consentWindow * 1000) } := by
      rw [← hrequired]; rfl
    rw [← hproposal]
    rfl
  case applied =>
    obtain ⟨hmay, happ⟩ : s.mayPropose b = true ∧ s.AppliesAs b .applied u := by
      rcases happlies with ⟨i, prof, rfl, hi, rfl⟩ | ⟨i, prof, roll, rfl, hi, rfl⟩ | ⟨i, prof, roll, k, rfl, hi, rfl⟩ |
        ⟨pol, rfl, hd, rfl⟩ | ⟨rfl, hd, rfl⟩
      · exact ⟨by rw [State.mayPropose, hi]; rfl, State.appliesAs_profileInstall i prof⟩
      · have happ := State.appliesAs_profileRetire (s := s) i
        rw [hi] at happ
        exact ⟨by rw [State.mayPropose, hi]; rfl, happ⟩
      · have happ := State.appliesAs_profileRetire (s := s) i
        rw [hi] at happ
        exact ⟨by rw [State.mayPropose, hi]; rfl, happ⟩
      · exact ⟨rfl, State.appliesAs_policy_staged pol (by simp [hd])⟩
      · exact ⟨decide_eq_true hd, State.appliesAs_serviceStart hd⟩
    have hreq : (s.openedProposal p b).required = [] := hrequired.trans hnone
    have htold : (s.openedProposal p b).told = fun q => decide (q = p) := by
      funext k
      rw [Proposal.told, hreq]
      simp [State.openedProposal]
    obtain ⟨hfields, hanswered, hframe⟩ := h.answers_applied errs (q := s.openedProposal p b) happ halert
      (by rw [hreq]; exact List.nodup_nil) (by rw [hreq]; exact List.not_mem_nil) rfl [.num 1 0, .num 1 0]
    have hexec := exec_propose_of_alone h errs hb (State.proposeChecks_pass hv hq hmay) hreq rfl
    rw [hfields] at hexec
    rw [htold] at hanswered
    exact ⟨_, hexec, hanswered, hframe⟩

end Sys2Proof.Machine

/-! PROOFS. CONSENT and the device reset (O38, O40). -/

namespace Sys2Proof.Machine

open Sys2Proof

variable {s : State} {p : PortNo} {r : CommandRecord}

/-! ### Marks of a summary (R182) -/

theorem Mark.raise_ne_clear (m : Mark) : m.raise ≠ .clear := by cases m <;> simp [Mark.raise]

theorem Summary.mark_raise (m : Summary) (f g : Flag) : (m.raise f).mark g = if g = f then (m.mark f).raise else m.mark g := by
  unfold Summary.mark Summary.raise
  by_cases h : g = f
  · subst h; simp
  · have hne : (f.place : Nat) ≠ g.place := fun he => h (Flag.place_injective (Fin.ext he)).symm
    simp [h, hne]

theorem Summary.mark_carry (m : Summary) (f g : Flag) (c : Carry) : (m.carry f c).mark g = m.mark g := by
  unfold Summary.mark
  rw [Summary.carry_marks]

theorem Port.mark_flagged (q : Port) (h : q.state = .attached) (f g : Flag) (c : Carry) :
    (q.flagged f c).summary.mark g = if g = f then (q.summary.mark f).raise else q.summary.mark g := by
  rw [Port.flagged, if_pos h, Summary.mark_carry, Summary.mark_raise]

/-- A flag set at an attached port is set in its summary. -/
theorem Port.mark_flagged_self (q : Port) (h : q.state = .attached) (f : Flag) (c : Carry) :
    (q.flagged f c).summary.mark f = (q.summary.mark f).raise := by rw [Port.mark_flagged q h, if_pos rfl]

theorem Port.mark_flagged_ne (q : Port) (h : q.state = .attached) {f g : Flag} (hg : g ≠ f) (c : Carry) :
    (q.flagged f c).summary.mark g = q.summary.mark g := by rw [Port.mark_flagged q h, if_neg hg]

/-! ### A device reset (R193) -/

/-- The port unit with what a device reset gives up there: its notices, and the writers it removes from the list (R193). -/
def Port.resetRecords (q : Port) : Port := { q with notices := [], waiting := q.waiting.filter fun w => !w.dropsAtReset }

/-- The state with the lanes, the settlement table, the notices and the index reset, before OCCUPANCY is set (R193 steps 1 to 4). -/
def State.resetTables (s : State) : State :=
  { s with
    lanes := Vector.replicate 64 Lane.free, lastGranted := 63
    orphanTimers := Vector.replicate 64 none, expired := Vector.replicate 64 false, table := [], turns := []
    ports := s.ports.map Port.resetRecords
    index := sparseMap Bucket.untouched (fun b v => resetBucket (s.lostAtReset b) v) s.index
    poisonList := [], poisonCount := 0, damage := s.damage.filter fun d => !isBucketPlace d.place }

theorem State.port_resetTables (q : PortNo) : s.resetTables.port q = (s.port q).resetRecords := by
  simp [State.port, State.resetTables]

theorem State.Alert.resetTables (h : s.Alert) : s.resetTables.Alert := by
  intro q hq
  rw [State.port_resetTables]
  refine h q ?_
  rw [State.attached, State.port_resetTables] at hq
  exact hq

theorem State.resetTables_of_no_settling (hs : s.settlings = []) : s.resetLanes.resetIndex = s.resetTables.changeOccupancy 0 := by
  have hself : ({ s with settlings := [] } : State) = s := by rw [← hs]
  have h : State.resetIndex (State.resetLanes { s with settlings := [] }) =
    (State.resetTables { s with settlings := [] }).changeOccupancy 0 := rfl
  rwa [hself] at h

/-- A device reset with no SETTLE in hand, where no ATTENTION record is made. -/
theorem State.deviceReset_loud (hs : s.settlings = []) (ha : s.Alert) :
    s.deviceReset =
      State.flaggedAt (State.resetRest { s.resetTables.crossed 0 with occupancy := 0 }) (fun _ => true) .deviceReset .none := by
  rw [State.deviceReset_eq, State.resetTables_of_no_settling hs, State.changeOccupancy_quiet (.inl ha.resetTables)]
  exact State.setFlagAll_loud (s := State.resetRest { s.resetTables.crossed 0 with occupancy := 0 }) _ _
    (ha.resetTables.flaggedAt _ _ _)

/-- A device reset changes of the port units the notices, the waiting writers and the summaries alone. -/
theorem State.port_deviceReset (hs : s.settlings = []) (ha : s.Alert) (q : PortNo) :
    s.deviceReset.port q = { (s.port q).resetRecords with summary := (s.deviceReset.port q).summary } := by
  rw [State.deviceReset_loud hs ha, State.flaggedAt_port_eq]
  have hcrossed : (State.resetRest { s.resetTables.crossed 0 with occupancy := 0 }).port q = (s.resetTables.crossed 0).port q := rfl
  rw [hcrossed, State.crossed, State.flaggedAt_port_eq, State.port_resetTables]

theorem State.Alert.deviceReset (hs : s.settlings = []) (ha : s.Alert) : s.deviceReset.Alert := by
  rw [State.deviceReset_loud hs ha]
  exact State.Alert.flaggedAt (s := State.resetRest { s.resetTables.crossed 0 with occupancy := 0 })
    (ha.resetTables.flaggedAt _ _ _) _ _ _

/-- The summary of an attached port after a device reset: OCCUPANCY is raised at a watched falling crossing to 0, and DEVICE_RESET. -/
theorem State.mark_deviceReset (hs : s.settlings = []) (ha : s.Alert) {q : PortNo} (hq : (s.port q).state = .attached) :
    (s.deviceReset.port q).summary.mark .deviceReset ≠ .clear ∧
      (s.deviceReset.port q).summary.mark .occupancy =
        if (s.port q).sees s.occupancy 0 then ((s.port q).summary.mark .occupancy).raise else (s.port q).summary.mark .occupancy := by
  have hport : (State.resetRest { s.resetTables.crossed 0 with occupancy := 0 }).port q =
      if (s.port q).sees s.occupancy 0 then (s.port q).resetRecords.flagged .occupancy .none else (s.port q).resetRecords := by
    have hcrossed : (State.resetRest { s.resetTables.crossed 0 with occupancy := 0 }).port q = (s.resetTables.crossed 0).port q := rfl
    rw [hcrossed, State.crossed, State.flaggedAt_port, State.port_resetTables]
    rfl
  have hstate : ((State.resetRest { s.resetTables.crossed 0 with occupancy := 0 }).port q).state = .attached := by
    rw [hport]
    split
    · rw [Port.flagged_state]; exact hq
    · exact hq
  rw [State.deviceReset_loud hs ha, State.flaggedAt_port, if_pos rfl, Port.mark_flagged_self _ hstate,
    Port.mark_flagged_ne _ hstate (by decide), hport]
  refine ⟨Mark.raise_ne_clear _, ?_⟩
  split
  · exact Port.mark_flagged_self (s.port q).resetRecords hq _ _
  · rfl

/-- Everything else a device reset does (R193). -/
theorem State.deviceReset_frame (hs : s.settlings = []) (ha : s.Alert) :
    s.deviceReset = State.resetRest { s.resetTables with ports := s.deviceReset.ports, occupancy := 0 } := by
  have h := State.deviceReset_loud hs ha
  generalize hu : s.deviceReset.ports = u
  rw [h] at hu ⊢
  rw [← hu]
  rfl

/-! ### The end of a device reset's proposal -/

/-- An open proposal for a device reset applies: the reset, and then the ending. -/
theorem State.applyProposal_deviceReset {q : Proposal} (hq : s.proposal = some q) (hb : q.body = .deviceReset) :
    s.applyProposal = s.deviceReset.endProposal .applied :=
  State.applyProposal_eq hq (by rw [hb]; rfl)

theorem State.port_of_ports {t : State} (h : t.ports = s.ports) (q : PortNo) : t.port q = s.port q := by
  rw [State.port, h]
  rfl

/-- The port units after the end of a proposal that makes no ATTENTION record. -/
theorem State.port_endProposal {q : Proposal} (hq : s.proposal = some q) (o : ProposalOutcome) (ha : s.Alert)
    (hn : q.required.Nodup) (hp : q.proposer ∉ q.required) (k : PortNo) :
    (s.endProposal o).port k =
      if q.told k = true then (s.port k).flagged .consentEnded (.ending { body := q.body, outcome := o }) else s.port k := by
  rw [State.endProposal_loud hq o ha hn hp, ← State.flaggedAt_port]
  rfl

/-- What a command that resets the device, and is answered, does: the record it writes, the port units, and all else. -/
structure State.ResetBy (s t : State) (p : PortNo) (errs : List DramError) (told : PortNo → Bool) (rec : List Byte) : Prop where
  record : t.ringRecord p (s.port p).producer = rec
  port : ∀ k, ∃ queue producer pass, (k ≠ p → queue = (s.port k).queue) ∧
    t.port k = { (s.port k).resetRecords with
      summary := (t.port k).summary, queue := queue, hand := (t.port k).hand, producer := producer, pass := pass }
  reset : ∀ k, s.attached k = true → (t.port k).summary.mark .deviceReset ≠ .clear
  ended : ∀ k, told k = true → s.attached k = true → (t.port k).summary.mark .consentEnded ≠ .clear ∧
    (t.port k).summary.ending = some { body := .deviceReset, outcome := .applied }
  occupancy : ∀ k, s.attached k = true → (t.port k).summary.mark .occupancy =
    if (s.port k).sees s.occupancy 0 then ((s.port k).summary.mark .occupancy).raise else (s.port k).summary.mark .occupancy
  frame : t = State.resetRest { State.resetTables { s with damage := s.damage ++ errs } with
    ports := t.ports, memory := t.memory, occupancy := 0
    proposal := none, lastEnded := some { body := .deviceReset, outcome := .applied } }

theorem Port.advanced_eq (q : Port) : ∃ producer pass, q.advanced = { q with producer := producer, pass := pass } := by
  unfold Port.advanced
  split
  · exact ⟨_, _, rfl⟩
  · exact ⟨_, _, rfl⟩

/-- A completion that finds a free position changes its port unit's place in the ring and its hand alone. -/
theorem State.port_complete_eq (h : s.canWrite p = true) (c : Completion) (k : PortNo) :
    ∃ producer pass, (s.complete p c).port k =
      { s.port k with hand := ((s.complete p c).port k).hand, producer := producer, pass := pass } := by
  obtain ⟨-, hport, hothers, -⟩ := State.wrote_complete h c
  by_cases hk : k = p
  · subst hk
    obtain ⟨producer, pass, hadvanced⟩ := (s.port k).advanced_eq
    refine ⟨producer, pass, ?_⟩
    rw [hport, hadvanced]
  · refine ⟨(s.port k).producer, (s.port k).pass, ?_⟩
    rw [(hothers k hk).1]

theorem State.canWrite_waiting (h : s.canWrite p = true) : (s.port p).waiting = [] := by
  unfold State.canWrite at h
  simp only [Bool.and_eq_true, decide_eq_true_eq, List.isEmpty_iff] at h
  exact h.1.2

/-- A command that resets the device is answered after the reset and the end of its proposal. -/
theorem State.Takes.resets {kind : Nat} (h : s.Takes p r kind) (errs : List DramError) {q : Proposal} (hb : q.body = .deviceReset)
    (hs : s.settlings = []) (ha : s.Alert) (hn : q.required.Nodup) (hp : q.proposer ∉ q.required) {t : State}
    (ht : State.applyProposal { (s.popQueue p).arise errs with proposal := some q } = t) (fs : List Field) :
    t.endingFields = [.num 1 0] ∧
    s.ResetBy (t.reply p r .ok fs) p errs q.told
      ((Response.completion { kind := recKind r, tag := recTag r, outcome := .ok, fields := fs }).bytes p (s.port p).pass) := by
  generalize hu : ({ (s.popQueue p).arise errs with proposal := some q } : State) = u at ht
  have hus : u.settlings = [] := by rw [← hu]; exact hs
  have hua : u.Alert := by rw [← hu]; exact ha.popQueue p
  rw [State.applyProposal_deviceReset (by rw [← hu]) hb] at ht
  have huport (k : PortNo) : ∃ queue, u.port k = { s.port k with queue := queue } ∧ (k ≠ p → queue = (s.port k).queue) := by
    have hk : u.port k = (s.popQueue p).port k := by rw [← hu]; rfl
    by_cases hkp : k = p
    · subst hkp
      exact ⟨_, by rw [hk, State.port_popQueue], fun hne => absurd rfl hne⟩
    · exact ⟨(s.port k).queue, by rw [hk, State.port_popQueue_ne _ _ hkp], fun _ => rfl⟩
  have hda := hua.deviceReset hus
  have hdframe := State.deviceReset_frame hus hua
  have hdport := State.port_deviceReset hus hua
  have hdmark (k : PortNo) := State.mark_deviceReset hus hua (q := k)
  generalize u.deviceReset = d at ht hda hdframe hdport hdmark
  have hdq : d.proposal = some q := by rw [hdframe, ← hu]; rfl
  have htport := State.port_endProposal hdq .applied hda hn hp
  have htframe := State.endProposal_frame hdq .applied
  rw [ht] at htport htframe
  have htflag (k : PortNo) : t.port k = { d.port k with summary := (t.port k).summary } := by
    rw [htport]
    split
    · exact Port.flagged_eq _ _ _
    · rfl
  have hport (k : PortNo) : ∃ queue, (k ≠ p → queue = (s.port k).queue) ∧
      t.port k = { (s.port k).resetRecords with summary := (t.port k).summary, queue := queue } := by
    obtain ⟨queue, hqueue, hother⟩ := huport k
    refine ⟨queue, hother, ?_⟩
    rw [htflag, hdport, hqueue]
    rfl
  obtain ⟨queue, -, hp'⟩ := hport p
  have hcan : t.canWrite p = true := by
    rw [← h.writes]
    have hwaiting : (s.port p).waiting = [] := State.canWrite_waiting h.writes
    apply State.canWrite_congr <;> rw [hp']
    · rfl
    · rfl
    · rfl
    · rfl
    · rw [Port.resetRecords, hwaiting]
      rfl
  have hwrote := State.wrote_complete hcan { kind := recKind r, tag := recTag r, outcome := .ok, fields := fs }
  have hcomplete := State.port_complete_eq hcan { kind := recKind r, tag := recTag r, outcome := .ok, fields := fs }
  have hdiscarded := State.complete_discarded hcan { kind := recKind r, tag := recTag r, outcome := .ok, fields := fs }
  have hframe := t.reply_frame p r .ok fs
  rw [State.reply] at hframe ⊢
  generalize t.complete p { kind := recKind r, tag := recTag r, outcome := .ok, fields := fs } = e at hwrote hcomplete hdiscarded hframe ⊢
  have hsummary (k : PortNo) : (e.port k).summary = (t.port k).summary := by
    obtain ⟨_, _, hk⟩ := hcomplete k
    rw [hk]
  have hattached {k : PortNo} (hk : s.attached k = true) : (u.port k).state = .attached ∧ (d.port k).state = .attached := by
    obtain ⟨_, hqueue, -⟩ := huport k
    have hstate : (s.port k).state = .attached := of_decide_eq_true hk
    exact ⟨by rw [hqueue]; exact hstate, by rw [hdport, hqueue]; exact hstate⟩
  refine ⟨by rw [htframe]; rfl, ?_, fun k => ?_, fun k hk => ?_, fun k htold hk => ?_, fun k hk => ?_, ?_⟩
  · have hrecord := hwrote.record
    rw [hp'] at hrecord
    exact hrecord
  · obtain ⟨queue, hother, hk⟩ := hport k
    obtain ⟨producer, pass, hk'⟩ := hcomplete k
    refine ⟨queue, producer, pass, hother, ?_⟩
    rw [hsummary, hk', hk]
  · obtain ⟨hua', hda'⟩ := hattached hk
    rw [hsummary, htport]
    split
    · rw [Port.mark_flagged_ne _ hda' (by decide)]
      exact (hdmark k hua').1
    · exact (hdmark k hua').1
  · obtain ⟨hua', hda'⟩ := hattached hk
    rw [hsummary, htport, if_pos htold, hb]
    refine ⟨?_, ?_⟩
    · rw [Port.mark_flagged_self _ hda']
      exact Mark.raise_ne_clear _
    · rw [Port.flagged, if_pos hda']
      rfl
  · obtain ⟨hua', hda'⟩ := hattached hk
    obtain ⟨_, hqueue, -⟩ := huport k
    have hmark := (hdmark k hua').2
    rw [hqueue] at hmark
    rw [hsummary, htport]
    have hocc : u.occupancy = s.occupancy := by rw [← hu]; rfl
    rw [← hocc]
    split
    · rw [Port.mark_flagged_ne _ hda' (by decide)]
      exact hmark
    · exact hmark
  · rw [hframe, hdiscarded, htframe, hdframe, ← hu, hb]
    rfl

/-! ### CONSENT (R148, R150, R152) -/

theorem exec_consentDeadlineExpiry (s : State) : exec .consentDeadlineExpiry s = s.onEvent s.proposalExpired (s.endProposal .lapsed) := rfl

theorem Proposal.complete_iff {q : Proposal} : q.complete = true ↔ ∀ k ∈ q.required, k ∈ q.received := by
  simp [Proposal.complete]

/-- A CONSENT whose copy equals the open proposal's, with another port still to consent. -/
theorem State.consentTo_of_joined {q : Proposal} {k : PortNo} (hk : k ∈ q.required) (hk' : k ∉ joinSet q.received p) :
    s.consentTo p r q.body q =
      State.reply { s with proposal := some { q with received := joinSet q.received p } } p r .ok
        [.num 1 (maskOf ((joinSet q.received p).map Fin.val))] := by
  have hnot : ({ q with received := joinSet q.received p } : Proposal).complete = false := by
    rw [← Bool.not_eq_true, Proposal.complete_iff]
    exact fun hall => hk' (hall k hk)
  rw [State.consentTo, if_pos rfl]
  dsimp only
  rw [hnot]
  rfl

/-- A CONSENT whose copy equals the open proposal's, from the last required port. -/
theorem State.consentTo_of_last {q : Proposal} (hall : ∀ k ∈ q.required, k ∈ joinSet q.received p) {t : State}
    (ht : State.applyProposal { s with proposal := some { q with received := joinSet q.received p } } = t) :
    s.consentTo p r q.body q =
      t.reply p r .ok (.num 1 (maskOf ((joinSet q.received p).map Fin.val)) :: t.endingFields) := by
  have hcomplete : ({ q with received := joinSet q.received p } : Proposal).complete = true := Proposal.complete_iff.mpr hall
  rw [State.consentTo, if_pos rfl]
  dsimp only
  rw [hcomplete, if_pos rfl, ht]

/-- A CONSENT whose copy differs from the open proposal's. -/
theorem State.consentTo_of_differing {q : Proposal} {b : ProposalBody} (hb : b ≠ q.body) :
    s.consentTo p r b q = (s.endProposal .rejected).reply p r .ok [.num 1 1] := by
  rw [State.consentTo, if_neg hb]
  rfl

/-- The ways in which an agreed proposal other than a device reset applies (R153, R154). -/
theorem State.appliesAs_of_agreed {b : ProposalBody} {o : ProposalOutcome} {u : State}
    (h : (∃ i prof, b = .profileInstall i prof ∧ o = .applied ∧
          u = { s with slots := s.slots.set i (.active prof (rollFactor prof) 0) }) ∨
        (∃ (i : Fin 4) (prof : Profile) (roll : Word32), b = .profileRetire i ∧ s.slots[i] = .active prof roll 0 ∧
          o = .applied ∧ u = { s with slots := s.slots.set i .empty }) ∨
        (∃ (i : Fin 4) (prof : Profile) (roll : Word32) (k : Nat), b = .profileRetire i ∧
          s.slots[i] = .active prof roll (k + 1) ∧ o = .applied ∧
          u = { s with slots := s.slots.set i (.retiring prof roll (k + 1)) }) ∨
        (∃ pol, b = .policy pol ∧ s.device ≠ .rebuild ∧ o = .applied ∧ u = { s with stagedPolicy := some pol }) ∨
        (∃ pol, b = .policy pol ∧ s.device = .rebuild ∧ s.poisonCount < pol.threshold ∧ o = .applied ∧
          u = { s with policy := pol, stagedPolicy := none, epochTimer := pol.timer }) ∨
        (b = .serviceStart ∧ s.device = .rebuild ∧ o = .applied ∧ u = { s with device := .service }) ∨
        (b = .serviceStart ∧ s.device ≠ .rebuild ∧ o = .voided ∧ u = s)) : s.AppliesAs b o u := by
  rcases h with ⟨i, prof, rfl, rfl, rfl⟩ | ⟨i, prof, roll, rfl, hi, rfl, rfl⟩ | ⟨i, prof, roll, k, rfl, hi, rfl, rfl⟩ |
    ⟨pol, rfl, hd, rfl, rfl⟩ | ⟨pol, rfl, hd, hc, rfl, rfl⟩ | ⟨rfl, hd, rfl, rfl⟩ | ⟨rfl, hd, rfl, rfl⟩
  · exact State.appliesAs_profileInstall i prof
  · have happ := State.appliesAs_profileRetire (s := s) i
    rwa [hi] at happ
  · have happ := State.appliesAs_profileRetire (s := s) i
    rwa [hi] at happ
  · exact State.appliesAs_policy_staged pol hd
  · exact State.appliesAs_policy_active pol hd hc
  · exact State.appliesAs_serviceStart hd
  · exact State.appliesAs_serviceStart_voided hd

/-- Settles O38: the copy that joins, the last one of each kind of proposal, the one that differs, and the deadline. -/
theorem consentJoinsAppliesOrRejects : Obligations.ConsentJoinsAppliesOrRejects := by
  unfold Obligations.ConsentJoinsAppliesOrRejects
  refine ⟨fun s p r errs b q received told h hb hq hp halert hn hproposer hreceived htold => ?_, fun s q hq hdeadline hn hp halert => ?_⟩
  · have hexec := exec_consent_of_required h errs hb hq hp
    obtain rfl : received = joinSet q.received p := hreceived
    obtain rfl : told = q.told := htold
    refine ⟨fun hsame hmissing => ?joins, fun u o hsame hall happlies => ?applies, fun hsame hall hreset hs => ?resets, fun hdiffers => ?rejects⟩
    case joins =>
      obtain ⟨k, hk, hk'⟩ := hmissing
      rw [hsame, State.consentTo_of_joined hk hk'] at hexec
      obtain ⟨hanswered, hframe⟩ := h.answers { (s.popQueue p).arise errs with proposal := some { q with received := joinSet q.received p } }
        rfl rfl .ok [.num 1 (maskOf ((joinSet q.received p).map Fin.val))]
      exact ⟨_, hexec, hanswered, hframe⟩
    case applies =>
      have happ : s.AppliesAs ({ q with received := joinSet q.received p } : Proposal).body o u :=
        hsame ▸ State.appliesAs_of_agreed happlies
      obtain ⟨hfields, hanswered, hframe⟩ := h.answers_applied errs happ halert hn hproposer rfl
        [.num 1 (maskOf ((joinSet q.received p).map Fin.val)), .num 1 o.code]
      rw [hsame, State.consentTo_of_last hall rfl, hfields] at hexec
      rw [hsame]
      exact ⟨_, hexec, hanswered, hframe⟩
    case resets =>
      obtain ⟨hfields, hreset'⟩ := h.resets errs (q := { q with received := joinSet q.received p }) (hsame.symm.trans hreset) hs halert hn
        hproposer rfl [.num 1 (maskOf ((joinSet q.received p).map Fin.val)), .num 1 0]
      rw [hsame, State.consentTo_of_last hall rfl, hfields] at hexec
      generalize State.reply _ p r .ok _ = t at hexec hreset'
      have hrecord := hreset'.record
      rw [h.kind_eq] at hrecord
      refine ⟨t, hexec, hrecord, ?_⟩
      have hframe := hreset'.frame
      have hlanes : t.lanes = Vector.replicate 64 Lane.free := by rw [hframe]; rfl
      refine ⟨by rw [hframe]; rfl, fun n => ?_, by rw [hframe]; rfl, by rw [hframe]; rfl, by rw [hframe]; rfl, by rw [hframe]; rfl,
        by rw [hframe]; rfl, fun k hk hattached => hreset'.ended k hk hattached, by rw [hframe]; rfl, by rw [hframe]; rfl,
        by rw [hframe]; rfl, by rw [hframe]; rfl⟩
      simp [State.lane, hlanes, Lane.free]
    case rejects =>
      have hend := State.endProposal_loud (s := (s.popQueue p).arise errs) hq .rejected (halert.popQueue p) hn hproposer
      rw [State.consentTo_of_differing hdiffers, hend] at hexec
      obtain ⟨hanswered, hframe⟩ := h.answers_flagged q.told .consentEnded (.ending { body := q.body, outcome := .rejected })
        { State.flaggedAt ((s.popQueue p).arise errs) q.told .consentEnded (.ending { body := q.body, outcome := .rejected }) with
          proposal := none, lastEnded := some { body := q.body, outcome := .rejected } } (fun _ => rfl) rfl .ok [.num 1 1]
      exact ⟨_, hexec, hanswered, hframe⟩
  · have hexpired : s.proposalExpired = true := by
      rw [State.proposalExpired, hq]
      exact decide_eq_true hdeadline
    rw [exec_consentDeadlineExpiry, State.onEvent, hexpired, State.endProposal_loud hq _ halert hn hp]
    rfl

/-! ### A device reset proposed alone (R193) -/

theorem resetBucket_generation (v : Bucket) (i : Fin 16) :
    (resetBucket false v)[i].generation = if v[i].entry = none then v[i].generation else nextGeneration v[i].generation := by
  unfold resetBucket
  rw [if_neg (by simp)]
  cases h : v[i].entry <;> simp_all

theorem resetBucket_lost_generation (v : Bucket) (i : Fin 16) : (resetBucket true v)[i].generation = 0 := by
  simp [resetBucket, Bucket.untouched]

theorem State.lostAtReset_of_readable {errs : List DramError} {b : Nat} (h : s.Readable errs b) :
    State.lostAtReset { s with damage := s.damage ++ errs } b = false := by
  obtain ⟨hpoison, hdamage⟩ := h
  rw [State.lostAtReset, Bool.or_eq_false_iff]
  refine ⟨decide_eq_false hpoison, ?_⟩
  rw [← Bool.not_eq_true, State.hasError_iff]
  exact fun hm => hdamage _ hm rfl

/-- The bucket that a device reset leaves. -/
theorem State.ResetBy.bucket {t : State} {errs : List DramError} {told : PortNo → Bool} {rec : List Byte}
    (h : s.ResetBy t p errs told rec) (w : Memory.wf s = true) (b : Nat) :
    t.bucket b = resetBucket (State.lostAtReset { s with damage := s.damage ++ errs } b) (s.bucket b) := by
  have hw : sparseWf Bucket.untouched s.index = true := by
    rw [Memory.wf, Bool.and_eq_true] at w
    exact w.1
  exact State.bucket_resetIndex_of (s := { s with damage := s.damage ++ errs }) hw (by rw [h.frame]; rfl) b

theorem Port.sees_zero (q : Port) (h : q.state = .attached) (a : Nat) :
    q.sees a 0 = decide ((q.watchMode = .falling ∨ q.watchMode = .both) ∧ 0 < q.watchThreshold ∧ q.watchThreshold ≤ a) := by
  have hrising : ¬((q.watchMode = .rising ∨ q.watchMode = .both) ∧ a < q.watchThreshold ∧ q.watchThreshold ≤ 0) := by omega
  rw [Port.sees, decide_eq_true h, decide_eq_false hrising, Bool.true_and, Bool.false_or, decide_eq_decide]
  exact and_congr_right fun _ => and_comm

theorem Mark.raise_eq (m : Mark) : m.raise = if m = .clear then .set else .again := by cases m <;> rfl

theorem recProposal?_deviceReset (h : byteAt r 4 = 4) : recProposal? r = some .deviceReset := by rw [recProposal?, h]; rfl

/-- Settles O40: the reset applies in the step of its PROPOSE, with no other port attached. -/
theorem deviceResetFreesLanesAndIndex : Obligations.DeviceResetFreesLanesAndIndex := by
  unfold Obligations.DeviceResetFreesLanesAndIndex
  intro s p r errs h hkind hq halone hs halert hwf
  have hrequired : (s.openedProposal p .deviceReset).required = [] := by
    rw [State.openedProposal, List.filter_eq_nil_iff]
    intro q _
    by_cases hqp : q = p
    · simp [hqp]
    · simp [halone q hqp]
  obtain ⟨hfields, hreset⟩ := h.resets errs (q := s.openedProposal p .deviceReset) rfl hs halert (by rw [hrequired]; exact List.nodup_nil)
    (by rw [hrequired]; exact List.not_mem_nil) rfl [.num 1 0, .num 1 0]
  have hexec := exec_propose_of_alone h errs (recProposal?_deviceReset hkind) (State.proposeChecks_pass rfl hq rfl) hrequired rfl
  rw [hfields] at hexec
  generalize State.reply _ p r .ok _ = t at hexec hreset
  have hframe := hreset.frame
  have hattached : s.attached p = true := h.isAttached
  have hrecord := hreset.record
  rw [h.kind_eq] at hrecord
  refine ⟨t, hexec, hrecord, fun q => ?ports, ⟨hreset.reset p hattached, ?ended⟩, ?occupancy, fun n => ?lanes, fun b i => ?entries,
    fun b i hb => ?generations, fun b i hb => ?poisoned, fun i => ?slots, ?frame⟩
  case ports =>
    obtain ⟨queue, _, _, hqueue, hport⟩ := hreset.port q
    rw [hport]
    exact ⟨rfl, rfl, rfl, rfl, hqueue⟩
  case ended => exact (hreset.ended p (by simp [Proposal.told, State.openedProposal]) hattached).1
  case occupancy =>
    rw [hreset.occupancy p hattached, Port.sees_zero _ h.state_eq, Mark.raise_eq]
    simp only [decide_eq_true_eq]
  case lanes =>
    have hlanes : t.lanes = Vector.replicate 64 Lane.free := by rw [hframe]; rfl
    simp [State.lane, hlanes]
  case entries => rw [hreset.bucket hwf, resetBucket_entry]
  case generations =>
    rw [hreset.bucket hwf, State.lostAtReset_of_readable hb, resetBucket_generation, nextGeneration_eq]
  case poisoned =>
    have hlost : State.lostAtReset { s with damage := s.damage ++ errs } b = true := by
      rw [State.lostAtReset, Bool.or_eq_true]
      exact .inl (decide_eq_true hb)
    rw [hreset.bucket hwf, hlost, resetBucket_lost_generation]
  case slots =>
    have hslots : t.slots = s.slots.map ProfileSlot.clearUses := by rw [hframe]; rfl
    rw [hslots, Fin.getElem_fin, Vector.getElem_map, ← Fin.getElem_fin]
    cases s.slots[i] <;> rfl
  case frame =>
    have hlanes : t.lanes = Vector.replicate 64 Lane.free := by rw [hframe]; rfl
    have hslots : t.slots = s.slots.map ProfileSlot.clearUses := by rw [hframe]; rfl
    have hindex : t.index = (State.resetTables { s with damage := s.damage ++ errs }).index := by rw [hframe]; rfl
    rw [hlanes, hslots, hindex]
    refine hframe.trans (congrArg (fun l => { State.resetRest { State.resetTables { s with damage := s.damage ++ errs } with
      ports := t.ports, memory := t.memory, occupancy := 0, proposal := none
      lastEnded := some { body := .deviceReset, outcome := .applied } } with damage := l }) (List.filter_congr fun d _ => ?_))
    cases d.place <;> rfl

end Sys2Proof.Machine

/-! PROOFS. The grant of a digest engine, and the examination of a bucket (O41, O35). -/

namespace Sys2Proof.Machine

open Sys2Proof

variable {s : State} {n : LaneNo}

theorem exec_engineGrant (s : State) : exec .engineGrant s = execEngineGrant s := rfl

theorem Stalls.any_eq_false_iff {k : Stalls} : k.any = false ↔ k = Stalls.clear := by
  obtain ⟨a, b, c, d, e⟩ := k
  simp [Stalls.any, Stalls.clear, and_assoc]

theorem headIsData_iff {l : List Item} : headIsData l = true ↔ ∃ a len k rest, l = .data a len k :: rest := by
  refine ⟨fun h => ?_, fun ⟨a, len, k, rest, h⟩ => h ▸ rfl⟩
  cases l with
  | nil => cases h
  | cons i rest =>
    cases i with
    | data a len k => exact ⟨a, len, k, rest, rfl⟩
    | cut => cases h
    | tag => cases h
    | checkpoint => cases h
    | finish => cases h

theorem Lane.ready_iff {l : Lane} : l.ready = true ↔ l.state = .active ∧ l.grant = none ∧ l.stalls = Stalls.clear ∧
    l.chunk = none ∧ ∃ a len k rest, l.items = .data a len k :: rest := by
  simp only [Lane.ready, Bool.and_eq_true, decide_eq_true_eq, Option.isNone_iff_eq_none, Bool.not_eq_true', Stalls.any_eq_false_iff,
    headIsData_iff, and_assoc]

/-- Whether a lane's grant names an engine, as the search for a FREE one asks. -/
theorem State.engineFree_iff {e : Fin 8} :
    (allLanes.all fun n => decide ((s.lane n).grant.map Grant.engine ≠ some e)) = true ↔
      ¬∃ m g, (s.lane m).grant = some g ∧ g.engine = e := by
  simp [allLanes]

theorem State.freeEngine?_lowest {e : Fin 8} (h : ¬∃ m g, (s.lane m).grant = some g ∧ g.engine = e)
    (hlow : ∀ f, f < e → ∃ m g, (s.lane m).grant = some g ∧ g.engine = f) : s.freeEngine? = some e :=
  List.find?_finRange (State.engineFree_iff.mpr h) fun f hf => by
    rw [← Bool.not_eq_true, State.engineFree_iff, not_not]
    exact hlow f hf

theorem State.freeEngine?_eq_none (h : ∀ f : Fin 8, ∃ m g, (s.lane m).grant = some g ∧ g.engine = f) : s.freeEngine? = none :=
  List.find?_finRange_none fun f => by
    rw [← Bool.not_eq_true, State.engineFree_iff, not_not]
    exact h f

/-- The place of a lane in the round after the last lane granted. -/
theorem lanesAfter_place (last n : LaneNo) : last + 1 + (n - last - 1) = n := by abel

theorem State.nextReady?_first (h : (s.lane n).ready = true)
    (hfirst : ∀ m, (s.lane m).ready = true → n - s.lastGranted - 1 ≤ m - s.lastGranted - 1) : s.nextReady? = some n := by
  have hn := lanesAfter_place s.lastGranted n
  rw [State.nextReady?, lanesAfter, List.find?_map,
    List.find?_finRange (k := n - s.lastGranted - 1) (by rw [Function.comp_apply, hn]; exact h) fun j hj => ?_, Option.map_some, hn]
  rw [← Bool.not_eq_true]
  intro hready
  have hplace : s.lastGranted + 1 + j - s.lastGranted - 1 = j := by abel
  have hle := hfirst _ hready
  rw [hplace] at hle
  exact absurd hj (not_lt.mpr hle)

theorem State.nextReady?_eq_none (h : ∀ m, (s.lane m).ready = false) : s.nextReady? = none :=
  List.find?_eq_none.mpr fun m _ => by rw [h m]; simp

/-- Settles O41: the lowest FREE engine and the first ready lane of the round, or no grant. -/
theorem engineGrantGoesRound : Obligations.EngineGrantGoesRound := by
  unfold Obligations.EngineGrantGoesRound
  intro s e n ready busy hready hbusy
  have hready' (m : LaneNo) : (s.lane m).ready = true ↔ ready m := Lane.ready_iff.trans (hready m).symm
  rw [exec_engineGrant, execEngineGrant]
  refine ⟨fun hn hfirst he hlow => ?granted, fun hnone => ?idle⟩
  case granted =>
    rw [State.freeEngine?_lowest (mt (hbusy e).mpr he) fun f hf => (hbusy f).mp (hlow f hf),
      State.nextReady?_first ((hready' n).mpr hn) fun m hm => hfirst m ((hready' m).mp hm)]
    have hgranted : (s.modLane n fun l => l.granted e).lane n = (s.lane n).granted e := s.lane_modLane n _
    have hothers (m : LaneNo) (hm : m ≠ n) : (s.modLane n fun l => l.granted e).lane m = s.lane m := s.lane_modLane_ne n _ hm
    exact ⟨_, rfl, ⟨hgranted, hothers⟩, rfl⟩
  case idle =>
    rcases hnone with hnone | hall
    · rw [State.nextReady?_eq_none fun m => by rw [← Bool.not_eq_true, hready']; exact hnone m]
      cases s.freeEngine? <;> rfl
    · rw [State.freeEngine?_eq_none fun f => (hbusy f).mp (hall f)]

/-! ### Folds of which few steps do anything -/

theorem foldl_of_fixed {α β : Type} {f : α → β → α} {a : α} {l : List β} (h : ∀ j ∈ l, f a j = a) : l.foldl f a = a := by
  induction l with
  | nil => rfl
  | cons j l ih => rw [List.foldl_cons, h j List.mem_cons_self]; exact ih fun k hk => h k (List.mem_cons_of_mem _ hk)

theorem foldl_of_single {α β : Type} {f : α → β → α} {a : α} {i : β} {l : List β} (hn : l.Nodup) (hi : i ∈ l)
    (h : ∀ j ∈ l, j ≠ i → f a j = a ∧ f (f a i) j = f a i) : l.foldl f a = f a i := by
  obtain ⟨before, after, rfl⟩ := List.append_of_mem hi
  rw [List.nodup_append] at hn
  obtain ⟨-, hafter, hdisjoint⟩ := hn
  rw [List.nodup_cons] at hafter
  rw [List.foldl_append, List.foldl_cons,
    foldl_of_fixed fun j hj => (h j (List.mem_append_left _ hj) fun e => hdisjoint j hj i List.mem_cons_self e).1]
  exact foldl_of_fixed fun j hj => (h j (List.mem_append_right _ (List.mem_cons_of_mem _ hj)) fun e => hafter.1 (e ▸ hj)).2

/-! ### The judgement of a slot (R133) -/

variable {p : PortNo} {b : Nat} {i : Fin 16}

theorem exec_bucketExamination (errs : List DramError) (s : State) :
    exec (.bucketExamination errs) s = execBucketExamination errs s := rfl

theorem covered_iff {holds : Vector (Option Hold) 16} {x : Entry} :
    covered holds x = true ↔ ∃ (k : Fin 16) (h : Hold), holds[k] = some h ∧ x.birth ≤ h.last ∧ h.first ≤ x.lastRef := by
  have hmem (o : Option Hold) : o ∈ holds.toList ↔ ∃ k : Fin 16, holds[k] = o := by
    rw [Vector.mem_toList_iff, Vector.mem_iff_getElem]
    exact ⟨fun ⟨k, hk, h⟩ => ⟨⟨k, hk⟩, h⟩, fun ⟨k, h⟩ => ⟨k.val, k.isLt, h⟩⟩
  simp only [covered, List.any_eq_true, hmem]
  refine ⟨?_, fun ⟨k, h, hk, hc⟩ => ⟨some h, ⟨k, hk⟩, by simpa [Hold.covers] using hc⟩⟩
  rintro ⟨o, ⟨k, hk⟩, hc⟩
  cases o with
  | none => cases hc
  | some h => exact ⟨k, h, hk, by simpa [Hold.covers] using hc⟩

theorem Entry.reclaimable_iff {x : Entry} {epoch grace : Nat} {holds : Vector (Option Hold) 16} :
    x.reclaimable epoch grace holds = true ↔ (∃ z, x.state = .zero z ∧ grace ≤ epoch - z) ∧
      ∀ (k : Fin 16) (h : Hold), holds[k] = some h → ¬(x.birth ≤ h.last ∧ h.first ≤ x.lastRef) := by
  have hcovered : covered holds x = false ↔
      ∀ (k : Fin 16) (h : Hold), holds[k] = some h → ¬(x.birth ≤ h.last ∧ h.first ≤ x.lastRef) := by
    rw [← Bool.not_eq_true, covered_iff]
    exact ⟨fun hno k h hk hc => hno ⟨k, h, hk, hc⟩, fun hall ⟨k, h, hk, hc⟩ => hall k h hk hc⟩
  rw [← hcovered, Entry.reclaimable]
  cases x.state <;> simp

/-- The scanner removes the entry `x` of slot `i` of bucket `b` (R133). -/
def State.Reclaims (s : State) (b : Nat) (i : Fin 16) (x : Entry) : Prop :=
  (s.bucket b)[i].entry = some x ∧ x.reclaimable s.epoch s.policy.grace s.holds = true

/-- The RECLAIM record of the entry (R134). -/
def State.reclaimOf (s : State) (p : PortNo) (b : Nat) (i : Fin 16) (x : Entry) : Reclaim :=
  { port := p, chunkId := idIn b (s.bucket b) i, container := x.container, offset := x.offset, length := x.length,
    fingerprint := x.fingerprint }

theorem reclaimSlot_of_reclaims {x : Entry} (h : s.Reclaims b i x) :
    reclaimSlot p b s i = { s.removeEntry b i with
      scanner := { (s.removeEntry b i).scanner with queue := (s.removeEntry b i).scanner.queue ++ [s.reclaimOf p b i x] } } := by
  unfold reclaimSlot
  dsimp only
  rw [h.1]
  exact if_pos h.2

theorem reclaimSlot_of_kept (h : ∀ x, ¬s.Reclaims b i x) : reclaimSlot p b s i = s := by
  unfold reclaimSlot
  dsimp only
  split
  · rfl
  · next x hx => exact if_neg fun hr => h x ⟨hx, hr⟩

/-! ### The slots of a bucket (R133, R134) -/

/-- What the slots `is` of bucket `b` have come to, with no port that watches occupancy, when they have been judged for port `p`. -/
structure State.Swept (s u : State) (p : PortNo) (b : Nat) (is : List (Fin 16)) : Prop where
  frame : u = { s with index := u.index, occupancy := u.occupancy, scanner := { s.scanner with queue := u.scanner.queue } }
  wf : sparseWf Bucket.untouched u.index = true
  gone : ∀ i ∈ is, ∀ x, s.Reclaims b i x → (u.bucket b)[i] =
    { generation := if (s.bucket b)[i].generation = 16383 then 0 else (s.bucket b)[i].generation + 1, entry := none }
  kept : ∀ i, (i ∈ is → ∀ x, ¬s.Reclaims b i x) → (u.bucket b)[i] = (s.bucket b)[i]
  others : ∀ b', b' ≠ b → u.bucket b' = s.bucket b'

theorem State.Swept.reclaims_iff {u : State} {is : List (Fin 16)} (h : s.Swept u p b is) (hi : i ∉ is) (x : Entry) :
    u.Reclaims b i x ↔ s.Reclaims b i x := by
  have hslot := h.kept i fun hmem => absurd hmem hi
  have hframe := h.frame
  generalize hq : u.scanner.queue = q at hframe
  unfold State.Reclaims
  rw [hslot, hframe]

theorem State.swept_reclaimSlot {u : State} {is : List (Fin 16)} (h : s.Swept u p b is) (hi : i ∉ is) (hw : s.Unwatched) :
    s.Swept (reclaimSlot p b u i) p b (is ++ [i]) := by
  by_cases hx : ∃ x, u.Reclaims b i x
  · obtain ⟨x, hx⟩ := hx
    have hports : u.ports = s.ports := by rw [h.frame]
    have hunwatched : (u.setBucket b (clearSlot (u.bucket b) i)).Unwatched := fun q => by
      rw [State.port_setBucket, State.port_of_ports hports]
      exact hw q
    have hremove : u.removeEntry b i = { u.setBucket b (clearSlot (u.bucket b) i) with occupancy := u.occupancy - 1 } :=
      State.changeOccupancy_unwatched hunwatched _
    obtain ⟨hcleared, hsame⟩ := State.slotBecomes_clearSlot (b := b) (i := i) h.wf
    rw [reclaimSlot_of_reclaims hx, hremove]
    refine ⟨?_, (u.setBucket_wf b _ h.wf : _), fun j hj y hy => ?_, fun j hj => ?_, fun b' hb' => ?_⟩
    · obtain ⟨index, occupancy, queue, hu⟩ : ∃ index occupancy queue,
          u = { s with index := index, occupancy := occupancy, scanner := { s.scanner with queue := queue } } := ⟨_, _, _, h.frame⟩
      rw [hu]
      rfl
    · rcases List.mem_append.mp hj with hj | hj
      · have hne : j ≠ i := fun e => hi (e ▸ hj)
        exact (hsame b j fun e => hne e.2).trans (h.gone j hj y hy)
      · obtain rfl := List.mem_singleton.mp hj
        rw [← h.kept j fun hmem => absurd hmem hi]
        exact hcleared
    · have hne : j ≠ i := fun e => hj (e ▸ List.mem_append_right _ (List.mem_singleton_self _)) x
        (e ▸ (h.reclaims_iff hi x).mp hx)
      exact (hsame b j fun e => hne e.2).trans (h.kept j fun hmem => hj (List.mem_append_left _ hmem))
    · exact (State.bucket_setBucket_ne hb').trans (h.others b' hb')
  · have hno (x : Entry) : ¬u.Reclaims b i x := fun hr => hx ⟨x, hr⟩
    have hnos (x : Entry) : ¬s.Reclaims b i x := fun hr => hno x ((h.reclaims_iff hi x).mpr hr)
    rw [reclaimSlot_of_kept hno]
    refine ⟨h.frame, h.wf, fun j hj y hy => ?_, fun j hj => ?_, h.others⟩
    · rcases List.mem_append.mp hj with hj | hj
      · exact h.gone j hj y hy
      · obtain rfl := List.mem_singleton.mp hj
        exact absurd hy (hnos y)
    · exact h.kept j fun hmem => hj (List.mem_append_left _ hmem)

theorem State.swept_reclaimSlots {is : List (Fin 16)} (hn : is.Nodup) (hw : s.Unwatched)
    (hwf : sparseWf Bucket.untouched s.index = true) : s.Swept (is.foldl (reclaimSlot p b) s) p b is := by
  induction is using List.reverseRecOn with
  | nil => exact ⟨rfl, hwf, fun _ hi => absurd hi List.not_mem_nil, fun _ _ => rfl, fun _ _ => rfl⟩
  | append_singleton is i ih =>
    rw [List.nodup_append] at hn
    rw [List.foldl_append]
    exact State.swept_reclaimSlot (ih hn.1) (fun hi => hn.2.2 i hi i (List.mem_singleton_self i) rfl) hw

/-! ### The reclaim queue as a writer (R134, R179) -/

/-- The reclaim queue writes to one ring, or joins its list: all else stands. -/
theorem State.kickReclaim_frame (s : State) (p : PortNo) (fuel : Nat) :
    s.kickReclaim p fuel = { s with
      ports := (s.kickReclaim p fuel).ports, memory := (s.kickReclaim p fuel).memory
      scanner := { s.scanner with queue := (s.kickReclaim p fuel).scanner.queue } } := by
  induction fuel generalizing s with
  | zero => rfl
  | succ k ih =>
    rw [State.kickReclaim]
    split
    · split
      · have hwrite : s.writeReclaim p = { s with
            ports := (s.writeReclaim p).ports, memory := (s.writeReclaim p).memory
            scanner := { s.scanner with queue := (s.writeReclaim p).scanner.queue } } := by
          unfold State.writeReclaim
          split
          · rfl
          · next r _ =>
            dsimp only
            rw [State.ringPut_frame]
        have h := ih (s.writeReclaim p)
        generalize (s.writeReclaim p).kickReclaim p k = t at h ⊢
        rw [hwrite] at h
        exact h
      · rw [State.join_frame]
    · rfl

theorem State.kickReclaim_of_empty (h : s.scanner.queue = []) (fuel : Nat) : s.kickReclaim p fuel = s := by
  cases fuel with
  | zero => rfl
  | succ k =>
    rw [State.kickReclaim]
    exact if_neg (by simp [State.hasReclaim, h])

/-- The one record of the queue is written at a free position. -/
theorem State.kickReclaim_of_free {r : Reclaim} (h : s.scanner.queue = [r]) (hr : r.port = p) (hc : s.canWrite p = true) (k : Nat) :
    s.kickReclaim p (k + 1) =
      { s.ringPut p (.reclaim r) with scanner := { (s.ringPut p (.reclaim r)).scanner with queue := [] } } := by
  have hwrite : s.writeReclaim p =
      { s.ringPut p (.reclaim r) with scanner := { (s.ringPut p (.reclaim r)).scanner with queue := [] } } := by
    have hqueue : (s.ringPut p (.reclaim r)).scanner.queue = [r] := by rw [State.ringPut_frame]; exact h
    unfold State.writeReclaim
    rw [h]
    simp only [List.find?_cons, hr, decide_true]
    rw [hqueue, List.erase_cons_head]
  have hkick : (s.hasReclaim p && !decide (Writer.reclaim ∈ (s.port p).waiting)) = true := by
    simp [State.hasReclaim, h, hr, State.canWrite_waiting hc]
  rw [State.kickReclaim, if_pos hkick, if_pos hc, hwrite, State.kickReclaim_of_empty rfl]

/-- The one record of the queue waits for a position. -/
theorem State.kickReclaim_of_taken {r : Reclaim} (h : s.scanner.queue = [r]) (hr : r.port = p) (hc : s.canWrite p = false)
    (hw : Writer.reclaim ∉ (s.port p).waiting) (k : Nat) : s.kickReclaim p (k + 1) = s.join p .reclaim := by
  have hkick : (s.hasReclaim p && !decide (Writer.reclaim ∈ (s.port p).waiting)) = true := by simp [State.hasReclaim, h, hr, hw]
  rw [State.kickReclaim, if_pos hkick, if_neg (by rw [hc]; simp)]

/-! ### An examination (R133, R136) -/

/-- An examination of a readable bucket that is not the last, for an attached port: the slots, the cursor, and the queue's turn. -/
theorem exec_bucketExamination_of_readable {errs : List DramError} (hscan : s.scanner.examines = true)
    (hreq : s.scanner.requester = some p) (hr : s.Readable errs s.scanner.cursor) {u : State}
    (hu : (List.finRange 16).foldl (reclaimSlot p s.scanner.cursor) (s.arise errs) = u) (hcount : u.poisonCount = s.poisonCount)
    (ha : u.attached p = true) :
    exec (.bucketExamination errs) s =
      .next (State.passEndCheck (State.kickReclaim { u with scanner := u.scanner.advanceCursor } p)) := by
  have hread := State.readBucket_arise hr
  have hcursor : (s.arise errs).scanner.cursor = s.scanner.cursor := rfl
  have hexamine : (s.arise errs).examine p = { u with scanner := u.scanner.advanceCursor } := by
    unfold State.examine
    dsimp only
    rw [hcursor, hread]
    dsimp only
    rw [hu]
    exact State.passCheck_of_same hcount
  have hattached : State.attached { u with scanner := u.scanner.advanceCursor } p = true := ha
  rw [exec_bucketExamination, execBucketExamination, hreq]
  dsimp only
  rw [State.onEvent, if_pos hscan, hexamine, if_pos hattached]

theorem Scanner.advanceCursor_of_lt {c : Scanner} (h : c.cursor < 4194303) : c.advanceCursor = { c with cursor := c.cursor + 1 } :=
  if_pos (by show c.cursor + 1 < 4194304; omega)

theorem Scanner.advanceCursor_of_last {c : Scanner} (h : c.cursor = 4194303) : c.advanceCursor = { c with finishing := true } :=
  if_neg (by show ¬c.cursor + 1 < 4194304; omega)

theorem State.passEndCheck_of_going (h : s.scanner.finishing = false) : s.passEndCheck = s :=
  if_neg fun hf => by rw [h] at hf; exact absurd hf.1 (by decide)

theorem State.passEnd_of_requester (hreq : s.scanner.requester = some p) :
    s.passEnd = { s.setFlag p .sweepEnded .none with
      scanner := { (s.setFlag p .sweepEnded .none).scanner with cursor := 0, state := .idle, finishing := false }
      sweepEndRequests :=
        if (s.setFlag p .sweepEnded .none).policy.triggers.sweepEnd then (s.setFlag p .sweepEnded .none).sweepEndRequests + 1
        else (s.setFlag p .sweepEnded .none).sweepEndRequests } := by
  unfold State.passEnd
  rw [hreq]

/-- The pass of an attached port ends where no ATTENTION record is made. -/
theorem State.passEndCheck_of_finished (hf : s.scanner.finishing = true) (hq : s.scanner.queue = []) (hreq : s.scanner.requester = some p)
    (ha : s.Alert) :
    s.passEndCheck = { s.flaggedAt (fun q => decide (q = p)) .sweepEnded .none with
      scanner := { s.scanner with cursor := 0, state := .idle, finishing := false }
      sweepEndRequests := if s.policy.triggers.sweepEnd then s.sweepEndRequests + 1 else s.sweepEndRequests } := by
  rw [State.passEndCheck, if_pos ⟨hf, hq⟩, State.passEnd_of_requester hreq, State.setFlag_loud _ _ (ha p)]
  rfl

/-- A port sees a fall of occupancy by 1 where its threshold is the occupancy before it. -/
theorem Port.sees_fall (q : Port) {k : Nat} (hk : 1 ≤ k) : q.sees k (k - 1) = true ↔
    q.state = .attached ∧ (q.watchMode = .falling ∨ q.watchMode = .both) ∧ q.watchThreshold = k := by
  simp only [Port.sees, Bool.and_eq_true, Bool.or_eq_true, decide_eq_true_eq]
  refine and_congr_right fun _ => ⟨?_, fun ⟨hmode, hk'⟩ => .inr ⟨hmode, by omega, by omega⟩⟩
  rintro (⟨-, hlt, hle⟩ | ⟨hmode, hle, hlt⟩)
  · omega
  · exact ⟨hmode, by omega⟩

/-- The slot that an examination frees, with no ATTENTION record made (R9, R26, R134). -/
theorem reclaimSlot_of_quiet {x : Entry} (h : s.Reclaims b i x) (hquiet : s.CrossesQuietly (s.occupancy - 1)) :
    reclaimSlot p b s i = { s.crossed (s.occupancy - 1) with
      index := (s.setBucket b (clearSlot (s.bucket b) i)).index, occupancy := s.occupancy - 1
      scanner := { s.scanner with queue := s.scanner.queue ++ [s.reclaimOf p b i x] } } := by
  have hremove : s.removeEntry b i = { (s.setBucket b (clearSlot (s.bucket b) i)).crossed (s.occupancy - 1) with
      occupancy := s.occupancy - 1 } := State.changeOccupancy_quiet (hquiet.of_ports rfl fun q => ⟨_, rfl⟩)
  rw [reclaimSlot_of_reclaims h, hremove]
  rfl

/-- Settles O35: no slot to free, the last bucket, several slots, the crossings, and the record of the one slot freed. -/
theorem examinationReclaims : Obligations.ExaminationReclaims := by
  unfold Obligations.ExaminationReclaims
  intro s p errs b gone hstate hreq hqueue hfinishing hcursor hattached hreadable hwf hgone
  have hindex : sparseWf Bucket.untouched s.index = true := by
    rw [Memory.wf, Bool.and_eq_true] at hwf
    exact hwf.1
  have hscan : s.scanner.examines = true := by simp [Scanner.examines, hstate, hqueue, hfinishing]
  subst hcursor
  have hgone' (i : Fin 16) (x : Entry) : gone i x ↔ (s.arise errs).Reclaims s.scanner.cursor i x := by
    rw [hgone, State.Reclaims, Entry.reclaimable_iff]
    rfl
  refine ⟨fun hnone hlt => ?next, fun hnone hlast halert => ?ends, fun hlt hunwatched => ?sweep, fun q hocc => ?sees,
    fun i x record hi hothers hlt hquiet hrecord => ?single⟩
  case next =>
    have hfold := foldl_of_fixed (f := reclaimSlot p s.scanner.cursor) (a := s.arise errs) (l := List.finRange 16)
      fun j _ => reclaimSlot_of_kept fun x hx => hnone j x ((hgone' j x).mpr hx)
    have hkick := State.kickReclaim_of_empty
      (s := { s.arise errs with scanner := { s.scanner with cursor := s.scanner.cursor + 1 } }) (p := p) hqueue 16
    have hend := State.passEndCheck_of_going
      (s := { s.arise errs with scanner := { s.scanner with cursor := s.scanner.cursor + 1 } }) hfinishing
    rw [exec_bucketExamination_of_readable hscan hreq hreadable hfold rfl hattached,
      Scanner.advanceCursor_of_lt (c := (s.arise errs).scanner) hlt]
    exact congrArg Host.Outcome.next ((congrArg State.passEndCheck hkick).trans hend)
  case ends =>
    have hfold := foldl_of_fixed (f := reclaimSlot p s.scanner.cursor) (a := s.arise errs) (l := List.finRange 16)
      fun j _ => reclaimSlot_of_kept fun x hx => hnone j x ((hgone' j x).mpr hx)
    have hkick := State.kickReclaim_of_empty (s := { s.arise errs with scanner := { s.scanner with finishing := true } }) (p := p) hqueue 16
    have hend := State.passEndCheck_of_finished (s := { s.arise errs with scanner := { s.scanner with finishing := true } }) rfl hqueue
      hreq halert
    have hscanner : ({ s.scanner with cursor := 0, state := .idle } : Scanner) =
        { s.scanner with cursor := 0, state := .idle, finishing := false } := by rw [← hfinishing]
    rw [exec_bucketExamination_of_readable hscan hreq hreadable hfold rfl hattached,
      Scanner.advanceCursor_of_last (c := (s.arise errs).scanner) hlast, hscanner]
    exact congrArg Host.Outcome.next ((congrArg State.passEndCheck hkick).trans hend)
  case sweep =>
    have hswept := State.swept_reclaimSlots (s := s.arise errs) (p := p) (b := s.scanner.cursor) (List.nodup_finRange 16) hunwatched hindex
    generalize hfold : (List.finRange 16).foldl (reclaimSlot p s.scanner.cursor) (s.arise errs) = u at hswept
    obtain ⟨index, occupancy, queue, hu⟩ : ∃ index occupancy queue, u = { s.arise errs with
        index := index, occupancy := occupancy, scanner := { s.scanner with queue := queue } } := ⟨_, _, _, hswept.frame⟩
    have hcount : u.poisonCount = s.poisonCount := by rw [hu]; rfl
    have hattached' : u.attached p = true := by rw [hu]; exact hattached
    have hexec := exec_bucketExamination_of_readable hscan hreq hreadable hfold hcount hattached'
    have hscanner : u.scanner = { s.scanner with queue := queue } := by rw [hu]
    rw [Scanner.advanceCursor_of_lt (by rw [hscanner]; exact hlt)] at hexec
    have hframe := State.kickReclaim_frame { u with scanner := { u.scanner with cursor := u.scanner.cursor + 1 } } p 16
    generalize State.kickReclaim { u with scanner := { u.scanner with cursor := u.scanner.cursor + 1 } } p = t at hexec hframe
    have hindex' : t.index = u.index := by rw [hframe]
    have hbucket (b' : Nat) : t.bucket b' = u.bucket b' := by rw [State.bucket, hindex']; rfl
    have hgoing : t.scanner.finishing = false := by
      rw [hframe]
      show u.scanner.finishing = false
      rw [hscanner]
      exact hfinishing
    rw [State.passEndCheck_of_going hgoing] at hexec
    refine ⟨t, hexec, fun j x hx => ?_, fun j hx => ?_, fun b' hb' => ?_, ?_⟩
    · rw [hbucket]
      exact hswept.gone j (List.mem_finRange j) x ((hgone' j x).mp hx)
    · rw [hbucket]
      exact hswept.kept j fun _ x hr => hx x ((hgone' j x).mpr hr)
    · rw [hbucket]
      exact hswept.others b' hb'
    · rw [hu] at hframe
      have hoccupancy : t.occupancy = occupancy := by rw [hframe]
      have hindex'' : t.index = index := by rw [hframe]
      rw [hoccupancy, hindex'']
      exact hframe
  case sees =>
    rw [Port.sees_fall _ hocc]
    simp only [State.attached, decide_eq_true_eq]
  case single =>
    have hreclaims := (hgone' i x).mp hi
    have hstep := reclaimSlot_of_quiet (p := p) hreclaims (hquiet.of_ports (t := s.arise errs) rfl fun q => ⟨_, rfl⟩)
    obtain ⟨hcleared, hsame⟩ := State.slotBecomes_clearSlot (s := s.arise errs) (b := s.scanner.cursor) (i := i) hindex
    have hkept (j : Fin 16) (hj : j ≠ i) (y : Entry) : ¬(s.arise errs).Reclaims s.scanner.cursor j y :=
      fun hr => hothers j y hj ((hgone' j y).mpr hr)
    have hfold := foldl_of_single (f := reclaimSlot p s.scanner.cursor) (a := s.arise errs) (List.nodup_finRange 16) (List.mem_finRange i)
      fun j _ hj => ⟨reclaimSlot_of_kept (hkept j hj), reclaimSlot_of_kept fun y hr => hkept j hj y (by
        rw [hstep] at hr
        obtain ⟨hentry, hreclaimable⟩ := hr
        exact ⟨(congrArg Slot.entry (hsame s.scanner.cursor j fun e => hj e.2)).symm.trans hentry, hreclaimable⟩)⟩
    have hrecord' : (s.arise errs).reclaimOf p s.scanner.cursor i x = record := hrecord.symm
    generalize hu : (List.finRange 16).foldl (reclaimSlot p s.scanner.cursor) (s.arise errs) = u at hfold
    have hempty : (s.arise errs).scanner.queue = [] := hqueue
    rw [hstep, hrecord', hempty, List.nil_append] at hfold
    have hscanner : u.scanner = { s.scanner with queue := [record] } := by rw [hfold]; rfl
    have hports : u.ports = (s.crossed (s.occupancy - 1)).ports := by rw [hfold]; rfl
    have hmemory : u.memory = (s.crossed (s.occupancy - 1)).memory := by rw [hfold]; rfl
    have hattached' : u.attached p = true := by
      rw [← hattached, ← s.flaggedAt_attached (fun q => (s.port q).sees s.occupancy (s.occupancy - 1)) .occupancy .none p,
        State.attached, State.port_of_ports hports]
      rfl
    have hexec := exec_bucketExamination_of_readable hscan hreq hreadable hu (by rw [hfold]; rfl) hattached'
    rw [Scanner.advanceCursor_of_lt (by rw [hscanner]; exact hlt), hscanner] at hexec
    generalize hv : ({ u with scanner := { s.scanner with cursor := s.scanner.cursor + 1, queue := [record] } } : State) = v
    have hexec' : exec (.bucketExamination errs) s = .next (v.kickReclaim p 16).passEndCheck := by rw [← hv]; exact hexec
    have hvports : v.ports = (s.crossed (s.occupancy - 1)).ports := by rw [← hv]; exact hports
    have hvmemory : v.memory = (s.crossed (s.occupancy - 1)).memory := by rw [← hv]; exact hmemory
    have hvqueue : v.scanner.queue = [record] := by rw [← hv]
    have hframe := v.kickReclaim_frame p 16
    have hgoing : (v.kickReclaim p 16).scanner.finishing = false := by
      rw [hframe, ← hv]
      exact hfinishing
    rw [State.passEndCheck_of_going hgoing] at hexec'
    have hindex' : (v.kickReclaim p 16).index = ((s.arise errs).setBucket s.scanner.cursor
        (clearSlot ((s.arise errs).bucket s.scanner.cursor) i)).index := by rw [hframe, ← hv, hfold]
    have hbucket (b' : Nat) : (v.kickReclaim p 16).bucket b' = ((s.arise errs).setBucket s.scanner.cursor
        (clearSlot ((s.arise errs).bucket s.scanner.cursor) i)).bucket b' := by
      rw [State.bucket, hindex']
      rfl
    have hto : record.port = p := by rw [hrecord]
    have hcan : v.canWrite p = s.canWrite p := by
      have hport := s.flaggedAt_port_eq (fun q => (s.port q).sees s.occupancy (s.occupancy - 1)) .occupancy .none p
      apply State.canWrite_congr <;> rw [State.port_of_ports hvports, State.crossed, hport]
    refine ⟨_, hexec', ⟨?_, fun b' j hne => ?_⟩, ?_, fun hwrites => ?_, fun hfull hwaiting => ?_⟩
    · rw [hbucket]
      exact hcleared
    · rw [hbucket]
      exact hsame b' j hne
    · generalize v.kickReclaim p 16 = t at hframe hindex'
      rw [← hv, hfold] at hframe
      rw [hindex', hframe]
      rfl
    · rw [State.kickReclaim_of_free hvqueue hto (hcan.trans hwrites)]
      have hcan' : (s.crossed (s.occupancy - 1)).canWrite p = true := by
        rw [← hwrites, ← hcan]
        apply State.canWrite_congr <;> rw [State.port_of_ports hvports]
      have hwrote := State.wrote_ringPut_of hcan' hvports hvmemory (.reclaim record)
      exact ⟨⟨hwrote.record, hwrote.port, hwrote.otherPorts, hwrote.ring⟩, rfl⟩
    · have hwaiting' : (v.port p).waiting = (s.port p).waiting := by
        rw [State.port_of_ports hvports, State.crossed, State.flaggedAt_port_eq]
      rw [State.kickReclaim_of_taken hvqueue hto (hcan.trans hfull) (by rw [hwaiting']; exact hwaiting)]
      refine ⟨?_, fun q hq => ?_, hvmemory, hvqueue⟩
      · rw [State.port_join, hwaiting', joinSet, if_neg hwaiting, State.port_of_ports hvports]
      · rw [State.port_join_ne _ hq, State.port_of_ports hvports]

end Sys2Proof.Machine

/-! PROOFS. The grants of a ring's writer arbiter (O5). -/

namespace Sys2Proof.Machine

open Sys2Proof

variable {s : State} {p : PortNo}

/-! ### Places in a ring (R178) -/

/-- The free positions of a ring whose indices lie inside it. -/
theorem Port.free_eq {q : Port} {g : Ring} (h : q.Rings g) :
    q.free = if q.consumer ≤ q.producer then g.size - 1 - (q.producer - q.consumer) else q.consumer - q.producer - 1 := by
  obtain ⟨hring, -, hproducer, hconsumer⟩ := h
  unfold Port.free
  rw [hring]
  dsimp only
  split
  · next hle =>
    have heq : q.producer + g.size - q.consumer = q.producer - q.consumer + g.size := by omega
    rw [heq, Nat.add_mod_right, Nat.mod_eq_of_lt (by omega)]
  · rw [Nat.mod_eq_of_lt (by omega)]
    omega

theorem Port.free_lt {q : Port} {g : Ring} (h : q.Rings g) : q.free < g.size := by
  have hsize := h.size
  have hproducer := h.producer
  have hconsumer := h.consumer
  rw [Port.free_eq h]
  split <;> omega

theorem Port.advanced_of_ring {q : Port} {g : Ring} (h : q.ring = some g) :
    q.advanced = { q with
      producer := if q.producer + 1 = g.size then 0 else q.producer + 1, pass := if q.producer + 1 = g.size then !q.pass else q.pass } := by
  unfold Port.advanced
  rw [h]
  simp only [decide_eq_true_eq]

theorem Port.Rings.advanced {q : Port} {g : Ring} (h : q.Rings g) : q.advanced.Rings g := by
  have hproducer := h.producer
  have hsize := h.size
  rw [Port.advanced_of_ring h.ring]
  refine ⟨h.ring, h.size, ?_, h.consumer⟩
  dsimp only
  split <;> omega

/-- A record written takes one of the free positions. -/
theorem Port.free_advanced {q : Port} {g : Ring} (h : q.Rings g) (hfree : 0 < q.free) : q.advanced.free + 1 = q.free := by
  have hsize := h.size
  have hproducer := h.producer
  have hconsumer := h.consumer
  have hfree' := hfree
  rw [Port.free_eq h] at hfree' ⊢
  rw [Port.free_eq h.advanced, Port.advanced_of_ring h.ring]
  dsimp only
  by_cases hwrap : q.producer + 1 = g.size
  · rw [if_pos hwrap]
    split at hfree' <;> split <;> omega
  · rw [if_neg hwrap]
    split at hfree' <;> split <;> omega

/-- Two positions of a ring have two addresses. -/
theorem ringAddress_injective {g : Ring} {i j : Nat} (hg : g.size ≤ 65536) (hi : i < g.size) (hj : j < g.size)
    (h : ringAddress g i = ringAddress g j) : i = j := by
  unfold ringAddress at h
  omega

/-! ### One grant (R179) -/

/-- The port unit when the writers `ws` have written the records they had there. -/
def Port.gives (q : Port) (ws : List Writer) : Port :=
  { q with
    hand := if Writer.command ∈ ws then none else q.hand
    notices := if Writer.notices ∈ ws then [] else q.notices
    attnHeld := q.attnHeld && decide (Writer.attention ∉ ws) }

/-- The writers `ws` wait at attached port `p`, each with one record, which is what `response` says: the completion in hand, the
only notice, the ATTENTION record. -/
structure State.Granting (s : State) (p : PortNo) (g : Ring) (response : Writer → Response) (ws : List Writer) : Prop where
  attached : s.attached p = true
  rings : (s.port p).Rings g
  waiting : (s.port p).waiting = ws
  nodup : ws.Nodup
  writers : ∀ w ∈ ws, w = .command ∨ w = .notices ∨ w = .attention
  starved : s.NoneStarvedOfContainers
  command : .command ∈ ws → ∃ c, (s.port p).hand = some (.completion c false) ∧ response .command = .completion c
  notices : .notices ∈ ws → ∃ n, (s.port p).notices = [n] ∧ response .notices = .container n
  attention : .attention ∈ ws → (s.port p).attnHeld = true ∧ response .attention = .attention (s.port p).summary

/-- The state when the writer at the head of port `p`'s list, followed by `rest`, has written. -/
def State.afterGrant (s : State) (p : PortNo) (w : Writer) (rest : List Writer) : State :=
  (s.modPort p fun q => { q with waiting := rest }).writeAs p w

theorem State.writeCompletion_of_answer {c : Completion} (h : (s.port p).hand = some (.completion c false)) :
    s.writeCompletion p = (s.ringPut p (.completion c)).modPort p fun q => { q with hand := none } := by
  rw [State.writeCompletion, h]
  rfl

theorem State.writeNotice_of_cons {n : Notice} {rest : List Notice} (h : (s.port p).notices = n :: rest)
    (hs : s.NoneStarvedOfContainers) :
    s.writeNotice p = (s.ringPut p (.container n)).modPort p fun q => { q with notices := rest } := by
  rw [State.writeNotice, h]
  refine State.retest_none fun m => ?_
  rw [State.lane_modPort, State.lane_ringPut]
  exact hs m

theorem State.Wrote.modPort {e : State} {r : Response} {q : Port} (h : s.Wrote e p r q) {f : Port → Port}
    (hf : ∀ q, (f q).ring = q.ring) : s.Wrote (e.modPort p f) p r (f q) := by
  refine ⟨?_, by rw [State.port_modPort, h.port], fun k hk => ?_, h.ring⟩
  · rw [← h.record]
    unfold State.ringRecord
    rw [State.port_modPort, hf]
    rfl
  · rw [State.port_modPort_ne _ _ _ hk]
    exact h.otherPorts k hk

theorem Port.advanced_waiting (q : Port) (ws : List Writer) :
    ({ q with waiting := ws } : Port).advanced = { q.advanced with waiting := ws } := by
  cases hr : q.ring with
  | none => simp only [Port.advanced, hr]
  | some g => simp only [Port.advanced, hr]

/-- A record written once a writer has left the list. -/
theorem State.wrote_unlisted {g : Ring} (h : (s.port p).ring = some g) (rest : List Writer) (r : Response) :
    s.Wrote ((s.modPort p fun q => { q with waiting := rest }).ringPut p r) p r { (s.port p).advanced with waiting := rest } := by
  have hport := State.port_modPort s p fun q => { q with waiting := rest }
  have hother (k : PortNo) (hk : k ≠ p) : (s.modPort p fun q => { q with waiting := rest }).port k = s.port k :=
    State.port_modPort_ne _ _ _ hk
  have hmemory : (s.modPort p fun q => { q with waiting := rest }).memory = s.memory := rfl
  generalize (s.modPort p fun q => { q with waiting := rest }) = u at hport hother hmemory
  have hwrote := u.wrote_ringPut p r (by rw [hport]; exact Option.isSome_iff_exists.mpr ⟨g, h⟩)
  rw [hport, Port.advanced_waiting] at hwrote
  refine ⟨?_, hwrote.port, fun k hk => ?_, fun g' a hg' ha => ?_⟩
  · have hrecord := hwrote.record
    rw [hport] at hrecord
    exact hrecord
  · rw [← hother k hk, ← hmemory]
    exact hwrote.otherPorts k hk
  · rw [← hmemory]
    exact hwrote.ring g' a (by rw [hport]; exact hg') (by rw [hport]; exact ha)

/-- The head of the list writes its record and leaves the list, and has no further one. -/
theorem State.Granting.granted {g : Ring} {response : Writer → Response} {w : Writer} {rest : List Writer}
    (h : s.Granting p g response (w :: rest)) :
    s.Wrote (s.afterGrant p w rest) p (response w) { (s.port p).advanced.gives [w] with waiting := rest } ∧
      s.OnlyPorts (s.afterGrant p w rest) ∧ (s.afterGrant p w rest).hasMore p w = false := by
  generalize hu : (s.modPort p fun q => { q with waiting := rest }) = u
  have hport : u.port p = { s.port p with waiting := rest } := by rw [← hu, State.port_modPort]
  have hstarved : u.NoneStarvedOfContainers := by rw [← hu]; exact h.starved
  have hput (r : Response) (f : Port → Port) (hf : ∀ q, (f q).ring = q.ring) :
      s.Wrote ((u.ringPut p r).modPort p f) p r (f { (s.port p).advanced with waiting := rest }) ∧
        s.OnlyPorts ((u.ringPut p r).modPort p f) := by
    refine ⟨?_, ?_⟩
    · rw [← hu]
      exact (State.wrote_unlisted h.rings.ring rest r).modPort hf
    · rw [State.ringPut_frame, ← hu]
      rfl
  have hafter : s.afterGrant p w rest = u.writeAs p w := by rw [State.afterGrant, hu]
  rw [hafter]
  rcases h.writers w List.mem_cons_self with rfl | rfl | rfl
  · obtain ⟨c, hhand, hresponse⟩ := h.command List.mem_cons_self
    have hwrite : u.writeAs p .command = (u.ringPut p (.completion c)).modPort p fun q => { q with hand := none } :=
      State.writeCompletion_of_answer (by rw [hport]; exact hhand)
    obtain ⟨hwrote, honly⟩ := hput (.completion c) (fun q => { q with hand := none }) fun _ => rfl
    rw [hwrite, hresponse]
    have hgives : ({ (s.port p).advanced.gives [.command] with waiting := rest } : Port) =
        { (s.port p).advanced with waiting := rest, hand := none } := by
      simp [Port.gives]
    exact ⟨hgives ▸ hwrote, honly, rfl⟩
  · obtain ⟨n, hnotices, hresponse⟩ := h.notices List.mem_cons_self
    have hwrite : u.writeAs p .notices = (u.ringPut p (.container n)).modPort p fun q => { q with notices := [] } :=
      State.writeNotice_of_cons (by rw [hport]; exact hnotices) hstarved
    obtain ⟨hwrote, honly⟩ := hput (.container n) (fun q => { q with notices := [] }) fun _ => rfl
    rw [hwrite, hresponse]
    have hgives : ({ (s.port p).advanced.gives [.notices] with waiting := rest } : Port) =
        { (s.port p).advanced with waiting := rest, notices := [] } := by
      simp [Port.gives]
    refine ⟨hgives ▸ hwrote, honly, ?_⟩
    rw [State.hasMore, State.port_modPort]
    rfl
  · obtain ⟨hheld, hresponse⟩ := h.attention List.mem_cons_self
    have hwrite : u.writeAs p .attention =
        (u.ringPut p (.attention (s.port p).summary)).modPort p fun q => { q with attnHeld := false } := by
      rw [State.writeAs, hport]
    obtain ⟨hwrote, honly⟩ := hput (.attention (s.port p).summary) (fun q => { q with attnHeld := false }) fun _ => rfl
    rw [hwrite, hresponse]
    have hgives : ({ (s.port p).advanced.gives [.attention] with waiting := rest } : Port) =
        { (s.port p).advanced with waiting := rest, attnHeld := false } := by
      simp [Port.gives]
    refine ⟨hgives ▸ hwrote, honly, ?_⟩
    rw [State.hasMore, State.port_modPort]

/-- The others wait on, each with its record. -/
theorem State.Granting.after {g : Ring} {response : Writer → Response} {w : Writer} {rest : List Writer}
    (h : s.Granting p g response (w :: rest)) : (s.afterGrant p w rest).Granting p g response rest := by
  obtain ⟨hwrote, honly, -⟩ := h.granted
  obtain ⟨hw, hnodup⟩ := List.nodup_cons.mp h.nodup
  have hport := hwrote.port
  have hadvanced := Port.advanced_of_ring h.rings.ring
  have hrings := h.rings.advanced
  refine ⟨?_, ?_, by rw [hport], hnodup, fun v hv => h.writers v (List.mem_cons_of_mem _ hv), ?_, fun hv => ?_, fun hv => ?_, fun hv => ?_⟩
  · rw [State.attached, hport, hadvanced]
    exact h.attached
  · rw [hport]
    exact ⟨hrings.ring, hrings.size, hrings.producer, hrings.consumer⟩
  · intro m
    have hlanes : (s.afterGrant p w rest).lanes = s.lanes := by rw [honly]
    rw [State.lane, hlanes]
    exact h.starved m
  · obtain ⟨c, hhand, hresponse⟩ := h.command (List.mem_cons_of_mem _ hv)
    have hne : Writer.command ≠ w := fun e => hw (e ▸ hv)
    refine ⟨c, ?_, hresponse⟩
    rw [hport, hadvanced]
    simp [Port.gives, hne, hhand]
  · obtain ⟨n, hnotices, hresponse⟩ := h.notices (List.mem_cons_of_mem _ hv)
    have hne : Writer.notices ≠ w := fun e => hw (e ▸ hv)
    refine ⟨n, ?_, hresponse⟩
    rw [hport, hadvanced]
    simp [Port.gives, hne, hnotices]
  · obtain ⟨hheld, hresponse⟩ := h.attention (List.mem_cons_of_mem _ hv)
    have hne : Writer.attention ≠ w := fun e => hw (e ▸ hv)
    rw [hport, hadvanced]
    exact ⟨by simp [Port.gives, hne, hheld], hresponse⟩

theorem State.Granting.drain_succ {g : Ring} {response : Writer → Response} {w : Writer} {rest : List Writer}
    (h : s.Granting p g response (w :: rest)) (hfree : 0 < (s.port p).free) (k : Nat) :
    s.drain p (k + 1) = (s.afterGrant p w rest).drain p k := by
  obtain ⟨-, -, hmore⟩ := h.granted
  rw [State.drain, h.waiting]
  dsimp only
  rw [h.attached, decide_eq_true hfree]
  rw [State.afterGrant] at hmore ⊢
  rw [Bool.and_true, if_pos rfl, hmore, Bool.and_false, if_neg Bool.false_ne_true]

/-! ### The grants of one consumer-index write (R179) -/

theorem Port.gives_gives (q : Port) (vs ws : List Writer) : (q.gives vs).gives ws = q.gives (vs ++ ws) := by
  unfold Port.gives
  simp only [List.mem_append]
  congr 1
  · by_cases h : Writer.command ∈ vs <;> simp [h]
  · by_cases h : Writer.attention ∈ vs <;> simp [h]
  · by_cases h : Writer.notices ∈ vs <;> simp [h]

theorem Port.gives_nil (q : Port) : q.gives [] = q := by simp [Port.gives]

/-- The position `i` places on from the producer index, and the pass mark of a record there (R178). -/
def Port.place (q : Port) (g : Ring) (i : Nat) : Nat := (q.producer + i) % g.size

def Port.mark (q : Port) (g : Ring) (i : Nat) : Bool := if q.producer + i < g.size then q.pass else !q.pass

theorem Port.place_zero {q : Port} {g : Ring} (h : q.Rings g) : q.place g 0 = q.producer := Nat.mod_eq_of_lt h.producer

theorem Port.mark_zero {q : Port} {g : Ring} (h : q.Rings g) : q.mark g 0 = q.pass := if_pos h.producer

theorem Port.place_advanced {q : Port} {g : Ring} (h : q.Rings g) (i : Nat) : q.advanced.place g i = q.place g (i + 1) := by
  rw [Port.place, Port.advanced_of_ring h.ring, Port.place]
  dsimp only
  split
  · next hwrap =>
    have heq : q.producer + (i + 1) = i + g.size := by omega
    rw [heq, Nat.add_mod_right, Nat.zero_add]
  · congr 1
    omega

theorem Port.mark_advanced {q : Port} {g : Ring} (h : q.Rings g) {i : Nat} (hi : i + 1 < g.size) :
    q.advanced.mark g i = q.mark g (i + 1) := by
  rw [Port.mark, Port.advanced_of_ring h.ring, Port.mark]
  dsimp only
  by_cases hwrap : q.producer + 1 = g.size
  · rw [if_pos hwrap, if_pos hwrap, if_pos (by omega), if_neg (by omega)]
  · rw [if_neg hwrap, if_neg hwrap]
    by_cases hlt : q.producer + 1 + i < g.size
    · rw [if_pos hlt, if_pos (by omega)]
    · rw [if_neg hlt, if_neg (by omega)]

theorem Port.place_lt {q : Port} {g : Ring} (h : q.Rings g) (i : Nat) : q.place g i < g.size :=
  Nat.mod_lt _ (by have := h.producer; omega)

/-- Once round the ring. -/
theorem Port.place_size {q : Port} {g : Ring} (h : q.Rings g) : q.place g g.size = q.producer := by
  rw [Port.place, Nat.add_mod_right, Nat.mod_eq_of_lt h.producer]

theorem Port.place_ne_producer {q : Port} {g : Ring} (h : q.Rings g) {i : Nat} (hi : 0 < i) (hlt : i < g.size) :
    q.place g i ≠ q.producer := by
  have hproducer := h.producer
  rw [Port.place]
  by_cases hwrap : q.producer + i < g.size
  · rw [Nat.mod_eq_of_lt hwrap]
    omega
  · have heq : q.producer + i = q.producer + i - g.size + g.size := by omega
    rw [heq, Nat.add_mod_right, Nat.mod_eq_of_lt (by omega)]
    omega

theorem Port.gives_advanced {q : Port} {g : Ring} (h : q.ring = some g) (w : Writer) (ws rest : List Writer) (a : Nat) (b : Bool)
    (c : List Writer) :
    ({ ({ q.advanced.gives [w] with waiting := rest } : Port).gives ws with producer := a, pass := b, waiting := c } : Port) =
      { q.gives (w :: ws) with producer := a, pass := b, waiting := c } := by
  have hgives := q.gives_gives [w] ws
  rw [List.singleton_append] at hgives
  rw [← hgives, Port.advanced_of_ring h]
  rfl

/-- What the grants of `k` free positions do: the first `k` of the writers `ws` have written their records, in their order. -/
structure State.Drained (s t : State) (p : PortNo) (g : Ring) (response : Writer → Response) (ws : List Writer) (k : Nat) : Prop where
  records : ∀ i w, i < k → ws[i]? = some w →
    sparseGet [] t.memory[p] (ringAddress g ((s.port p).place g i)) = (response w).bytes p ((s.port p).mark g i)
  port : t.port p = { (s.port p).gives (ws.take k) with
    producer := (s.port p).place g (min k ws.length), pass := (s.port p).mark g (min k ws.length), waiting := ws.drop k }
  others : ∀ q, q ≠ p → t.port q = s.port q ∧ t.memory[q] = s.memory[q]
  only : s.OnlyPorts t
  kept : ∀ i, min k ws.length ≤ i → i < g.size →
    sparseGet [] t.memory[p] (ringAddress g ((s.port p).place g i)) = sparseGet [] s.memory[p] (ringAddress g ((s.port p).place g i))

theorem State.Granting.drained {g : Ring} {response : Writer → Response} {ws : List Writer}
    (h : s.Granting p g response ws) {k : Nat} (hk : k ≤ (s.port p).free) : s.Drained (s.drain p k) p g response ws k := by
  induction k generalizing s ws with
  | zero =>
    refine ⟨fun i w hi => absurd hi (Nat.not_lt_zero i), ?_, fun _ _ => ⟨rfl, rfl⟩, rfl, fun _ _ _ => rfl⟩
    rw [List.take_zero, Port.gives_nil, Nat.zero_min, Port.place_zero h.rings, Port.mark_zero h.rings, List.drop_zero, ← h.waiting]
    rfl
  | succ k ih =>
    cases ws with
    | nil =>
      rw [State.drain_of_none_waiting h.waiting]
      refine ⟨fun i w _ hw => by simp at hw, ?_, fun _ _ => ⟨rfl, rfl⟩, rfl, fun _ _ _ => rfl⟩
      rw [List.take_nil, Port.gives_nil, List.length_nil, Nat.min_zero, Port.place_zero h.rings, Port.mark_zero h.rings, List.drop_nil,
        ← h.waiting]
    | cons w rest =>
      have hfree : 0 < (s.port p).free := by omega
      rw [h.drain_succ hfree k]
      obtain ⟨hwrote, honly, -⟩ := h.granted
      have hafter := h.after
      generalize s.afterGrant p w rest = u at hwrote honly hafter
      have hfree' := Port.free_advanced h.rings hfree
      have huport := hwrote.port
      have hufree : (u.port p).free = (s.port p).advanced.free := by rw [huport]; rfl
      have huplace (i : Nat) : (u.port p).place g i = (s.port p).place g (i + 1) := by
        rw [← Port.place_advanced h.rings, huport]; rfl
      have humark (i : Nat) (hi : i + 1 < g.size) : (u.port p).mark g i = (s.port p).mark g (i + 1) := by
        rw [← Port.mark_advanced h.rings hi, huport]; rfl
      have hlt := Port.free_lt h.rings
      have hd := ih hafter (by omega)
      generalize u.drain p k = t at hd
      refine ⟨fun i v hi hv => ?records, ?port, fun q hq => ?others, ?only, fun i hmin hi => ?kept⟩
      case records =>
        cases i with
        | zero =>
          obtain rfl : w = v := by simpa using hv
          have hkept := hd.kept (g.size - 1) (by omega) (by omega)
          have hround : g.size - 1 + 1 = g.size := by omega
          have hrecord := hwrote.record
          rw [State.ringRecord, huport] at hrecord
          rw [huplace, hround, Port.place_size h.rings] at hkept
          rw [Port.place_zero h.rings, Port.mark_zero h.rings, hkept, ← hrecord]
          have hring : (s.port p).advanced.ring = some g := h.rings.advanced.ring
          simp only [Port.gives, hring]
        | succ i =>
          have hrecord := hd.records i v (by omega) (by rw [List.getElem?_cons_succ] at hv; exact hv)
          rw [huplace, humark i (by omega)] at hrecord
          exact hrecord
      case port =>
        rw [hd.port, huplace, humark _ (by omega), huport, Port.gives_advanced h.rings.ring, List.take_succ_cons, List.drop_succ_cons,
          List.length_cons, Nat.add_min_add_right]
      case others => exact ⟨(hd.others q hq).1.trans (hwrote.otherPorts q hq).1, (hd.others q hq).2.trans (hwrote.otherPorts q hq).2⟩
      case only =>
        have honly' := hd.only
        rw [honly] at honly'
        exact honly'
      case kept =>
        rw [List.length_cons, Nat.add_min_add_right] at hmin
        obtain ⟨j, rfl⟩ : ∃ j, i = j + 1 := ⟨i - 1, by omega⟩
        have hkept := hd.kept j (by omega) (by omega)
        rw [huplace] at hkept
        refine hkept.trans (hwrote.ring g _ h.rings.ring fun heq => ?_)
        exact Port.place_ne_producer h.rings (Nat.succ_pos j) hi
          (ringAddress_injective h.rings.size.2 (Port.place_lt h.rings _) h.rings.producer heq)

/-- A consumer-index write below the ring size sets the index and reloads the watchdog (R157, R178). -/
theorem Port.consumed_of_lt {q : Port} {g : Ring} (h : q.ring = some g) {v : Nat} (hv : v < g.size) :
    q.consumed v = { q with watchdog := some q.period, consumer := v } := by
  simp only [Port.consumed, h, if_pos hv]

/-- A writer that has a further record when it has written joins the tail again. -/
theorem State.drain_one_of_more {w : Writer} {rest : List Writer} (h : (s.port p).waiting = w :: rest) (ha : s.attached p = true)
    (hfree : 0 < (s.port p).free) (ha' : (s.afterGrant p w rest).attached p = true) (hmore : (s.afterGrant p w rest).hasMore p w = true) :
    s.drain p 1 = (s.afterGrant p w rest).join p w := by
  rw [State.drain, h]
  dsimp only
  rw [ha, decide_eq_true hfree, Bool.and_true, if_pos rfl]
  rw [State.afterGrant] at ha' hmore ⊢
  rw [ha', hmore, Bool.and_true, if_pos rfl]
  rfl

/-- Settles O5: the grants of `k` positions to writers of one record each, and a notice queue with a further notice. -/
theorem grantsFollowWaitingOrder : Obligations.GrantsFollowWaitingOrder := by
  unfold Obligations.GrantsFollowWaitingOrder
  intro s p v k errs g c n response hattached hrings hv hstarved hhand hheld hk hresponse
  have hexec := exec_consumerIndexWrite_of_attached hattached v errs
  have hfree : ((s.port p).consumed v).free = k := by rw [Port.consumed_of_lt hrings.ring hv, hk]; rfl
  generalize hu : ((s.arise errs).modPort p fun q => q.consumed v) = u at hexec
  have huport : u.port p = { s.port p with watchdog := some (s.port p).period, consumer := v } := by
    rw [← Port.consumed_of_lt hrings.ring hv, ← hu]
    exact State.port_modPort _ _ _
  have hother (q : PortNo) (hq : q ≠ p) : u.port q = s.port q := by rw [← hu]; exact State.port_modPort_ne _ _ _ hq
  have hmemory : u.memory = s.memory := by rw [← hu]; rfl
  have honly : u = { s with ports := u.ports, damage := s.damage ++ errs } := by rw [← hu]; rfl
  have hattached' : u.attached p = true := by rw [State.attached, huport]; exact hattached
  have hrings' : (u.port p).Rings g := by rw [huport]; exact ⟨hrings.ring, hrings.size, hrings.producer, hv⟩
  have hstarved' : u.NoneStarvedOfContainers := by rw [← hu]; exact hstarved
  have hufree : (u.port p).free = k := by rw [huport, ← hfree, Port.consumed_of_lt hrings.ring hv]
  rw [hfree] at hexec
  refine ⟨fun hnodup hwriters hnotices => ?each, fun m more hone hwaiting hnotices => ?further⟩
  case each =>
    have hgranting : u.Granting p g response (s.port p).waiting := by
      refine ⟨hattached', hrings', by rw [huport], hnodup, hwriters, hstarved', fun _ => ⟨c, ?_, hresponse _⟩, fun _ => ⟨n, ?_, hresponse _⟩,
        fun _ => ⟨?_, ?_⟩⟩
      · rw [huport]; exact hhand
      · rw [huport]; exact hnotices
      · rw [huport]; exact hheld
      · rw [huport]; exact hresponse _
    have hdrained := hgranting.drained hufree.ge
    generalize u.drain p k = t at hexec hdrained
    have hport := hdrained.port
    rw [huport] at hport
    refine ⟨t, hexec, fun i w hi hw => ?_, by rw [hport]; rfl, ?_, fun q hq => ?_, ?_⟩
    · have hrecord := hdrained.records i w hi hw
      have hring : (t.port p).ring = some g := by rw [hport]; exact hrings.ring
      rw [huport] at hrecord
      simp only [State.ringRecord, hring]
      exact hrecord
    · rw [hport]
      simp only [Port.gives, Port.mark, hnotices, hheld, Bool.true_and]
    · obtain ⟨hports, hmemories⟩ := hdrained.others q hq
      exact ⟨hports.trans (hother q hq), by rw [hmemories, hmemory]⟩
    · have honly' := hdrained.only
      rw [honly] at honly'
      exact honly'
  case further =>
    subst hone
    have hring : (u.port p).ring = some g := hrings'.ring
    generalize hx : (u.modPort p fun q => { q with waiting := [.attention] }) = x
    have hxport : x.port p = { u.port p with waiting := [.attention] } := by rw [← hx, State.port_modPort]
    have hafter : u.afterGrant p .notices [.attention] =
        (x.ringPut p (.container n)).modPort p fun q => { q with notices := m :: more } := by
      rw [State.afterGrant, hx]
      exact State.writeNotice_of_cons (by rw [hxport, huport]; exact hnotices) (by rw [← hx]; exact hstarved')
    have hwrote := (State.wrote_unlisted hring [.attention] (.container n)).modPort (f := fun q => { q with notices := m :: more }) fun _ => rfl
    rw [hx, ← hafter] at hwrote
    have honly' : u.OnlyPorts (u.afterGrant p .notices [.attention]) := by
      rw [hafter, State.ringPut_frame, ← hx]
      rfl
    have hadvanced : (u.port p).advanced = { (s.port p).advanced with watchdog := some (s.port p).period, consumer := v } := by
      rw [huport, Port.advanced_of_ring hrings.ring, Port.advanced_of_ring (q := { s.port p with watchdog := _, consumer := v }) hrings.ring]
    have hgrant := State.drain_one_of_more (w := .notices) (rest := [.attention]) (by rw [huport]; exact hwaiting) hattached'
      (by rw [hufree]; exact Nat.one_pos) (by
        rw [State.attached, hwrote.port, hadvanced, Port.advanced_of_ring hrings.ring]
        exact hattached) (by rw [State.hasMore, hwrote.port]; rfl)
    rw [hgrant] at hexec
    refine ⟨_, hexec, ?_, ?_, fun q hq => ?_, ?_⟩
    · have hrecord := hwrote.record
      rw [huport] at hrecord
      rw [← hrecord, State.ringRecord, State.port_join]
      rfl
    · rw [State.port_join, hwrote.port, hadvanced]
      rfl
    · rw [State.port_join_ne _ hq]
      obtain ⟨hports, hmemories⟩ := hwrote.otherPorts q hq
      exact ⟨hports.trans (hother q hq), hmemories.trans (by rw [hmemory])⟩
    · rw [State.join_frame, honly', honly]

end Sys2Proof.Machine

/-! PROOFS. What the work on lanes, containers and their records leaves alone, down to the entry into PASSTHROUGH: the part's own
state, what the ports have in hand and in their queues, what their summaries show already, and the ports that are not ATTACHED. -/

namespace Sys2Proof.Machine

open Sys2Proof

/-! ### The relation -/

/-- A port unit keeps its state, its commands and its freeze, and its summary shows what it showed. -/
structure Port.Spared (q q' : Port) : Prop where
  same : q'.state = q.state ∧ q'.queue = q.queue ∧ q'.hand = q.hand ∧ q'.freeze = q.freeze ∧ q'.failSafeTime = q.failSafeTime ∧
    q'.watchdog = q.watchdog
  marks : ∀ f, q.summary.mark f ≠ .clear → q'.summary.mark f ≠ .clear
  peers : ∀ p ∈ q.summary.peers, p ∈ q'.summary.peers
  orphans : ∀ n ∈ q.summary.orphanedLanes, n ∈ q'.summary.orphanedLanes

/-- A port unit not ATTACHED at which nothing waits. -/
def Port.Gone (q : Port) : Prop := q.state ≠ .attached ∧ q.waiting = [] ∧ q.notices = []

/-- From `s` to `t` lanes, containers and the index have changed, and records have been made. -/
structure State.LaneWork (s t : State) : Prop where
  frame : t = { s with
    ports := t.ports, memory := t.memory, lanes := t.lanes, index := t.index, occupancy := t.occupancy, poisonList := t.poisonList
    poisonCount := t.poisonCount, correctable := t.correctable, damage := t.damage, table := t.table, turns := t.turns
    slots := t.slots, discarded := t.discarded }
  poison : min 4294967295 s.poisonCount ≤ t.poisonCount
  numbers : t.table.map Container.number ⊆ s.table.map Container.number
  ports : ∀ q, (s.port q).Spared (t.port q)
  gone : ∀ q, (s.port q).Gone → t.port q = { s.port q with recent := (t.port q).recent } ∧ t.memory[q] = s.memory[q]

variable {s t u : State} {p : PortNo} {n : LaneNo}

theorem Port.Spared.refl (q : Port) : q.Spared q := ⟨⟨rfl, rfl, rfl, rfl, rfl, rfl⟩, fun _ => id, fun _ => id, fun _ => id⟩

theorem Port.Spared.trans {q q' q'' : Port} (h : q.Spared q') (h' : q'.Spared q'') : q.Spared q'' := by
  obtain ⟨⟨h1, h2, h3, h4, h5, h6⟩, hm, hp, ho⟩ := h
  obtain ⟨⟨h1', h2', h3', h4', h5', h6'⟩, hm', hp', ho'⟩ := h'
  exact ⟨⟨h1'.trans h1, h2'.trans h2, h3'.trans h3, h4'.trans h4, h5'.trans h5, h6'.trans h6⟩, fun f hf => hm' f (hm f hf),
    fun k hk => hp' k (hp k hk), fun k hk => ho' k (ho k hk)⟩

theorem State.LaneWork.refl (s : State) : s.LaneWork s := ⟨rfl, min_le_right _ _, fun _ => id, fun _ => .refl _, fun _ _ => ⟨rfl, rfl⟩⟩

theorem State.LaneWork.trans (h : s.LaneWork t) (h' : t.LaneWork u) : s.LaneWork u := by
  have hframe := h'.frame
  rw [h.frame] at hframe
  refine ⟨hframe, ?_, fun _ hk => h.numbers (h'.numbers hk), fun q => (h.ports q).trans (h'.ports q), fun q hq => ?_⟩
  · have hpoison := h.poison
    have hpoison' := h'.poison
    omega
  · obtain ⟨hport, hmemory⟩ := h.gone q hq
    have hq' : (t.port q).Gone := by rw [hport]; exact hq
    obtain ⟨hport', hmemory'⟩ := h'.gone q hq'
    refine ⟨?_, hmemory'.trans hmemory⟩
    rw [hport', hport]

/-- Work that touches no port unit and no ring. -/
theorem State.LaneWork.of_ports (hframe : t = { s with
      ports := t.ports, memory := t.memory, lanes := t.lanes, index := t.index, occupancy := t.occupancy, poisonList := t.poisonList
      poisonCount := t.poisonCount, correctable := t.correctable, damage := t.damage, table := t.table, turns := t.turns
      slots := t.slots, discarded := t.discarded }) (hpoison : min 4294967295 s.poisonCount ≤ t.poisonCount)
    (hnumbers : t.table.map Container.number ⊆ s.table.map Container.number) (hports : t.ports = s.ports) (hmemory : t.memory = s.memory) : s.LaneWork t :=
  ⟨hframe, hpoison, hnumbers, fun q => by rw [State.port_of_ports hports]; exact .refl _,
    fun q _ => ⟨by rw [State.port_of_ports hports], by rw [hmemory]⟩⟩

theorem State.LaneWork.attached (h : s.LaneWork t) (q : PortNo) : t.attached q = s.attached q := by
  rw [State.attached, (h.ports q).same.1]
  rfl

theorem State.LaneWork.foldl {α : Type} {f : State → α → State} (h : ∀ (t : State) (a : α), t.LaneWork (f t a)) (l : List α) (s : State) :
    s.LaneWork (l.foldl f s) := by
  induction l generalizing s with
  | nil => exact .refl s
  | cons a l ih => exact (h s a).trans (ih _)

theorem State.LaneWork.foldl_beside {α β : Type} {f : β → α → β} {st : β → State} (h : ∀ b a, (st b).LaneWork (st (f b a)))
    (l : List α) (b : β) : (st b).LaneWork (st (l.foldl f b)) := by
  induction l generalizing b with
  | nil => exact .refl _
  | cons a l ih => exact (h b a).trans (ih _)

/-! ### Records and flags -/

/-- A change of an ATTACHED port's unit. -/
theorem State.laneWork_modPort (s : State) (ha : s.attached p = true) {f : Port → Port} (hf : (s.port p).Spared (f (s.port p))) :
    s.LaneWork (s.modPort p f) := by
  refine ⟨rfl, min_le_right _ _, fun _ => id, fun q => ?_, fun q hq => ?_⟩
  · by_cases h : q = p
    · subst h; rw [State.port_modPort]; exact hf
    · rw [State.port_modPort_ne _ _ _ h]; exact .refl _
  · have h : q ≠ p := fun e => hq.1 (of_decide_eq_true (e ▸ ha))
    exact ⟨by rw [State.port_modPort_ne _ _ _ h], rfl⟩

theorem Port.Spared.of_summary {q q' : Port} (h : q'.state = q.state ∧ q'.queue = q.queue ∧ q'.hand = q.hand ∧ q'.freeze = q.freeze ∧
    q'.failSafeTime = q.failSafeTime ∧ q'.watchdog = q.watchdog) (hs : q'.summary = q.summary) : q.Spared q' :=
  ⟨h, fun f hf => by rw [hs]; exact hf, fun k hk => by rw [hs]; exact hk, fun k hk => by rw [hs]; exact hk⟩

theorem State.laneWork_join (s : State) (ha : s.attached p = true) (w : Writer) : s.LaneWork (s.join p w) :=
  s.laneWork_modPort ha (.of_summary ⟨rfl, rfl, rfl, rfl, rfl, rfl⟩ rfl)

theorem State.laneWork_ringPut (s : State) (ha : s.attached p = true) (r : Response) : s.LaneWork (s.ringPut p r) := by
  refine ⟨by rw [State.ringPut_frame], by rw [State.ringPut_poisonCount]; exact min_le_right _ _, by rw [State.ringPut_table]; exact fun _ => id, fun q => ?_, fun q hq => ?_⟩
  · by_cases h : q = p
    · subst h
      obtain ⟨producer, pass, hadvanced⟩ := (s.port q).advanced_eq
      rw [State.ringPut_port, hadvanced]
      exact .of_summary ⟨rfl, rfl, rfl, rfl, rfl, rfl⟩ rfl
    · rw [State.ringPut_port_ne _ _ _ h]; exact .refl _
  · have h : q ≠ p := fun e => hq.1 (of_decide_eq_true (e ▸ ha))
    exact ⟨by rw [State.ringPut_port_ne _ _ _ h], State.ringPut_memory_ne _ _ _ h⟩

theorem Summary.mem_foldl_joinSet {α : Type} [DecidableEq α] {x : α} (ns xs : List α) (h : x ∈ xs) : x ∈ ns.foldl joinSet xs := by
  induction ns generalizing xs with
  | nil => exact h
  | cons m ns ih =>
    refine ih _ ?_
    unfold joinSet
    split
    · exact h
    · exact List.mem_append_left _ h

/-- A flag raised keeps what the summary shows (R182). -/
theorem Port.spared_raise (q : Port) (f : Flag) (c : Carry) : q.Spared { q with summary := (q.summary.raise f).carry f c } := by
  refine ⟨⟨rfl, rfl, rfl, rfl, rfl, rfl⟩, fun g hg => ?_, fun k hk => ?_, fun k hk => ?_⟩
  · rw [Summary.mark_carry, Summary.mark_raise]
    split
    · exact Mark.raise_ne_clear _
    · exact hg
  · have hraise : k ∈ (q.summary.raise f).peers := hk
    dsimp only
    unfold Summary.carry
    split
    · exact Summary.mem_foldl_joinSet [_] _ hraise
    · exact hraise
    · exact hraise
    · exact hraise
    · exact hraise
    · exact hraise
  · have hraise : k ∈ (q.summary.raise f).orphanedLanes := hk
    dsimp only
    unfold Summary.carry
    split
    · exact hraise
    · exact hraise
    · exact Summary.mem_foldl_joinSet _ _ hraise
    · exact hraise
    · exact hraise
    · exact hraise

theorem State.laneWork_setFlag (s : State) (p : PortNo) (f : Flag) (c : Carry) : s.LaneWork (s.setFlag p f c) := by
  cases ha : s.attached p with
  | false => rw [State.setFlag_unattached f c ha]; exact .refl s
  | true =>
    have hraise : s.LaneWork (s.raiseAt p f c) := s.laneWork_modPort ha (Port.spared_raise _ f c)
    have ha' : (s.raiseAt p f c).attached p = true := (hraise.attached p).trans ha
    rcases State.setFlag_cases f c ha with ⟨_, e⟩ | ⟨_, _, _, e⟩ | ⟨_, _, _, e⟩
    · rw [e]; exact hraise
    · rw [e]; exact hraise.trans (State.laneWork_ringPut _ ha' _)
    · rw [e]
      have hheld := State.laneWork_modPort (s.raiseAt p f c) ha' (f := fun q => { q with attnHeld := true })
        (.of_summary ⟨rfl, rfl, rfl, rfl, rfl, rfl⟩ rfl)
      exact hraise.trans (hheld.trans (State.laneWork_join _ ((hheld.attached p).trans ha') _))

theorem State.laneWork_setFlags (s : State) (ps : List PortNo) (f : Flag) (c : Carry) : s.LaneWork (s.setFlags ps f c) :=
  .foldl (fun t p => t.laneWork_setFlag p f c) ps s

theorem State.laneWork_setFlagAll (s : State) (f : Flag) (c : Carry) : s.LaneWork (s.setFlagAll f c) := s.laneWork_setFlags _ f c

/-- A state with the lanes, the table, the turns, the index, the slots and the discarded-record counter of `t`. -/
theorem State.laneWork_discard (s : State) (k : Nat) : s.LaneWork (s.discard k) := .of_ports rfl (min_le_right _ _) (fun _ => id) rfl rfl

theorem State.laneWork_modLane (s : State) (n : LaneNo) (f : Lane → Lane) : s.LaneWork (s.modLane n f) :=
  .of_ports rfl (min_le_right _ _) (fun _ => id) rfl rfl

theorem map_number {f : Container → Container} (hf : ∀ c, (f c).number = c.number) (cs : List Container) :
    (cs.map f).map Container.number = cs.map Container.number := by
  rw [List.map_map]
  exact List.map_congr_left fun c _ => hf c

theorem State.laneWork_modContainer (s : State) (k : Nat) {f : Container → Container} (hf : ∀ c, (f c).number = c.number) :
    s.LaneWork (s.modContainer k f) := by
  have hnumbers := map_number (f := fun c => if c.number = k then f c else c) (fun c => by split; exacts [hf c, rfl]) s.table
  exact .of_ports rfl (min_le_right _ _) (fun _ hk => hnumbers ▸ hk) rfl rfl

/-! ### Reads and the index -/

theorem min_le_countTo (limit n : Nat) : min limit n ≤ countTo limit n := by
  unfold countTo
  split <;> omega

theorem State.laneWork_poison (s : State) (b : Nat) : s.LaneWork (s.poison b) := by
  have hcount := min_le_countTo 4294967295 s.poisonCount
  have hnumbers := map_number (f := fun c => { c with members := c.members.filter fun m => decide (m.bucket ≠ b) }) (fun _ => rfl) s.table
  have hstruck : s.LaneWork (s.struck b) := .of_ports rfl hcount (fun _ hk => hnumbers ▸ hk) rfl rfl
  rw [State.poison_eq]
  exact hstruck.trans (State.laneWork_setFlagAll _ _ _)

theorem State.laneWork_readBucket (s : State) (b : Nat) : s.LaneWork (s.readBucket b).2 := by
  unfold State.readBucket
  simp only [apply_ite Prod.snd]
  split
  · exact .refl s
  · split
    · exact s.laneWork_poison b
    · split
      · have hcorrected : s.LaneWork (s.correct (.bucket b)) := .of_ports rfl (min_le_right _ _) (fun _ => id) rfl rfl
        exact hcorrected
      · exact .refl s

theorem State.laneWork_changeOccupancy (s : State) (k : Nat) : s.LaneWork (s.changeOccupancy k) := by
  have hmoved : s.LaneWork { s with occupancy := k } := .of_ports rfl (min_le_right _ _) (fun _ => id) rfl rfl
  refine hmoved.trans (.foldl (fun t p => ?_) _ _)
  split
  · exact t.laneWork_setFlag p _ _
  · exact .refl t

theorem State.laneWork_removeEntry (s : State) (b : Nat) (i : Fin 16) : s.LaneWork (s.removeEntry b i) := by
  have hcleared : s.LaneWork (s.setBucket b (clearSlot (s.bucket b) i)) := .of_ports rfl (min_le_right _ _) (fun _ => id) rfl rfl
  exact hcleared.trans (State.laneWork_changeOccupancy _ _)

/-! ### Containers -/

theorem State.laneWork_retest (s : State) : s.LaneWork s.retest := .of_ports rfl (min_le_right _ _) (fun _ => id) rfl rfl

theorem State.laneWork_writeNotice (s : State) (ha : s.attached p = true) : s.LaneWork (s.writeNotice p) := by
  unfold State.writeNotice
  split
  · exact .refl s
  · have hput := s.laneWork_ringPut ha
    exact ((hput _).trans (State.laneWork_modPort _ (((hput _).attached p).trans ha)
      (.of_summary ⟨rfl, rfl, rfl, rfl, rfl, rfl⟩ rfl))).trans (State.laneWork_retest _)

theorem State.laneWork_makeNotice (s : State) (p : PortNo) (m : Notice) : s.LaneWork (s.makeNotice p m) := by
  unfold State.makeNotice
  split
  · next h =>
    have ha : s.attached p = true := (Bool.and_eq_true _ _ ▸ h).1
    have hnotice := s.laneWork_modPort ha (f := fun q => { q with notices := q.notices ++ [m] })
      (.of_summary ⟨rfl, rfl, rfl, rfl, rfl, rfl⟩ rfl)
    have ha' := (hnotice.attached p).trans ha
    dsimp only
    split
    · exact hnotice.trans (State.laneWork_writeNotice _ ha')
    · exact hnotice.trans (State.laneWork_join _ ha' _)
  · exact s.laneWork_discard 1

theorem State.laneWork_sealContainer (s : State) (k : Nat) (r : SealReason) : s.LaneWork (s.sealContainer k r) := by
  unfold State.sealContainer
  split
  · exact .refl s
  · split
    · exact .refl s
    · have hsealed := s.laneWork_modContainer k
        (f := fun c => { c with state := .sealed r (some (s.policy.settleLimit * 1000)) }) fun _ => rfl
      exact (hsealed.trans (State.laneWork_modLane _ _ _)).trans (State.laneWork_makeNotice _ _ _)

theorem State.laneWork_sealOpen (s : State) (n : LaneNo) : s.LaneWork (s.sealOpen n) := by
  unfold State.sealOpen
  split
  · exact s.laneWork_sealContainer _ _
  · exact .refl s

theorem State.laneWork_loseContainer (s : State) (c : Container) (b : Bool) : s.LaneWork (s.loseContainer c b) :=
  .of_ports rfl (min_le_right _ _) (List.map_subset _ List.filter_sublist.subset) rfl rfl

theorem State.laneWork_listWithdrawn (s : State) (p : PortNo) (k : Nat) : s.LaneWork (s.listWithdrawn p k) := by
  refine ⟨rfl, min_le_right _ _, fun _ => id, fun q => ?_, fun q _ => ?_⟩
  · by_cases h : q = p
    · subst h; rw [State.listWithdrawn, State.port_modPort]; exact .of_summary ⟨rfl, rfl, rfl, rfl, rfl, rfl⟩ rfl
    · rw [State.listWithdrawn, State.port_modPort_ne _ _ _ h]; exact .refl _
  · refine ⟨?_, rfl⟩
    by_cases h : q = p
    · subst h; rw [State.listWithdrawn, State.port_modPort]
    · rw [State.listWithdrawn, State.port_modPort_ne _ _ _ h]

/-! ### Lanes and their records -/

/-- The lane's owner port, when it has one, is ATTACHED. -/
def State.OwnerAttached (s : State) (n : LaneNo) : Prop := ∀ p, (s.lane n).owner = some p → s.attached p = true

theorem State.OwnerAttached.of_work (h : s.OwnerAttached n) (hw : s.LaneWork t) (ho : (t.lane n).owner = (s.lane n).owner) :
    t.OwnerAttached n := fun p hp => (hw.attached p).trans (h p (ho ▸ hp))

theorem State.laneWork_laneJoin (s : State) (ho : s.OwnerAttached n) : s.LaneWork (s.laneJoin n) := by
  unfold State.laneJoin
  split
  · next p hp => exact s.laneWork_join (ho p hp) _
  · exact .refl s

theorem State.mayWrite_attached {n : LaneNo} (h : s.mayWrite n = some p) : s.attached p = true := by
  unfold State.mayWrite at h
  split at h
  · split at h
    · next hc => exact State.canWrite_attached (Option.some.inj h ▸ hc)
    · cases h
  · cases h

theorem State.laneWork_closeRun (s : State) (ho : s.OwnerAttached n) : s.LaneWork (s.closeRun n) := by
  unfold State.closeRun
  split
  · exact .refl s
  · next r _ =>
    split
    · exact .refl s
    · split
      · next p hp => exact (s.laneWork_ringPut (State.mayWrite_attached hp) _).trans (State.laneWork_modLane _ _ _)
      · have hkept := s.laneWork_modLane n fun l =>
          { l with run := some { r with closed := true }, stalls := { l.stalls with ringFull := true }, grant := none }
        exact hkept.trans (State.laneWork_laneJoin _ (ho.of_work hkept (by rw [State.lane_modLane])))

theorem State.laneWork_stall (s : State) (ho : s.OwnerAttached n) (c : Stalls → Stalls) : s.LaneWork (s.stall n c) := by
  have hstalled := s.laneWork_modLane n fun l => { l with stalls := c l.stalls, grant := none }
  exact hstalled.trans (State.laneWork_closeRun _ (ho.of_work hstalled (by rw [State.lane_modLane])))

theorem State.laneWork_starveCheck (s : State) (ho : s.OwnerAttached n) : s.LaneWork (s.starveCheck n) := by
  unfold State.starveCheck
  simp only
  split_ifs
  · exact s.laneWork_stall ho _
  · exact .refl s

theorem State.laneWork_gainJournalFull (s : State) (ho : s.OwnerAttached n) : s.LaneWork (s.gainJournalFull n) :=
  ((s.laneWork_stall ho _).trans (State.laneWork_modLane _ _ _)).trans (State.laneWork_sealOpen _ _)

theorem State.laneWork_freeLane (s : State) (n : LaneNo) : s.LaneWork (s.freeLane n) := .of_ports rfl (min_le_right _ _) (fun _ => id) rfl rfl

theorem State.laneWork_writeDue (s : State) (ho : s.OwnerAttached n) (ha : s.attached p = true) (d : Due) :
    s.LaneWork (s.writeDue n p d) := by
  unfold State.writeDue
  have hput (r : Response) := s.laneWork_ringPut ha r
  cases d with
  | checkpoint =>
    have hwritten := (hput (.lane ((s.lane n).commitRecord n .checkpoint))).trans (State.laneWork_modLane _ n fun l =>
      { l with journal := [], withdrawnSince := 0, state := .active, keptTag := none })
    exact hwritten.trans (State.laneWork_starveCheck _ (ho.of_work hwritten (by rw [State.lane_modLane, State.lane_ringPut])))
  | forced => exact (hput _).trans (State.laneWork_modLane _ _ _)
  | closed => exact (hput _).trans (State.laneWork_freeLane _ _)
  | aborted =>
    dsimp only
    split
    · exact (hput _).trans (State.laneWork_freeLane _ _)
    · exact .refl s

theorem State.laneWork_resumeAdopted (s : State) (ho : s.OwnerAttached n) : s.LaneWork (s.resumeAdopted n) := by
  unfold State.resumeAdopted
  dsimp only
  split
  · split
    · split
      · exact s.laneWork_gainJournalFull ho
      · exact .refl s
    · exact s.laneWork_starveCheck ho
  · exact .refl s

theorem Lane.clearRingFull_owner (l : Lane) : l.clearRingFull.owner = l.owner := by
  unfold Lane.clearRingFull
  split <;> rfl

theorem State.laneWork_laneWrite (s : State) (ho : s.OwnerAttached n) (ha : s.attached p = true) : s.LaneWork (s.laneWrite n p) := by
  unfold State.laneWrite
  dsimp only
  have hput (r : Response) := s.laneWork_ringPut ha r
  split
  · split
    · exact (hput _).trans (State.laneWork_modLane _ _ _)
    · exact .refl s
  · exact (hput _).trans (State.laneWork_modLane _ _ _)
  · next r _ _ =>
    have hwritten := (hput (.lane r)).trans (State.laneWork_modLane _ n fun l => Lane.clearRingFull { l with held := none })
    exact hwritten.trans (State.laneWork_resumeAdopted _ (ho.of_work hwritten (by
      rw [State.lane_modLane, Lane.clearRingFull_owner, State.lane_ringPut])))
  · split
    · exact s.laneWork_writeDue ho ha _
    · exact .refl s

theorem State.laneWork_kick (s : State) (n : LaneNo) (fuel : Nat) : s.LaneWork (s.kick n fuel) := by
  induction fuel generalizing s with
  | zero => exact .refl s
  | succ k ih =>
    unfold State.kick
    split
    · exact .refl s
    · next p hp =>
      split
      · next h =>
        simp only [Bool.and_eq_true] at h
        have ha : s.attached p = true := h.1.2
        have ho : s.OwnerAttached n := fun q hq => by rw [hp] at hq; exact Option.some.inj hq ▸ ha
        split
        · exact (s.laneWork_laneWrite ho ha).trans (ih _)
        · have hgained := s.laneWork_modLane n Lane.gainRingFull
          exact hgained.trans (State.laneWork_join _ ((hgained.attached p).trans ha) _)
      · exact .refl s

theorem State.laneWork_discardAborted (s : State) (n : LaneNo) : s.LaneWork (s.discardAborted n) :=
  (s.laneWork_discard _).trans (State.laneWork_freeLane _ _)

theorem State.laneWork_walkEnd (s : State) (n : LaneNo) : s.LaneWork (s.walkEnd n) := by
  unfold State.walkEnd
  dsimp only
  split
  · split
    · exact (s.laneWork_modLane _ _).trans (State.laneWork_kick _ _ _)
    · exact s.laneWork_discardAborted n
  · exact s.laneWork_discardAborted n

theorem State.laneWork_walkCheck (s : State) (n : LaneNo) : s.LaneWork (s.walkCheck n) := by
  unfold State.walkCheck
  dsimp only
  split
  · exact s.laneWork_walkEnd n
  · exact .refl s

theorem State.laneWork_progress (s : State) (n : LaneNo) : s.LaneWork (s.progress n) :=
  (s.laneWork_kick n 4).trans (State.laneWork_walkCheck _ n)

theorem State.laneWork_releaseWaiters (s : State) (ws : List LaneNo) (k : Option Nat) : s.LaneWork (s.releaseWaiters ws k) := by
  have hreleased (t : State) (m : LaneNo) := t.laneWork_modLane m fun l =>
    { l with waitTarget := none, stalls := { l.stalls with waiting := false } }
  refine (State.LaneWork.foldl hreleased ws s).trans ?_
  exact .of_ports rfl (min_le_right _ _) (fun _ => id) rfl rfl

/-! ### The withdrawal of a container, and PASSTHROUGH -/

theorem State.laneWork_withdrawMember (k : Nat) (acc : Nat × State) (r : SlotRef) : acc.2.LaneWork (withdrawMember k acc r).2 := by
  obtain ⟨a, s⟩ := acc
  unfold withdrawMember
  have hread := s.laneWork_readBucket r.bucket
  dsimp only
  split
  · split
    · next h => rw [h] at hread; exact hread
    · next t h =>
      rw [h] at hread
      split
      · exact hread.trans (State.laneWork_removeEntry _ _ _)
      · exact hread
  · exact .refl s

/-- The state in which a container has left the table, before its notice is made (R90 steps 1 to 3). -/
def State.withdrawing (s : State) (c : Container) : State :=
  ((c.members.foldl (withdrawMember c.number) (0, s)).2.loseContainer c false).listWithdrawn c.ownerPort c.number

theorem State.withdrawContainer_of_some {c : Container} (h : s.container? c.number = some c) (cause : WithdrawCause) :
    s.withdrawContainer c.number cause = (c.waiters.map Prod.fst, (s.withdrawing c).makeNotice c.ownerPort
      { kind := .withdrawn cause c.waiters.length, lane := c.ownerLane, container := c.number, fill := c.fill
        members := (c.members.foldl (withdrawMember c.number) (0, s)).1 }) := by
  unfold State.withdrawContainer
  rw [h]
  rfl

theorem State.container?_number {k : Nat} {c : Container} (h : s.container? k = some c) : c.number = k :=
  of_decide_eq_true (List.find?_some (p := fun d : Container => decide (d.number = k)) h)

theorem State.laneWork_withdrawing (s : State) (c : Container) : s.LaneWork (s.withdrawing c) := by
  have hmembers := State.LaneWork.foldl_beside (st := Prod.snd) (State.laneWork_withdrawMember c.number) c.members (0, s)
  exact (hmembers.trans (State.laneWork_loseContainer _ c false)).trans (State.laneWork_listWithdrawn _ _ _)

theorem State.laneWork_withdrawContainer (s : State) (k : Nat) (cause : WithdrawCause) : s.LaneWork (s.withdrawContainer k cause).2 := by
  cases h : s.container? k with
  | none =>
    have hnone : s.withdrawContainer k cause = ([], s) := by unfold State.withdrawContainer; rw [h]
    rw [hnone]
    exact .refl s
  | some c =>
    obtain rfl := State.container?_number h
    rw [State.withdrawContainer_of_some h]
    exact (s.laneWork_withdrawing c).trans (State.laneWork_makeNotice _ _ _)

/-- A withdrawn container is not in the table any more. -/
theorem State.withdrawContainer_removes (s : State) (k : Nat) (cause : WithdrawCause) :
    k ∉ (s.withdrawContainer k cause).2.table.map Container.number := by
  cases h : s.container? k with
  | none =>
    have hnone : s.withdrawContainer k cause = ([], s) := by unfold State.withdrawContainer; rw [h]
    rw [hnone]
    intro hmem
    obtain ⟨c, hc, hk⟩ := List.mem_map.mp hmem
    exact List.find?_eq_none.mp h c hc (decide_eq_true hk)
  | some c =>
    obtain rfl := State.container?_number h
    rw [State.withdrawContainer_of_some h]
    intro hmem
    have hmem' := (State.laneWork_makeNotice _ _ _).numbers hmem
    obtain ⟨d, hd, hnumber⟩ := List.mem_map.mp hmem'
    have hfiltered : d ∈ (c.members.foldl (withdrawMember c.number) (0, s)).2.table.filter fun d => decide (d.number ≠ c.number) := hd
    exact of_decide_eq_true (List.mem_filter.mp hfiltered).2 hnumber

theorem laneWork_passWithdraw (acc : List LaneNo × State) (k : Nat) : acc.2.LaneWork (passWithdraw acc k).2 := by
  unfold passWithdraw
  exact State.laneWork_withdrawContainer _ k _

/-- The containers withdrawn one after another are not in the table any more. -/
theorem passWithdraw_removes (ks : List Nat) (acc : List LaneNo × State) :
    ∀ k ∈ ks, k ∉ (ks.foldl passWithdraw acc).2.table.map Container.number := by
  induction ks generalizing acc with
  | nil => exact fun k hk => absurd hk List.not_mem_nil
  | cons k ks ih =>
    intro m hm hmem
    rw [List.foldl_cons] at hmem
    rcases List.mem_cons.mp hm with rfl | hm
    · exact State.withdrawContainer_removes acc.2 m .passthrough
        ((State.LaneWork.foldl_beside (st := Prod.snd) laneWork_passWithdraw ks (passWithdraw acc m)).numbers hmem)
    · exact ih _ m hm hmem

theorem mem_insertAscending {k m : Nat} {l : List Nat} : m ∈ insertAscending k l ↔ m = k ∨ m ∈ l := by
  induction l with
  | nil => simp [insertAscending]
  | cons a l ih =>
    unfold insertAscending
    split
    · simp
    · simp only [List.mem_cons, ih]
      tauto

theorem State.mem_containerNumbers {k : Nat} : k ∈ s.containerNumbers ↔ k ∈ s.table.map Container.number := by
  unfold State.containerNumbers
  induction s.table.map Container.number with
  | nil => simp
  | cons a l ih => rw [List.foldr_cons, mem_insertAscending, ih, List.mem_cons]

/-- The state in which the device is in PASSTHROUGH and the scanner has stopped (R191). -/
def State.passing (s : State) : State := { s with device := .passthrough, scanner := s.scanner.stop }

theorem State.laneWork_passWithdrawn (s : State) : s.passFlagged.LaneWork s.passWithdrawn.2 := by
  have h := State.LaneWork.foldl_beside (st := Prod.snd) laneWork_passWithdraw s.passFlagged.containerNumbers ([], s.passFlagged)
  dsimp only at h
  exact h

theorem State.laneWork_afterPassWithdrawn (s : State) : s.passWithdrawn.2.LaneWork s.enterPassthrough := by
  rw [State.enterPassthrough_eq]
  generalize s.passWithdrawn = acc
  exact ((State.laneWork_releaseWaiters _ _ _).trans (State.laneWork_retest _)).trans (.foldl State.laneWork_progress _ _)

/-- The entry into PASSTHROUGH stops the scanner; what follows it is work on containers and lanes (R191, R96). -/
theorem State.laneWork_enterPassthrough (s : State) : s.passing.LaneWork s.enterPassthrough := by
  have hflag : s.passing.LaneWork s.passFlagged := State.laneWork_setFlagAll _ _ _
  exact (hflag.trans s.laneWork_passWithdrawn).trans s.laneWork_afterPassWithdrawn

theorem State.passWithdrawn_table (s : State) : s.passWithdrawn.2.table.map Container.number = [] := by
  have hremoved := passWithdraw_removes s.passFlagged.containerNumbers ([], s.passFlagged)
  have hwork := s.laneWork_passWithdrawn
  rw [State.passWithdrawn] at hwork ⊢
  refine List.eq_nil_iff_forall_not_mem.mpr fun k hk => ?_
  exact hremoved k (State.mem_containerNumbers.mpr (hwork.numbers hk)) hk

/-- The entry into PASSTHROUGH withdraws every container (R96). -/
theorem State.enterPassthrough_table (s : State) : s.enterPassthrough.table = [] := by
  have hnumbers := s.laneWork_afterPassWithdrawn.numbers
  rw [State.passWithdrawn_table, List.subset_nil, List.map_eq_nil_iff] at hnumbers
  exact hnumbers

end Sys2Proof.Machine

/-! PROOFS. What an advance and a proposal that applies leave alone; and DETACH (O8). -/

namespace Sys2Proof.Machine

open Sys2Proof

/-! ### The relation -/

/-- From `s` to `t` the scanner has at most stopped, and records have at most left its queue. -/
structure Scanner.Slowed (c c' : Scanner) : Prop where
  requester : c.requester = none → c'.requester = none
  idle : c.state = .idle → c'.state = .idle
  queue : c'.queue ⊆ c.queue

/-- From `s` to `t` the part's lanes, containers, index and device state have changed, but not its epochs and its consent. The ports'
own state stands where no SETTLE is in hand, and a port not ATTACHED at which nothing waits is left alone. -/
structure State.PartWork (s t : State) : Prop where
  same : t.epoch = s.epoch ∧ t.counter = s.counter ∧ t.holds = s.holds ∧ t.advancePending = s.advancePending ∧
    t.startRequests = s.startRequests ∧ t.proposal = s.proposal ∧ t.lastEnded = s.lastEnded
  scanner : s.scanner.Slowed t.scanner
  settlings : s.settlings = [] → t.settlings = []
  ports : s.settlings = [] → ∀ q, (s.port q).Spared (t.port q)
  gone : ∀ q, (s.port q).Gone → (s.port q).hand = none →
    t.port q = { s.port q with recent := (t.port q).recent } ∧ t.memory[q] = s.memory[q]

variable {s t u : State} {p : PortNo} {n : LaneNo}

theorem Scanner.Slowed.refl (c : Scanner) : c.Slowed c := ⟨id, id, fun _ => id⟩

theorem Scanner.Slowed.trans {c c' c'' : Scanner} (h : c.Slowed c') (h' : c'.Slowed c'') : c.Slowed c'' :=
  ⟨fun hr => h'.requester (h.requester hr), fun hi => h'.idle (h.idle hi), fun _ hx => h.queue (h'.queue hx)⟩

theorem Scanner.slowed_stop (c : Scanner) : c.Slowed c.stop := ⟨fun _ => rfl, fun _ => rfl, fun _ => id⟩

theorem Scanner.slowed_reset (c : Scanner) : c.Slowed Scanner.reset := ⟨fun _ => rfl, fun _ => rfl, fun _ hx => absurd hx List.not_mem_nil⟩

theorem State.PartWork.trans (h : s.PartWork t) (h' : t.PartWork u) : s.PartWork u := by
  obtain ⟨h1, h2, h3, h4, h5, h6, h7⟩ := h.same
  obtain ⟨h1', h2', h3', h4', h5', h6', h7'⟩ := h'.same
  refine ⟨⟨h1'.trans h1, h2'.trans h2, h3'.trans h3, h4'.trans h4, h5'.trans h5, h6'.trans h6, h7'.trans h7⟩,
    h.scanner.trans h'.scanner, fun hs => h'.settlings (h.settlings hs), fun hs q => (h.ports hs q).trans (h'.ports (h.settlings hs) q),
    fun q hq hhand => ?_⟩
  obtain ⟨hport, hmemory⟩ := h.gone q hq hhand
  obtain ⟨hport', hmemory'⟩ := h'.gone q (by rw [hport]; exact hq) (by rw [hport]; exact hhand)
  refine ⟨?_, hmemory'.trans hmemory⟩
  rw [hport', hport]

/-- Work that touches no port unit and no ring. -/
theorem State.PartWork.of_ports
    (hsame : t.epoch = s.epoch ∧ t.counter = s.counter ∧ t.holds = s.holds ∧ t.advancePending = s.advancePending ∧
      t.startRequests = s.startRequests ∧ t.proposal = s.proposal ∧ t.lastEnded = s.lastEnded)
    (hscanner : s.scanner.Slowed t.scanner) (hsettlings : t.settlings = s.settlings) (hports : t.ports = s.ports)
    (hmemory : t.memory = s.memory) : s.PartWork t :=
  ⟨hsame, hscanner, fun hs => hsettlings.trans hs, fun _ q => by rw [State.port_of_ports hports]; exact .refl _,
    fun q _ _ => ⟨by rw [State.port_of_ports hports], by rw [hmemory]⟩⟩

theorem State.PartWork.refl (s : State) : s.PartWork s :=
  .of_ports ⟨rfl, rfl, rfl, rfl, rfl, rfl, rfl⟩ (.refl _) rfl rfl rfl

theorem State.LaneWork.part (h : s.LaneWork t) : s.PartWork t := by
  have hsettlings : t.settlings = s.settlings := by rw [h.frame]
  refine ⟨⟨by rw [h.frame], by rw [h.frame], by rw [h.frame], by rw [h.frame], by rw [h.frame], by rw [h.frame], by rw [h.frame]⟩,
    by rw [h.frame]; exact .refl _, fun hs => hsettlings.trans hs, fun _ => h.ports, fun q hq _ => h.gone q hq⟩

theorem State.PartWork.foldl {α : Type} {f : State → α → State} (h : ∀ (t : State) (a : α), t.PartWork (f t a)) (l : List α) (s : State) :
    s.PartWork (l.foldl f s) := by
  induction l generalizing s with
  | nil => exact .refl s
  | cons a l ih => exact (h s a).trans (ih _)

/-! ### PASSTHROUGH and policies -/

theorem State.partWork_enterPassthrough (s : State) : s.PartWork s.enterPassthrough := by
  have hpassing : s.PartWork s.passing := .of_ports ⟨rfl, rfl, rfl, rfl, rfl, rfl, rfl⟩ s.scanner.slowed_stop rfl rfl rfl
  exact hpassing.trans s.laneWork_enterPassthrough.part

/-- The state with a policy in force, before the count of poisonings is judged by it. -/
def State.withPolicy (s : State) (q : Policy) : State := { s with policy := q, stagedPolicy := none, epochTimer := q.timer }

theorem State.activatePolicy_eq (s : State) (q : Policy) : s.activatePolicy q =
    if q.threshold ≤ s.poisonCount ∧ s.device ≠ .passthrough then (s.withPolicy q).enterPassthrough else s.withPolicy q := rfl

theorem State.partWork_activatePolicy (s : State) (q : Policy) : s.PartWork (s.activatePolicy q) := by
  have hpolicy : s.PartWork (s.withPolicy q) := .of_ports ⟨rfl, rfl, rfl, rfl, rfl, rfl, rfl⟩ (.refl _) rfl rfl rfl
  rw [State.activatePolicy_eq]
  split
  · exact hpolicy.trans (State.partWork_enterPassthrough _)
  · exact hpolicy

/-! ### A device reset -/

/-- A completion leaves the ports not ATTACHED, with nothing in hand, alone. -/
theorem State.complete_gone (s : State) (p : PortNo) (c : Completion) (q : PortNo) (hq : (s.port q).Gone) (hhand : (s.port q).hand = none) :
    (s.complete p c).port q = s.port q ∧ (s.complete p c).memory[q] = s.memory[q] := by
  cases ha : s.attached p with
  | false =>
    rw [State.complete_unattached ha]
    refine ⟨?_, rfl⟩
    rw [State.port_discard]
    by_cases h : q = p
    · subst h; rw [State.port_modPort, ← hhand]
    · rw [State.port_modPort_ne _ _ _ h]
  | true =>
    have h : q ≠ p := fun e => hq.1 (of_decide_eq_true (e ▸ ha))
    cases hc : s.canWrite p with
    | true => exact (State.wrote_complete hc c).otherPorts q h
    | false =>
      rw [State.complete_held ha hc, State.port_join_ne _ h, State.port_modPort_ne _ _ _ h]
      exact ⟨rfl, rfl⟩

theorem State.finishSettling_gone (s : State) (g : Settling) (q : PortNo) (hq : (s.port q).Gone) (hhand : (s.port q).hand = none) :
    (s.finishSettling g).port q = s.port q ∧ (s.finishSettling g).memory[q] = s.memory[q] := by
  unfold State.finishSettling
  dsimp only
  split
  · exact ⟨rfl, rfl⟩
  · exact State.complete_gone { s with settlings := _ } g.sender g.completion q hq hhand

theorem State.finishSettlings_gone (s : State) (q : PortNo) (hq : (s.port q).Gone) (hhand : (s.port q).hand = none) :
    s.finishSettlings.port q = s.port q ∧ s.finishSettlings.memory[q] = s.memory[q] := by
  unfold State.finishSettlings
  generalize s.settlings.filter (fun g => g.waiters.isEmpty) = gs
  induction gs generalizing s with
  | nil => exact ⟨rfl, rfl⟩
  | cons g gs ih =>
    obtain ⟨hport, hmemory⟩ := s.finishSettling_gone g q hq hhand
    obtain ⟨hport', hmemory'⟩ := ih (s.finishSettling g) (by rw [hport]; exact hq) (by rw [hport]; exact hhand)
    exact ⟨hport'.trans hport, hmemory'.trans hmemory⟩

theorem State.finishSettling_frame (s : State) (g : Settling) : s.finishSettling g = { s with
    settlings := (s.finishSettling g).settlings, ports := (s.finishSettling g).ports, memory := (s.finishSettling g).memory
    discarded := (s.finishSettling g).discarded } := by
  unfold State.finishSettling
  dsimp only
  split
  · rfl
  · rw [State.complete_frame]

theorem State.finishSettlings_frame (s : State) : s.finishSettlings = { s with
    settlings := s.finishSettlings.settlings, ports := s.finishSettlings.ports, memory := s.finishSettlings.memory
    discarded := s.finishSettlings.discarded } := by
  unfold State.finishSettlings
  generalize s.settlings.filter (fun g => g.waiters.isEmpty) = gs
  induction gs generalizing s with
  | nil => rfl
  | cons g gs ih =>
    have h := ih (s.finishSettling g)
    rw [List.foldl_cons]
    generalize gs.foldl State.finishSettling (s.finishSettling g) = t at h ⊢
    rw [s.finishSettling_frame g] at h
    exact h

theorem State.finishSettlings_of_none (h : s.settlings = []) : s.finishSettlings = s := by
  unfold State.finishSettlings
  rw [h]
  rfl

/-- Settlements that are done, where none has waiters any more: work on the ports that are ATTACHED. -/
theorem State.partWork_finishSettlings (s : State) : s.PartWork s.finishSettlings := by
  have hframe := s.finishSettlings_frame
  have hnone : s.settlings = [] → s.finishSettlings = s := fun h => State.finishSettlings_of_none h
  refine ⟨⟨by rw [hframe], by rw [hframe], by rw [hframe], by rw [hframe], by rw [hframe], by rw [hframe], by rw [hframe]⟩,
    by rw [hframe]; exact .refl _, fun hs => by rw [hnone hs]; exact hs, fun hs q => by rw [hnone hs]; exact .refl _,
    fun q hq hhand => ?_⟩
  obtain ⟨hport, hmemory⟩ := s.finishSettlings_gone q hq hhand
  exact ⟨by rw [hport], hmemory⟩

/-- The state with the lanes, the table and the notices reset, before the settlements without waiters are done (R193). -/
def State.clearedLanes (s : State) : State :=
  { s with
    lanes := Vector.replicate 64 Lane.free, lastGranted := 63
    orphanTimers := Vector.replicate 64 none, expired := Vector.replicate 64 false, table := [], turns := []
    settlings := s.settlings.map fun g => { g with waiters := [] }
    ports := s.ports.map Port.resetRecords }

theorem State.resetLanes_eq (s : State) : s.resetLanes = s.clearedLanes.finishSettlings := rfl

theorem State.partWork_clearedLanes (s : State) : s.PartWork s.clearedLanes := by
  have hport (q : PortNo) : s.clearedLanes.port q = (s.port q).resetRecords := by simp [State.port, State.clearedLanes]
  refine ⟨⟨rfl, rfl, rfl, rfl, rfl, rfl, rfl⟩, .refl _, fun hs => ?_, fun _ q => ?_, fun q hq _ => ?_⟩
  · show s.settlings.map _ = []
    rw [hs]
    rfl
  · rw [hport]
    exact .of_summary ⟨rfl, rfl, rfl, rfl, rfl, rfl⟩ rfl
  · obtain ⟨-, hwaiting, hnotices⟩ := hq
    refine ⟨?_, rfl⟩
    rw [hport, Port.resetRecords, hwaiting, List.filter_nil, ← hwaiting, ← hnotices]

theorem State.partWork_deviceReset (s : State) : s.PartWork s.deviceReset := by
  rw [State.deviceReset_eq]
  have hlanes : s.PartWork s.resetLanes := s.partWork_clearedLanes.trans (State.partWork_finishSettlings _)
  have hindex (t : State) : t.PartWork t.resetIndex := by
    unfold State.resetIndex
    refine State.PartWork.trans ?_ (State.laneWork_changeOccupancy _ 0).part
    exact .of_ports ⟨rfl, rfl, rfl, rfl, rfl, rfl, rfl⟩ (.refl _) rfl rfl rfl
  have hrest (t : State) : t.PartWork t.resetRest :=
    .of_ports ⟨rfl, rfl, rfl, rfl, rfl, rfl, rfl⟩ t.scanner.slowed_reset rfl rfl rfl
  exact ((hlanes.trans (hindex _)).trans (hrest _)).trans (State.laneWork_setFlagAll _ _ _).part

/-! ### Proposals -/

theorem State.partWork_applyBody (s : State) (b : ProposalBody) : s.PartWork (s.applyBody b).2 := by
  have hof (t : State) (hsame : t.epoch = s.epoch ∧ t.counter = s.counter ∧ t.holds = s.holds ∧ t.advancePending = s.advancePending ∧
      t.startRequests = s.startRequests ∧ t.proposal = s.proposal ∧ t.lastEnded = s.lastEnded) (hscanner : t.scanner = s.scanner)
      (hsettlings : t.settlings = s.settlings) (hports : t.ports = s.ports) (hmemory : t.memory = s.memory) : s.PartWork t :=
    .of_ports hsame (hscanner ▸ .refl _) hsettlings hports hmemory
  unfold State.applyBody
  cases b with
  | profileInstall i prof => exact hof _ ⟨rfl, rfl, rfl, rfl, rfl, rfl, rfl⟩ rfl rfl rfl rfl
  | profileRetire i => exact hof _ ⟨rfl, rfl, rfl, rfl, rfl, rfl, rfl⟩ rfl rfl rfl rfl
  | policy q =>
    cases s.device with
    | rebuild => dsimp only; exact s.partWork_activatePolicy q
    | service => exact hof _ ⟨rfl, rfl, rfl, rfl, rfl, rfl, rfl⟩ rfl rfl rfl rfl
    | passthrough => exact hof _ ⟨rfl, rfl, rfl, rfl, rfl, rfl, rfl⟩ rfl rfl rfl rfl
  | serviceStart => cases s.device <;> exact hof _ ⟨rfl, rfl, rfl, rfl, rfl, rfl, rfl⟩ rfl rfl rfl rfl
  | deviceReset => dsimp only; exact s.partWork_deviceReset

/-- The outcome with which a proposal ends when it applies (R154). -/
theorem State.applyBody_outcome (s : State) (b : ProposalBody) :
    (s.applyBody b).1 = if b = .serviceStart ∧ s.device ≠ .rebuild then .voided else .applied := by
  unfold State.applyBody
  cases b with
  | profileInstall i prof => simp
  | profileRetire i => simp
  | policy q => cases s.device <;> simp
  | serviceStart => cases s.device <;> simp
  | deviceReset => simp

/-- The state with its open proposal ended, before the flag is set (R152). -/
def State.ended (s : State) (q : Proposal) (o : ProposalOutcome) : State :=
  { s with proposal := none, lastEnded := some { body := q.body, outcome := o } }

theorem State.PartWork.ended (h : s.PartWork t) (q : Proposal) (o : ProposalOutcome) : (s.ended q o).PartWork (t.ended q o) := by
  obtain ⟨h1, h2, h3, h4, h5, -, -⟩ := h.same
  exact ⟨⟨h1, h2, h3, h4, h5, rfl, rfl⟩, h.scanner, h.settlings, h.ports, h.gone⟩

theorem State.laneWork_endProposal {q : Proposal} (hq : s.proposal = some q) (o : ProposalOutcome) :
    (s.ended q o).LaneWork (s.endProposal o) := by
  rw [State.endProposal_eq hq]
  exact State.laneWork_setFlags _ _ _ _

/-- A proposal that applies ends with the outcome of its application (R152, R154). -/
theorem State.partWork_applyProposal {q : Proposal} (hq : s.proposal = some q) :
    (s.ended q (if q.body = .serviceStart ∧ s.device ≠ .rebuild then .voided else .applied)).PartWork s.applyProposal := by
  have hbody := s.partWork_applyBody q.body
  rw [State.applyProposal_eq hq (o := (s.applyBody q.body).1) (t := (s.applyBody q.body).2) rfl, ← State.applyBody_outcome]
  have hq' : (s.applyBody q.body).2.proposal = some q := hbody.same.2.2.2.2.2.1.trans hq
  exact (hbody.ended q _).trans (State.laneWork_endProposal hq' _).part

/-! ### A port that leaves the open proposal (R150) -/

/-- The proposal without a port. -/
def Proposal.without (q : Proposal) (p : PortNo) : Proposal :=
  { q with required := q.required.filter fun k => decide (k ≠ p), received := q.received.filter fun k => decide (k ≠ p) }

/-- The proposal waits for no port but `p`. -/
def Proposal.LastIs (q : Proposal) (p : PortNo) : Prop := ∀ k ∈ q.required, k ≠ p → k ∈ q.received

theorem Proposal.without_complete {q : Proposal} : (q.without p).complete = true ↔ q.LastIs p := by
  rw [Proposal.complete_iff]
  simp only [Proposal.without, List.mem_filter, decide_eq_true_eq]
  exact ⟨fun h k hk hne => (h k ⟨hk, hne⟩).1, fun h k ⟨hk, hne⟩ => ⟨h k hk hne, hne⟩⟩

theorem State.leaveProposal_of_none (h : s.proposal = none) : s.leaveProposal p = s := by
  unfold State.leaveProposal
  rw [h]

theorem State.leaveProposal_of_own {q : Proposal} (h : s.proposal = some q) (hp : q.proposer = p) :
    s.leaveProposal p = s.endProposal .withdrawn := by
  unfold State.leaveProposal
  rw [h]
  exact if_pos hp

theorem State.leaveProposal_of_not_required {q : Proposal} (h : s.proposal = some q) (hp : q.proposer ≠ p) (hr : p ∉ q.required) :
    s.leaveProposal p = s := by
  unfold State.leaveProposal
  rw [h]
  dsimp only
  rw [if_neg hp, if_neg hr]

theorem State.leaveProposal_of_required {q : Proposal} (h : s.proposal = some q) (hp : q.proposer ≠ p) (hr : p ∈ q.required)
    (hwait : ¬q.LastIs p) : s.leaveProposal p = { s with proposal := some (q.without p) } := by
  unfold State.leaveProposal
  rw [h]
  dsimp only
  rw [if_neg hp, if_pos hr]
  exact if_neg fun hc => hwait (Proposal.without_complete.mp hc)

theorem State.leaveProposal_of_last {q : Proposal} (h : s.proposal = some q) (hp : q.proposer ≠ p) (hr : p ∈ q.required)
    (hlast : q.LastIs p) : s.leaveProposal p = State.applyProposal { s with proposal := some (q.without p) } := by
  unfold State.leaveProposal
  rw [h]
  dsimp only
  rw [if_neg hp, if_pos hr]
  exact if_pos (Proposal.without_complete.mpr hlast)

/-! ### The checks of DETACH (R176) -/

variable {r : CommandRecord}

theorem exec_detach (p : PortNo) (errs : List DramError) (s : State) : exec (.detach p errs) s = execDetach p errs s := rfl

/-- What a port holds on to, and so cannot be detached (R176). -/
def State.Bound (s : State) (p : PortNo) : Prop :=
  (∃ n, (s.lane n).state ≠ .free ∧ (s.lane n).owner = some p) ∨ (∃ q, s.proposal = some q ∧ q.proposer = p) ∨ (s.port p).freeze = true

theorem State.detachLanes_iff :
    (allLanes.all fun n => decide ((s.lane n).state = .free) || decide ((s.lane n).owner ≠ some p)) = true ↔
      ∀ n, (s.lane n).owner = some p → (s.lane n).state = .free := by
  simp only [allLanes, List.all_eq_true, List.mem_finRange, true_implies, Bool.or_eq_true, decide_eq_true_eq]
  exact forall_congr' fun n => ⟨fun h ho => h.resolve_right fun hne => hne ho, fun h => or_iff_not_imp_right.mpr fun ho => h (not_not.mp ho)⟩

theorem State.detachChecks_of_free (hl : ∀ n, (s.lane n).owner = some p → (s.lane n).state = .free)
    (hq : ∀ q, s.proposal = some q → q.proposer ≠ p) (hf : (s.port p).freeze = false) : firstFailing (s.detachChecks p) = none := by
  unfold State.detachChecks
  rw [State.detachLanes_iff.mpr hl, hf]
  cases h : s.proposal with
  | none => rfl
  | some q => simp [hq q h]

theorem State.detachChecks_of_bound (h : s.Bound p) : firstFailing (s.detachChecks p) = some .busy := by
  unfold State.detachChecks
  cases hl : allLanes.all fun n => decide ((s.lane n).state = .free) || decide ((s.lane n).owner ≠ some p) with
  | false => rfl
  | true =>
    rcases h with ⟨n, hn, ho⟩ | ⟨q, hq, hp⟩ | hf
    · exact absurd (State.detachLanes_iff.mp hl n ho) hn
    · rw [hq]
      simp [hp]
    · rw [hf]
      cases s.proposal with
      | none => rfl
      | some q => by_cases hp : q.proposer = p <;> simp [hp]

theorem exec_detach_of_bound (h : s.Takes p r 0x02) (errs : List DramError) (hb : s.Bound p) :
    exec (.detach p errs) s = .next (((s.popQueue p).arise errs).refuse p r .busy) := by
  have hfreeze : ((s.popQueue p).port p).freeze = (s.port p).freeze := by rw [State.port_popQueue]
  have hb' : ((s.popQueue p).arise errs).Bound p := by
    rcases hb with hl | hq | hf
    · exact .inl hl
    · exact .inr (.inl hq)
    · exact .inr (.inr (hfreeze.trans hf))
  rw [exec_detach, execDetach, State.onCommand_takes h]
  dsimp only
  rw [State.detachChecks_of_bound hb']

theorem exec_detach_of_free (hfront : s.front? p = some r) (hkind : recKind r = 0x02) (ha : s.attached p = true) (errs : List DramError)
    (hl : ∀ n, (s.lane n).owner = some p → (s.lane n).state = .free) (hq : ∀ q, s.proposal = some q → q.proposer ≠ p)
    (hf : (s.port p).freeze = false) :
    exec (.detach p errs) s =
      .next (((s.popQueue p).arise errs).completeDetach p { kind := 0x02, tag := recTag r, outcome := .ok, fields := [] }) := by
  have hfreeze : (((s.popQueue p).arise errs).port p).freeze = false := by
    rw [← hf]
    show ((s.popQueue p).port p).freeze = _
    rw [State.port_popQueue]
  rw [exec_detach, execDetach, State.onCommand_of_front hfront ha hkind]
  dsimp only
  rw [State.detachChecks_of_free (s := (s.popQueue p).arise errs) hl hq hfreeze, hkind]

/-! ### A port that becomes DETACHED (R176) -/

/-- The state in which a port has become DETACHED, before it leaves the open proposal. -/
def State.detaching (s : State) (p : PortNo) : State :=
  (((s.modPort p Port.detach).discard (s.port p).waitingRecords).discardReclaims p).stopScannerOf p

theorem State.detachPort_eq (s : State) (p : PortNo) : s.detachPort p = (s.detaching p).leaveProposal p := rfl

theorem State.stopScannerOf_frame (s : State) (p : PortNo) :
    s.stopScannerOf p = { s with scanner := (s.stopScannerOf p).scanner } := by
  unfold State.stopScannerOf
  split <;> rfl

theorem State.stopScannerOf_requester (s : State) (p : PortNo) : (s.stopScannerOf p).scanner.requester ≠ some p := by
  unfold State.stopScannerOf
  split
  · exact nofun
  · next h => exact h

theorem State.discardReclaims_eq (s : State) (p : PortNo) : s.discardReclaims p = { s with
    scanner := { s.scanner with queue := s.scanner.queue.filter fun x => decide (x.port ≠ p) }
    discarded := min 4294967295 (s.discarded + (s.scanner.queue.filter fun x => decide (x.port = p)).length) } := rfl

theorem State.detaching_frame (s : State) (p : PortNo) : s.detaching p = { s.modPort p Port.detach with
    scanner := (s.detaching p).scanner, discarded := (s.detaching p).discarded } := by
  unfold State.detaching
  rw [State.stopScannerOf_frame]
  rfl

theorem State.port_detaching (s : State) (p : PortNo) : (s.detaching p).port p = (s.port p).detach := by
  rw [State.detaching_frame]
  exact State.port_modPort s p Port.detach

theorem Port.detach_gone (q : Port) : q.detach.Gone ∧ q.detach.hand = none := ⟨⟨by simp [Port.detach], rfl, rfl⟩, rfl⟩

/-- What a port that becomes DETACHED keeps, whether or not the open proposal then applies. -/
theorem State.detachPort_port (s : State) (p : PortNo) (hq : ∀ q, s.proposal = some q → q.proposer ≠ p) :
    (s.detaching p).scanner.Slowed (s.detachPort p).scanner ∧
      (s.detachPort p).port p = { (s.port p).detach with recent := ((s.detachPort p).port p).recent } ∧
      (s.detachPort p).memory[p] = s.memory[p] := by
  have hgone : ((s.detaching p).port p).Gone ∧ ((s.detaching p).port p).hand = none := by
    rw [State.port_detaching]
    exact Port.detach_gone _
  have hproposal : (s.detaching p).proposal = s.proposal := by rw [State.detaching_frame]; rfl
  have hmemory : (s.detaching p).memory = s.memory := by rw [State.detaching_frame]; rfl
  have hport := s.port_detaching p
  rw [State.detachPort_eq]
  generalize s.detaching p = d at hgone hproposal hmemory hport
  rw [← hport, ← hmemory]
  have hsame : d.scanner.Slowed d.scanner ∧ d.port p = { d.port p with recent := (d.port p).recent } ∧ d.memory[p] = d.memory[p] :=
    ⟨.refl _, rfl, rfl⟩
  cases hd : d.proposal with
  | none =>
    rw [State.leaveProposal_of_none hd]
    exact hsame
  | some q =>
    have hp := hq q (hproposal ▸ hd)
    by_cases hr : p ∈ q.required
    · by_cases hlast : q.LastIs p
      · rw [State.leaveProposal_of_last hd hp hr hlast]
        have hwork := State.partWork_applyProposal (s := { d with proposal := some (q.without p) }) rfl
        obtain ⟨hport', hmemory'⟩ := hwork.gone p hgone.1 hgone.2
        exact ⟨hwork.scanner, hport', hmemory'⟩
      · rw [State.leaveProposal_of_required hd hp hr hlast]
        exact hsame
    · rw [State.leaveProposal_of_not_required hd hp hr]
      exact hsame

theorem State.detachPort_scanner (s : State) (p : PortNo) (hq : ∀ q, s.proposal = some q → q.proposer ≠ p)
    (hr : s.scanner.requester = some p) : (s.detachPort p).scanner.requester = none := by
  refine (s.detachPort_port p hq).1.requester ?_
  unfold State.detaching
  rw [State.stopScannerOf, if_pos (by exact hr)]
  rfl

/-! ### The completion of a DETACH (R176) -/

/-- The state in which the completion of a DETACH has been written. -/
def State.answeredDetach (s : State) (p : PortNo) (c : Completion) : State :=
  (s.ringPut p (.completion c)).modPort p fun q => { q with hand := none }

theorem State.completeDetach_of_free (h : s.canWrite p = true) (c : Completion) :
    s.completeDetach p c = (s.answeredDetach p c).detachPort p := if_pos h

theorem State.completeDetach_of_full (h : s.canWrite p = false) (c : Completion) :
    s.completeDetach p c = (s.modPort p fun q => { q with hand := some (.completion c true) }).join p .command :=
  if_neg (by rw [h]; exact Bool.false_ne_true)

theorem State.wrote_answeredDetach (h : s.canWrite p = true) (c : Completion) :
    s.Wrote (s.answeredDetach p c) p (.completion c) { (s.port p).advanced with hand := none } := by
  obtain ⟨g, hg⟩ := State.canWrite_ring h
  exact (s.wrote_ringPut p (.completion c) (by rw [hg]; rfl)).modPort fun _ => rfl

theorem State.answeredDetach_frame (s : State) (p : PortNo) (c : Completion) : s.answeredDetach p c = { s with
    ports := (s.answeredDetach p c).ports, memory := (s.answeredDetach p c).memory } := by
  unfold State.answeredDetach
  rw [State.ringPut_frame]
  rfl

/-- The proposal that a detached port leaves (R150). -/
theorem State.detachPort_proposal (s : State) (p : PortNo) (hq : ∀ q, s.proposal = some q → q.proposer ≠ p) :
    (s.proposal = none → (s.detachPort p).proposal = none) ∧
    ∀ q, s.proposal = some q →
      (p ∉ q.required → (s.detachPort p).proposal = some q) ∧
      (p ∈ q.required → ¬q.LastIs p → (s.detachPort p).proposal = some (q.without p)) ∧
      (p ∈ q.required → q.LastIs p → (s.detachPort p).proposal = none ∧ (s.detachPort p).lastEnded = some
        { body := q.body, outcome := if q.body = .serviceStart ∧ s.device ≠ .rebuild then .voided else .applied }) := by
  have hproposal : (s.detaching p).proposal = s.proposal := by rw [State.detaching_frame]; rfl
  have hdevice : (s.detaching p).device = s.device := by rw [State.detaching_frame]; rfl
  rw [State.detachPort_eq]
  generalize s.detaching p = d at hproposal hdevice
  rw [← hproposal, ← hdevice]
  refine ⟨fun hd => by rw [State.leaveProposal_of_none hd, hd], fun q hd => ?_⟩
  have hp := hq q (hproposal ▸ hd)
  refine ⟨fun hr => by rw [State.leaveProposal_of_not_required hd hp hr, hd],
    fun hr hlast => by rw [State.leaveProposal_of_required hd hp hr hlast], fun hr hlast => ?_⟩
  rw [State.leaveProposal_of_last hd hp hr hlast]
  obtain ⟨-, -, -, -, -, hnone, hended⟩ := (State.partWork_applyProposal (s := { d with proposal := some (q.without p) }) rfl).same
  exact ⟨hnone, hended⟩

/-- A freed position granted to the completion of a DETACH: the port is DETACHED, and the other writers are granted nothing. -/
theorem State.drain_of_detach {c : Completion} {rest : List Writer} (hw : (s.port p).waiting = .command :: rest)
    (ha : s.attached p = true) (hfree : 0 < (s.port p).free) (hhand : (s.port p).hand = some (.completion c true))
    (hq : s.proposal = none) (k : Nat) :
    s.drain p (k + 1) = ((s.modPort p fun q => { q with waiting := rest }).answeredDetach p c).detaching p := by
  generalize hu : (s.modPort p fun q => { q with waiting := rest }) = u
  have hport : (u.port p).hand = some (.completion c true) := by rw [← hu, State.port_modPort]; exact hhand
  have hwrite : u.writeAs p .command = (u.answeredDetach p c).detachPort p := by
    rw [State.writeAs, State.writeCompletion, hport]
    rfl
  have hproposal : ((u.answeredDetach p c).detaching p).proposal = none := by
    rw [State.detaching_frame]
    show (u.answeredDetach p c).proposal = none
    rw [State.answeredDetach_frame, ← hu]
    exact hq
  rw [State.detachPort_eq, State.leaveProposal_of_none hproposal] at hwrite
  have hdetached := (u.answeredDetach p c).port_detaching p
  generalize (u.answeredDetach p c).detaching p = d at hwrite hdetached
  have hd : d.attached p = false := by
    rw [State.attached, hdetached]
    rfl
  rw [State.drain, hw]
  dsimp only
  rw [ha, decide_eq_true hfree, Bool.and_true, if_pos rfl, hu, hwrite, hd, Bool.false_and, if_neg Bool.false_ne_true]
  exact State.drain_of_none_waiting (by rw [hdetached]; rfl) k

/-- Settles O8: the port that holds on to something, the completion written at once, held, and granted a position. -/
theorem detachLeavesOrIsBusy : Obligations.DetachLeavesOrIsBusy := by
  unfold Obligations.DetachLeavesOrIsBusy
  refine ⟨fun s p r errs h => ⟨fun hb => ?busy, fun hl hq hf => ?leaves⟩, fun s p r errs hfront hkind ha hc hl hq hf => ?held,
    fun s p v errs g c rest ha hrings hv hfree hhand hw hl hq hr => ?granted⟩
  case busy =>
    obtain ⟨hanswered, hframe⟩ := h.answers ((s.popQueue p).arise errs) rfl rfl .busy []
    exact ⟨_, exec_detach_of_bound h errs hb, hanswered, hframe⟩
  case leaves =>
    have hexec := exec_detach_of_free h.front h.kind_eq h.isAttached errs hl hq hf
    have hcan : ((s.popQueue p).arise errs).canWrite p = true := State.canWrite_popQueue.trans h.writes
    rw [State.completeDetach_of_free hcan] at hexec
    have hwrote := State.wrote_answeredDetach hcan { kind := 0x02, tag := recTag r, outcome := .ok, fields := [] }
    have hframe := ((s.popQueue p).arise errs).answeredDetach_frame p { kind := 0x02, tag := recTag r, outcome := .ok, fields := [] }
    generalize ((s.popQueue p).arise errs).answeredDetach p { kind := 0x02, tag := recTag r, outcome := .ok, fields := [] } = a
      at hexec hwrote hframe
    have hproposal : a.proposal = s.proposal := by rw [hframe]; rfl
    have hdevice : a.device = s.device := by rw [hframe]; rfl
    have hq' : ∀ q, a.proposal = some q → q.proposer ≠ p := fun q hd => hq q (hproposal ▸ hd)
    obtain ⟨hslowed, hport, hmemory⟩ := a.detachPort_port p hq'
    obtain ⟨hnone, hsome⟩ := a.detachPort_proposal p hq'
    have hscanner : s.scanner.requester = some p → (a.detachPort p).scanner.requester = none :=
      fun hr => a.detachPort_scanner p hq' (by rw [hframe]; exact hr)
    rw [hproposal, hdevice] at hsome
    rw [hproposal] at hnone
    refine ⟨_, hexec, by rw [hport]; rfl, by rw [hport]; rfl, by rw [hport]; rfl, by rw [hport]; rfl, by rw [hport]; rfl,
      by rw [hport]; rfl, by rw [hport]; rfl, hscanner, ?_, hnone, fun q hd => ?_⟩
    · have hrecord := hwrote.record
      have hpopped : ((s.popQueue p).arise errs).port p = { s.port p with queue := (s.port p).queue.drop 1 } := s.port_popQueue p
      rw [hpopped] at hrecord
      rw [← hrecord]
      unfold State.ringRecord
      rw [hport, hmemory]
      rfl
    · obtain ⟨hout, hmissing, hlast⟩ := hsome q hd
      refine ⟨hout, fun hr ⟨k, hk, hne, hk'⟩ => hmissing hr fun hall => hk' (hall k hk hne), fun hr hall => hlast hr hall⟩
  case held =>
    have hexec := exec_detach_of_free hfront hkind ha errs hl hq hf
    have hcan : ((s.popQueue p).arise errs).canWrite p = false := State.canWrite_popQueue.trans hc
    rw [State.completeDetach_of_full hcan] at hexec
    have hpopped : ((s.popQueue p).arise errs).port p = { s.port p with queue := (s.port p).queue.drop 1 } := s.port_popQueue p
    refine ⟨_, hexec, ?_, ?_, fun q hne => ?_, rfl⟩
    · rw [State.port_join, State.port_modPort, hpopped]
      rfl
    · unfold State.front?
      rw [State.port_join, State.port_modPort]
      exact if_pos (.inr rfl)
    · rw [State.port_join_ne _ hne, State.port_modPort_ne _ _ _ hne]
      exact s.port_popQueue_ne p hne
  case granted =>
    have hexec := exec_consumerIndexWrite_of_attached ha v errs
    have hconsumed := Port.consumed_of_lt hrings.ring hv
    have hfree' : 0 < ((s.port p).consumed v).free := by rw [hconsumed]; exact hfree
    obtain ⟨k, hk⟩ : ∃ k, ((s.port p).consumed v).free = k + 1 := ⟨_, (Nat.succ_pred_eq_of_pos hfree').symm⟩
    rw [hk] at hexec
    generalize hu : ((s.arise errs).modPort p fun q => q.consumed v) = u at hexec
    have huport : u.port p = { s.port p with watchdog := some (s.port p).period, consumer := v } := by
      rw [← hconsumed, ← hu]
      exact State.port_modPort _ _ _
    have hother (q : PortNo) (hne : q ≠ p) : u.port q = s.port q := by rw [← hu]; exact State.port_modPort_ne _ _ _ hne
    have honly : u = { s with ports := u.ports, damage := s.damage ++ errs } := by rw [← hu]; rfl
    have hdrain := State.drain_of_detach (s := u) (c := c) (by rw [huport]; exact hw) (by rw [State.attached, huport]; exact ha)
      (by rw [huport, ← hconsumed]; exact hfree') (by rw [huport]; exact hhand) (by rw [honly]; exact hq) k
    have hwrote := (State.wrote_unlisted (s := u) (p := p) (g := g) (by rw [huport]; exact hrings.ring) rest (.completion c)).modPort
      (f := fun q => { q with hand := none }) fun _ => rfl
    have hframe := (u.modPort p fun q => { q with waiting := rest }).answeredDetach_frame p c
    rw [hdrain] at hexec
    change u.Wrote ((u.modPort p fun q => { q with waiting := rest }).answeredDetach p c) p _ _ at hwrote
    generalize (u.modPort p fun q => { q with waiting := rest }).answeredDetach p c = a at hexec hwrote hframe
    have hadvanced : (u.port p).advanced = { (s.port p).advanced with watchdog := some (s.port p).period, consumer := v } := by
      rw [huport, Port.advanced_of_ring hrings.ring, Port.advanced_of_ring (q := { s.port p with watchdog := _, consumer := v }) hrings.ring]
    have haport : a.port p = { (s.port p).advanced with
        watchdog := some (s.port p).period, consumer := v, waiting := rest, hand := none } := by
      rw [hwrote.port, hadvanced]
    have hrecords : (a.port p).waitingRecords = (s.port p).notices.length + bit (s.port p).attnHeld := by
      rw [haport, Port.waitingRecords, Port.advanced_of_ring hrings.ring]
      exact congrArg (· + bit (s.port p).attnHeld) (Nat.zero_add _)
    have hdetaching : a.detaching p = ((a.modPort p Port.detach).discard (a.port p).waitingRecords).discardReclaims p := by
      refine if_neg ?_
      show a.scanner.requester ≠ some p
      rw [hframe, honly]
      exact hr
    have hdport := a.port_detaching p
    have hdframe := a.detaching_frame p
    refine ⟨_, hexec, ?_, ?_, fun q hne => ?_, ?_⟩
    · have hrecord := hwrote.record
      rw [huport] at hrecord
      rw [← hrecord]
      unfold State.ringRecord
      rw [hdport, hdframe]
      rfl
    · rw [hdport, haport]
      rfl
    · obtain ⟨hports, hmemories⟩ := hwrote.otherPorts q hne
      rw [hdframe]
      refine ⟨?_, hmemories.trans (by rw [honly])⟩
      exact (State.port_modPort_ne a p Port.detach hne).trans (hports.trans (hother q hne))
    · have hascanner : a.scanner = s.scanner := by rw [hframe, honly]; rfl
      have hadiscarded : a.discarded = s.discarded := by rw [hframe, honly]; rfl
      have hscanner : (a.detaching p).scanner =
          { s.scanner with queue := s.scanner.queue.filter fun x => decide (x.port ≠ p) } := by
        rw [hdetaching, ← hascanner]
        rfl
      have hdiscarded : (a.detaching p).discarded = min 4294967295 (s.discarded + (s.port p).notices.length + bit (s.port p).attnHeld +
          (s.scanner.queue.filter fun x => decide (x.port = p)).length) := by
        have hcounted : (a.detaching p).discarded = min 4294967295 (min 4294967295 (a.discarded + (a.port p).waitingRecords) +
            (a.scanner.queue.filter fun x => decide (x.port = p)).length) := by
          rw [hdetaching]
          rfl
        rw [hcounted, hadiscarded, hascanner, hrecords]
        omega
      generalize a.detaching p = t at hdframe hscanner hdiscarded
      rw [← hscanner, ← hdiscarded, hdframe, hframe, honly]
      rfl

end Sys2Proof.Machine

/-! PROOFS. The records a lane writes (R65, R113, R179), the entry into ABORTING, and adoption (O17, O18). -/

namespace Sys2Proof.Machine

open Sys2Proof

variable {s t : State} {p : PortNo} {n : LaneNo} {r : CommandRecord}

/-! ### Lane records -/

theorem State.LaneBecomes.of_lanes {u : State} {l : Lane} (h : s.LaneBecomes u n l) (hl : t.lanes = u.lanes) : s.LaneBecomes t n l := by
  have hlane (m : LaneNo) : t.lane m = u.lane m := by rw [State.lane, hl]; rfl
  exact ⟨(hlane n).trans h.1, fun m hm => (hlane m).trans (h.2 m hm)⟩

/-- A lane set in a state with the lanes of `s`. -/
theorem State.laneBecomes_of_setLane {e : State} {l : Lane} (he : e.lanes = s.lanes) (ht : t.lanes = (e.setLane n l).lanes) :
    s.LaneBecomes t n l := by
  refine State.LaneBecomes.of_lanes (u := s.setLane n l) (State.laneBecomes_setLane l) ?_
  rw [ht, State.setLane, State.setLane, he]

/-! ### The lane as a writer (R179) -/

theorem State.kick_of_no_owner (h : (s.lane n).owner = none) (k : Nat) : s.kick n k = s := by
  cases k with
  | zero => rfl
  | succ k =>
    unfold State.kick
    rw [h]

/-- A record that finds a free position is written, and the lane goes on. -/
theorem State.kick_of_free (ho : (s.lane n).owner = some p) (hr : (s.lane n).hasRecord = true) (hc : s.canWrite p = true) (k : Nat) :
    s.kick n (k + 1) = (s.laneWrite n p).kick n k := by
  have hwaiting := State.canWrite_waiting hc
  rw [State.kick, ho]
  dsimp only
  rw [hr, State.canWrite_attached hc, hwaiting, hc]
  rfl

/-- A record that finds none makes the lane wait. -/
theorem State.kick_of_full (ho : (s.lane n).owner = some p) (hr : (s.lane n).hasRecord = true) (ha : s.attached p = true)
    (hc : s.canWrite p = false) (hw : Writer.lane n ∉ (s.port p).waiting) (k : Nat) :
    s.kick n (k + 1) = (s.modLane n Lane.gainRingFull).join p (.lane n) := by
  rw [State.kick, ho]
  dsimp only
  rw [hr, ha, decide_eq_false hw, hc]
  rfl

/-- With neither run nor held record the lane writes the LANE record that is due. -/
theorem State.laneWrite_of_due (hr : (s.lane n).run = none) (hh : (s.lane n).held = none) {d : Due} (hd : (s.lane n).due = some d) :
    s.laneWrite n p = s.writeDue n p d := by
  unfold State.laneWrite
  dsimp only
  rw [hr, hh, hd]

/-- A walk that has ended leaves the ABORTED record due (R113). -/
theorem Lane.due_of_walkEnded {l : Lane} {a : AbortRecord} (hs : l.state = .aborting) (hr : l.run = none) (hh : l.held = none)
    (ha : l.abort = some a) (hw : a.walkEnded = true) : l.due = some .aborted := by
  simp [Lane.due, hs, hr, hh, ha, hw]

theorem Lane.hasRecord_of_walkEnded {l : Lane} {a : AbortRecord} (hs : l.state = .aborting) (ha : l.abort = some a)
    (hw : a.walkEnded = true) : l.hasRecord = true := by
  simp [Lane.hasRecord, hs, ha, hw]

theorem ProfileSlot.giveUp_of_losesLane {a b : ProfileSlot} (h : a.LosesLane b) : a.giveUp = b := by
  rcases h with ⟨prof, roll, k, rfl, rfl⟩ | ⟨prof, roll, k, rfl, rfl⟩ | ⟨prof, roll, rfl, rfl⟩
  · rfl
  · have hmany : ¬k + 2 ≤ 1 := by omega
    rw [ProfileSlot.giveUp, if_neg hmany]
    rfl
  · rfl

/-! ### The entry into ABORTING (R109) -/

/-- The table with a lane gone from every waiter list (R95). -/
def State.unwaited (s : State) (n : LaneNo) : List Container :=
  s.table.map fun c => { c with waiters := c.waiters.filter fun w => decide (w.1 ≠ n) }

theorem State.leaveWriters_none {w : Writer} (h : ∀ q, w ∉ (s.port q).waiting) : s.leaveWriters w = s := by
  have hports : (s.ports.map fun q => { q with waiting := q.waiting.filter fun v => decide (v ≠ w) }) = s.ports := by
    refine Vector.ext fun q hq => ?_
    rw [Vector.getElem_map]
    have hfilter : s.ports[q].waiting.filter (fun v => decide (v ≠ w)) = s.ports[q].waiting :=
      List.filter_eq_self.mpr fun v hv => decide_eq_true fun e => h ⟨q, hq⟩ (e ▸ hv)
    rw [hfilter]
  unfold State.leaveWriters
  rw [hports]

/-- A lane leaves every waiter list, where no SETTLE is in hand and no turn is taken. -/
theorem State.leaveWaiters_quiet (hs : s.settlings = []) (ht : s.turns = []) : s.leaveWaiters n = { s with table := s.unwaited n } := by
  have hleft : State.leaveTurn { s with table := s.unwaited n, settlings := s.settlings.map fun g =>
      { g with waiters := g.waiters.filter fun w => decide (w.1 ≠ n) } } n = { s with table := s.unwaited n } := by
    rw [hs]
    unfold State.leaveTurn State.settleTurns
    rw [ht]
    simp only [List.map_nil, List.filter_nil]
  unfold State.leaveWaiters
  exact (congrArg State.finishSettlings hleft).trans (State.finishSettlings_of_none hs)

/-- The entry into ABORTING of a lane that waits for no ring. -/
theorem State.enterAborting_quiet (hs : s.settlings = []) (ht : s.turns = []) (hw : ∀ q, Writer.lane n ∉ (s.port q).waiting)
    (cause : AbortCause) : s.enterAborting n cause = { s.setLane n ((s.lane n).enterAborting cause) with
      orphanTimers := s.orphanTimers.set n none, table := s.unwaited n } := by
  unfold State.enterAborting
  rw [State.leaveWaiters_quiet hs ht, State.leaveWriters_none (s := { s with table := s.unwaited n }) hw]
  rfl

/-- The walk of a lane without an owner port ends with its records discarded (R113). -/
theorem State.walkCheck_of_orphan (hs : (s.lane n).state = .aborting) (hu : (s.lane n).unsettled = []) (hj : (s.lane n).journal = [])
    {a : AbortRecord} (ha : (s.lane n).abort = some a) (hw : a.walkEnded = false) (ho : (s.lane n).owner = none) :
    s.walkCheck n = s.discardAborted n := by
  unfold State.walkCheck
  rw [if_pos ⟨hs, hu, hj, by rw [ha]; exact hw⟩, State.walkEnd]
  simp only [ho]

/-- The walk of a lane whose owner port takes its record at once ends with it (R113). -/
theorem State.walkCheck_of_owner (hs : (s.lane n).state = .aborting) (hu : (s.lane n).unsettled = []) (hj : (s.lane n).journal = [])
    {a : AbortRecord} (ha : (s.lane n).abort = some a) (hw : a.walkEnded = false) (hd : a.discard = false)
    (ho : (s.lane n).owner = some p) (hr : (s.lane n).run = none) (hh : (s.lane n).held = none) (hc : s.canWrite p = true) :
    ∃ l, l.slot = (s.lane n).slot ∧
      s.walkCheck n = ((s.setLane n l).ringPut p (.lane ((s.lane n).abortedRecord n a))).freeLane n := by
  refine ⟨{ s.lane n with abort := some { a with walkEnded := true } }, rfl, ?_⟩
  have hended : s.walkEnd n = (s.modLane n fun l => { l with abort := some { a with walkEnded := true } }).kick n 4 := by
    unfold State.walkEnd
    dsimp only
    rw [ho, ha]
    dsimp only
    rw [State.canWrite_attached hc, hd]
    rfl
  unfold State.walkCheck
  rw [if_pos ⟨hs, hu, hj, by rw [ha]; exact hw⟩, hended, State.modLane]
  generalize hx : s.setLane n { s.lane n with abort := some { a with walkEnded := true } } = x
  have hlane : x.lane n = { s.lane n with abort := some { a with walkEnded := true } } := by rw [← hx, State.lane_setLane_self]
  have hcan : x.canWrite p = true := by rw [← hx]; exact hc
  have hdue : (x.lane n).due = some .aborted := Lane.due_of_walkEnded (by rw [hlane]; exact hs) (by rw [hlane]; exact hr)
    (by rw [hlane]; exact hh) (by rw [hlane]) rfl
  have hwrite : x.laneWrite n p = (x.ringPut p (.lane ((s.lane n).abortedRecord n a))).freeLane n := by
    rw [State.laneWrite_of_due (by rw [hlane]; exact hr) (by rw [hlane]; exact hh) hdue, State.writeDue]
    simp only [hlane]
    rfl
  rw [State.kick_of_free (by rw [hlane]; exact ho)
    (Lane.hasRecord_of_walkEnded (a := { a with walkEnded := true }) (by rw [hlane]; exact hs) (by rw [hlane]) rfl) hcan, hwrite]
  refine State.kick_of_no_owner ?_ 3
  rw [State.freeLane, State.lane_setLane_self]
  rfl

/-! ### Two records in one ring -/

/-- Of two records written one after the other, the first stays where it stands and the second follows it. -/
theorem State.Wrote.pair {u : State} {a b : Response} {q q' : Port} (h : s.Wrote t p a q) (h' : t.Wrote u p b q') {g : Ring}
    (hg : (s.port p).Rings g) (hring : q.ring = some g) (hring' : q'.ring = some g)
    (hproducer : q.producer = (s.port p).advanced.producer) (hpass : q.pass = (s.port p).advanced.pass) :
    u.ringRecord p (s.port p).producer = a.bytes p (s.port p).pass ∧
      u.ringRecord p (s.port p).advanced.producer = b.bytes p (s.port p).advanced.pass := by
  have hport := h.port
  have hmoved : (s.port p).producer ≠ (s.port p).advanced.producer := by
    have hsize := hg.size
    rw [Port.advanced_of_ring hg.ring]
    dsimp only
    split <;> omega
  constructor
  · have hkept := h'.ring g (ringAddress g (s.port p).producer) (by rw [hport, hring]) fun e =>
      hmoved (by
        rw [hport, hproducer] at e
        exact ringAddress_injective hg.size.2 hg.producer hg.advanced.producer e)
    have hrecord := h.record
    rw [State.ringRecord, hport, hring] at hrecord
    rw [State.ringRecord, h'.port, hring']
    exact hkept.trans hrecord
  · have hrecord := h'.record
    rwa [hport, hproducer, hpass] at hrecord

theorem Port.answered_advanced (q : Port) : q.answered.advanced = { q.advanced.advanced with queue := q.queue.drop 1, hand := none } := by
  cases h : q.ring <;> simp [Port.answered, Port.advanced, h]

/-- A port that has taken a command with two free positions has one left after the answer. -/
theorem State.Answered.canWrite {kind : Nat} {o : Outcome} {fs : List Field} (h : s.Takes p r kind) (ha : s.Answered t p r o fs) {g : Ring}
    (hg : (s.port p).Rings g) (hfree : 2 ≤ (s.port p).free) : t.canWrite p = true := by
  have hport : t.port p = (s.port p).answered := ha.port
  have hone := Port.free_advanced hg (by omega)
  obtain ⟨producer, pass, hadvanced⟩ := Port.advanced_eq (s.port p)
  have hpos : 0 < (s.port p).answered.free := by
    have hsame : (s.port p).answered.free = (s.port p).advanced.free := rfl
    omega
  have hstate : (s.port p).answered.state = .attached := by rw [Port.answered, hadvanced]; exact h.state_eq
  have hwaiting : (s.port p).answered.waiting = [] := by rw [Port.answered, hadvanced]; exact State.canWrite_waiting h.writes
  simp [State.canWrite, State.attached, hport, hstate, hwaiting, hpos]

/-! ### A lane is aborted (O17) -/

/-- The lane of ABORT_LANE enters ABORTING as the command is answered (R109). -/
theorem State.Takes.enters {kind : Nat} (h : s.Takes p r kind) (hs : s.settlings = []) (ht : s.turns = [])
    (hw : ∀ q, Writer.lane n ∉ (s.port q).waiting) (o : Outcome) (cause : AbortCause)
    (hu : ((s.popQueue p).reply p r o []).enterAborting n cause = t) :
    s.Answered t p r o [] ∧ s.LaneBecomes t n ((s.lane n).enterAborting cause) ∧ t.discarded = s.discarded ∧
      t = { s with ports := t.ports, memory := t.memory, lanes := t.lanes, orphanTimers := s.orphanTimers.set n none,
                   table := s.unwaited n } := by
  obtain ⟨hanswered, hframe⟩ := h.answers (s.popQueue p) rfl rfl o []
  have hdiscarded := (h.answered (e := s.popQueue p) ringNeutral_id rfl (fun q hq => State.port_popQueue_ne s p hq) rfl o []).2
  generalize (s.popQueue p).reply p r o [] = x at *
  have hwaiting : ∀ q, Writer.lane n ∉ (x.port q).waiting := fun q => by
    by_cases hq : q = p
    · subst hq
      obtain ⟨producer, pass, hadvanced⟩ := Port.advanced_eq (s.port q)
      rw [hanswered.port]
      exact fun hmem => hw q (by rw [id, Port.answered, hadvanced] at hmem; exact hmem)
    · rw [(hanswered.otherPorts q hq).1]
      exact hw q
  have hlanes : x.lanes = s.lanes := by rw [hframe]; rfl
  have hlane : x.lane n = s.lane n := by rw [State.lane, hlanes]; rfl
  have hquiet := State.enterAborting_quiet (s := x) (by rw [hframe]; exact hs) (by rw [hframe]; exact ht) hwaiting cause
  rw [hquiet, hlane] at hu
  subst hu
  refine ⟨⟨hanswered.record, hanswered.port, hanswered.otherPorts, hanswered.ring⟩, State.laneBecomes_of_setLane hlanes rfl, hdiscarded, ?_⟩
  have htable : x.unwaited n = s.unwaited n := by rw [hframe]; rfl
  rw [htable, hframe]
  rfl

theorem State.abortChecks_pass
    (h : (s.lane n).owner = some p ∧ (s.lane n).state.serves = true ∨
      (s.lane n).owner = none ∧ (s.lane n).state = .orphaned ∧ s.QuietPassed n) :
    firstFailing (s.abortChecks p n) = none := by
  unfold State.abortChecks State.isOrphaned
  rcases h with ⟨ho, hs⟩ | ⟨ho, hs, hq⟩
  · have hserves : (s.lane n).state ∈ [LaneState.active, .checkpointing, .closing, .orphaned] ∧ (s.lane n).state ≠ .orphaned := by
      rw [LaneState.serves_iff] at hs
      revert hs
      cases (s.lane n).state <;> decide
    simp [ho, hserves.1, hserves.2]
  · simp [ho, hs, (State.quietPassed_iff n).mpr hq]

/-- The records an ABORTING lane holds are discarded, and it is FREE (R113). -/
theorem State.discardAborted_frame {slot : ProfileSlot} {i : Fin 4} {run held : Bool} (hi : (s.lane n).slot = i)
    (hslot : s.slots[i].LosesLane slot) (hr : (s.lane n).run.isSome = run) (hh : (s.lane n).held.isSome = held) :
    s.discardAborted n = { s.setLane n Lane.free with
      slots := s.slots.set i slot, discarded := min 4294967295 (s.discarded + (1 + bit run + bit held)) } := by
  subst hi hr hh
  have hcount : addTo Config.max32 (bit (s.lane n).run.isSome + bit (s.lane n).held.isSome + 1) s.discarded =
      min 4294967295 (s.discarded + (1 + bit (s.lane n).run.isSome + bit (s.lane n).held.isSome)) := by
    simp only [addTo, Config.max32]
    omega
  rw [← hcount, ← ProfileSlot.giveUp_of_losesLane hslot]
  rfl

theorem exec_orphanLimitExpiry (n : LaneNo) (s : State) : exec (.orphanLimitExpiry n) s = execOrphanLimitExpiry n s := rfl

theorem exec_orphanLimitExpiry_of_due (hs : (s.lane n).state = .orphaned) (ht : s.orphanTimers[n] = some 0) :
    exec (.orphanLimitExpiry n) s = .next
      ((State.walkCheck (State.enterAborting { s with expired := s.expired.set n true } n .orphanExpired) n).setFlagAll
        .orphanExpired (.lanes [n])) := by
  rw [exec_orphanLimitExpiry, execOrphanLimitExpiry, State.isOrphaned, hs, ht]
  rfl

theorem State.freeLane_of_slot {i : Fin 4} (h : (s.lane n).slot = i) :
    s.freeLane n = { s with slots := s.slots.set i s.slots[i].giveUp }.setLane n Lane.free := by
  subst h
  rfl

/-- A lane freed after a record of it has been written. -/
theorem State.freeLane_ringPut {slot : ProfileSlot} {l : Lane} {a : Response} {i : Fin 4} (hl : l.slot = i)
    (hslot : s.slots[i].LosesLane slot) (ht : ((s.setLane n l).ringPut p a).freeLane n = t) :
    t = { s.setLane n Lane.free with ports := t.ports, memory := t.memory, slots := s.slots.set i slot } := by
  have hframe := State.ringPut_frame (s := s.setLane n l) (p := p) a
  have hslots : (((s.setLane n l).ringPut p a).lane n).slot = i := by rw [State.lane_ringPut, State.lane_setLane_self, hl]
  generalize (s.setLane n l).ringPut p a = u at *
  obtain ⟨ports, memory, hu⟩ : ∃ ports memory, u = { s.setLane n l with ports := ports, memory := memory } := ⟨_, _, hframe⟩
  rw [State.freeLane_of_slot hslots] at ht
  subst hu ht
  rw [← ProfileSlot.giveUp_of_losesLane hslot]
  simp only [State.setLane, Vector.set_set]

/-- The abort record at the entry into ABORTING (R109). -/
def AbortRecord.begun (cause : AbortCause) (stateAt : LaneState) : AbortRecord :=
  { cause := cause, stateAt := stateAt, withdrawn := 0, released := 0, pinned := 0, stale := 0, underflow := 0, poisoned := 0,
    skipped := 0, walkEnded := false, discard := false }

theorem Lane.enterAborting_abort (l : Lane) (cause : AbortCause) : (l.enterAborting cause).abort = some (.begun cause l.state) := rfl

/-- O17: ABORT_LANE of a lane with neither containers nor journal entries, whose ring takes ACCEPTED and the ABORTED record. -/
theorem State.Takes.aborted_at_once (h : s.Takes p r 0x08) {g : Ring} {slot : ProfileSlot} (hu : (s.lane n).unsettled = [])
    (hj : (s.lane n).journal = []) (hs : s.settlings = []) (ht : s.turns = []) (hw : ∀ q, Writer.lane n ∉ (s.port q).waiting)
    (hslot : s.slots[(s.lane n).slot].LosesLane slot) (ho : (s.lane n).owner = some p) (hr : (s.lane n).run = none)
    (hh : (s.lane n).held = none) (hg : (s.port p).Rings g) (hfree : 2 ≤ (s.port p).free)
    (htt : (((s.popQueue p).reply p r .accepted []).enterAborting n .command).walkCheck n = t) :
    t.ringRecord p (s.port p).producer =
        (Response.completion { kind := recKind r, tag := recTag r, outcome := .accepted, fields := [] }).bytes p (s.port p).pass ∧
      t.ringRecord p (s.port p).advanced.producer =
        (Response.lane (((s.lane n).enterAborting .command).abortedRecord n (.begun .command (s.lane n).state))).bytes p
          (s.port p).advanced.pass ∧
      t.port p = (s.port p).answered.advanced ∧ (∀ q, q ≠ p → t.port q = s.port q ∧ t.memory[q] = s.memory[q]) ∧
      s.LaneBecomes t n Lane.free ∧
      t = { s with ports := t.ports, memory := t.memory, lanes := t.lanes, orphanTimers := s.orphanTimers.set n none,
                   slots := s.slots.set (s.lane n).slot slot, table := s.unwaited n } := by
  generalize hx : ((s.popQueue p).reply p r .accepted []).enterAborting n .command = x at htt
  obtain ⟨hanswered, hbecomes, -, hframe⟩ := h.enters hs ht hw .accepted .command hx
  have hlane : x.lane n = (s.lane n).enterAborting .command := hbecomes.1
  have hcan := hanswered.canWrite h hg hfree
  have hport : x.port p = (s.port p).answered := hanswered.port
  obtain ⟨l, hl, hended⟩ := State.walkCheck_of_owner (s := x) (by rw [hlane]; rfl) (by rw [hlane]; exact hu) (by rw [hlane]; exact hj)
    (by rw [hlane]; exact Lane.enterAborting_abort _ _) rfl rfl (by rw [hlane]; exact ho) (by rw [hlane]; simp [Lane.enterAborting, hr]) (by rw [hlane]; exact hh) hcan
  rw [hended, hlane] at htt
  rw [hlane] at hl
  have hwrote := State.wrote_ringPut_of (s := x) (e := x.setLane n l) hcan rfl rfl
    (.lane (((s.lane n).enterAborting .command).abortedRecord n (.begun .command (s.lane n).state)))
  have hfreed := State.freeLane_ringPut (s := x) (i := (s.lane n).slot) hl (by rw [hframe]; exact hslot) htt
  have hwrote' : x.Wrote t p (.lane (((s.lane n).enterAborting .command).abortedRecord n (.begun .command (s.lane n).state)))
      (x.port p).advanced := by
    rw [← htt]
    exact ⟨hwrote.record, hwrote.port, hwrote.otherPorts, hwrote.ring⟩
  obtain ⟨producer, pass, hadvanced⟩ := Port.advanced_eq (s.port p)
  obtain ⟨hfirst, hsecond⟩ := State.Wrote.pair hanswered hwrote' hg (by rw [id, Port.answered, hadvanced]; exact hg.ring)
    (by rw [hport, Port.answered_advanced]; exact hg.advanced.advanced.ring) rfl rfl
  refine ⟨hfirst, hsecond, by rw [hwrote'.port, hport], fun q hq => ?_, ?_, ?_⟩
  · exact ⟨(hwrote'.otherPorts q hq).1.trans (hanswered.otherPorts q hq).1,
      (hwrote'.otherPorts q hq).2.trans (hanswered.otherPorts q hq).2⟩
  · have hlanes : t.lanes = (x.setLane n Lane.free).lanes := by rw [hfreed]
    refine ⟨by rw [State.lane, hlanes]; exact State.lane_setLane_self _, fun m hm => ?_⟩
    rw [State.lane, hlanes]
    exact (State.lane_setLane_ne _ _ _ hm).trans (hbecomes.2 m hm)
  · obtain ⟨ports, memory, lanes, hx'⟩ : ∃ ports memory lanes, x = { s with
        ports := ports, memory := memory, lanes := lanes, orphanTimers := s.orphanTimers.set n none, table := s.unwaited n } :=
      ⟨_, _, _, hframe⟩
    subst hx'
    rw [hfreed]
    rfl

/-- An orphaned lane whose limit passes enters ABORTING (R165). -/
theorem State.enterAborting_expired (hs : s.settlings = []) (ht : s.turns = []) (hw : ∀ q, Writer.lane n ∉ (s.port q).waiting)
    (cause : AbortCause) : State.enterAborting { s with expired := s.expired.set n true } n cause =
      { s.setLane n ((s.lane n).enterAborting cause) with
        orphanTimers := s.orphanTimers.set n none, table := s.unwaited n, expired := s.expired.set n true } :=
  State.enterAborting_quiet (s := { s with expired := s.expired.set n true }) hs ht hw cause

/-- ORPHAN_EXPIRED is set where every summary has a flag, whatever became of the lanes. -/
theorem State.setFlagAll_after_expiry (ha : s.Alert) (lanes : Vector Lane 64) (timers : Vector Timer 64) (expired : Vector Bool 64)
    (slots : Vector ProfileSlot 4) (discarded : Nat) (table : List Container) (f : Flag) (c : Carry) :
    State.setFlagAll { s with
        lanes := lanes, orphanTimers := timers, expired := expired, slots := slots, discarded := discarded, table := table } f c =
      { s.flaggedAt (fun _ => true) f c with
        lanes := lanes, orphanTimers := timers, expired := expired, slots := slots, discarded := discarded, table := table } :=
  State.setFlagAll_loud f c (s := { s with
    lanes := lanes, orphanTimers := timers, expired := expired, slots := slots, discarded := discarded, table := table }) ha

/-- Settles O17: the lane that enters ABORTING with something to undo, and the one whose walk ends at once. -/
theorem abortedLaneEntersAborting : Obligations.AbortedLaneEntersAborting := by
  unfold Obligations.AbortedLaneEntersAborting
  refine ⟨?_, ?_⟩
  · rintro s p r n l record aborted rfl hundo hs ht hw hrecord haborted
    have hrec (cause : AbortCause) : aborted cause = (s.lane n).enterAborting cause := by rw [haborted, hrecord]; rfl
    have hwalk {x : State} {cause : AbortCause} (hx : x.lane n = (s.lane n).enterAborting cause) : x.walkCheck n = x :=
      State.walkCheck_none (.inr (by rw [hx]; exact hundo))
    refine ⟨fun htakes hn hpass => ?_, fun hstate htimer halert => ?_⟩
    · have hexec := exec_abortLane_of_passing htakes hn (State.abortChecks_pass hpass)
      rw [State.abortLane_eq] at hexec
      generalize hx : ((s.popQueue p).reply p r .accepted []).enterAborting n .command = x at hexec
      obtain ⟨hanswered, hbecomes, -, hframe⟩ := htakes.enters hs ht hw .accepted .command hx
      exact ⟨x, by rw [hexec, hwalk hbecomes.1], hanswered, by rw [hrec]; exact hbecomes, hframe⟩
    · have hexec := exec_orphanLimitExpiry_of_due hstate htimer
      rw [State.enterAborting_expired hs ht hw, hwalk (cause := .orphanExpired) (by exact State.lane_setLane_self (s := s) _)] at hexec
      have hflagged := State.setFlagAll_after_expiry halert (s.setLane n ((s.lane n).enterAborting .orphanExpired)).lanes
        (s.orphanTimers.set n none) (s.expired.set n true) s.slots s.discarded (s.unwaited n) .orphanExpired (.lanes [n])
      rw [hrec]
      exact ⟨_, hexec.trans (congrArg Host.Outcome.next hflagged), State.laneBecomes_of_setLane (e := s) rfl rfl, rfl⟩
  · rintro s p r n l slot rfl hu hj hs ht hw hslot
    have hwalk {x : State} {cause : AbortCause} (hx : x.lane n = (s.lane n).enterAborting cause) (ho : (s.lane n).owner = none) :
        x.walkCheck n = x.discardAborted n :=
      State.walkCheck_of_orphan (by rw [hx]; rfl) (by rw [hx]; exact hu) (by rw [hx]; exact hj)
        (by rw [hx]; exact Lane.enterAborting_abort _ _) rfl (by rw [hx]; exact ho)
    have hrun (cause : AbortCause) : ((s.lane n).enterAborting cause).run.isSome = (s.lane n).run.isSome := by
      simp [Lane.enterAborting]
    refine ⟨fun g htakes hn ho hserves hr hh hg hfree => ?_, fun htakes hn ho hstate hquiet => ?_, fun ho hstate htimer halert => ?_⟩
    · have hexec := exec_abortLane_of_passing htakes hn (State.abortChecks_pass (.inl ⟨ho, hserves⟩))
      rw [State.abortLane_eq] at hexec
      obtain ⟨hfirst, hsecond, hport, hothers, hbecomes, hframe⟩ :=
        htakes.aborted_at_once hu hj hs ht hw hslot ho hr hh hg hfree rfl
      rw [htakes.kind_eq] at hfirst
      exact ⟨_, hexec, hfirst, hsecond, hport, hothers, hbecomes, hframe⟩
    · have hexec := exec_abortLane_of_passing htakes hn (State.abortChecks_pass (.inr ⟨ho, hstate, hquiet⟩))
      rw [State.abortLane_eq] at hexec
      generalize hx : ((s.popQueue p).reply p r .accepted []).enterAborting n .command = x at hexec
      obtain ⟨hanswered, hbecomes, hdiscarded, hframe⟩ := htakes.enters hs ht hw .accepted .command hx
      have hlane : x.lane n = (s.lane n).enterAborting .command := hbecomes.1
      have hslots : x.slots = s.slots := by rw [hframe]
      have hfreed := State.discardAborted_frame (s := x) (n := n) (i := (s.lane n).slot) (slot := slot)
        (run := (s.lane n).run.isSome) (held := (s.lane n).held.isSome) (by rw [hlane]; rfl) (by rw [hslots]; exact hslot)
        (by rw [hlane]; exact hrun _) (by rw [hlane]; rfl)
      rw [hwalk hlane ho, hfreed] at hexec
      refine ⟨_, hexec, ⟨hanswered.record, hanswered.port, hanswered.otherPorts, hanswered.ring⟩, ?_, ?_⟩
      · refine ⟨State.lane_setLane_self _, fun m hm => ?_⟩
        exact (State.lane_setLane_ne _ _ _ hm).trans (hbecomes.2 m hm)
      · rw [hslots, hdiscarded]
        generalize min 4294967295 _ = discarded
        generalize s.slots.set (s.lane n).slot slot = slots
        rw [hframe]
        rfl
    · have hexec := exec_orphanLimitExpiry_of_due hstate htimer
      rw [State.enterAborting_expired hs ht hw] at hexec
      generalize hx : ({ s.setLane n ((s.lane n).enterAborting .orphanExpired) with
        orphanTimers := s.orphanTimers.set n none, table := s.unwaited n, expired := s.expired.set n true } : State) = x at hexec
      have hlane : x.lane n = (s.lane n).enterAborting .orphanExpired := by rw [← hx]; exact State.lane_setLane_self _
      have hslots : x.slots = s.slots := by rw [← hx]; rfl
      have hdiscarded : x.discarded = s.discarded := by rw [← hx]; rfl
      have hfreed := State.discardAborted_frame (s := x) (n := n) (i := (s.lane n).slot) (slot := slot)
        (run := (s.lane n).run.isSome) (held := (s.lane n).held.isSome) (by rw [hlane]; rfl) (by rw [hslots]; exact hslot)
        (by rw [hlane]; exact hrun _) (by rw [hlane]; rfl)
      rw [hslots, hdiscarded] at hfreed
      rw [hwalk hlane ho, hfreed] at hexec
      generalize min 4294967295 _ = discarded at *
      subst hx
      have hflagged := State.setFlagAll_after_expiry halert ((s.setLane n ((s.lane n).enterAborting .orphanExpired)).setLane n
        Lane.free).lanes (s.orphanTimers.set n none) (s.expired.set n true) (s.slots.set (s.lane n).slot slot) discarded (s.unwaited n)
        .orphanExpired (.lanes [n])
      refine ⟨_, hexec.trans (congrArg Host.Outcome.next hflagged), ?_, rfl⟩
      rw [State.setLane_setLane]
      exact State.laneBecomes_of_setLane (e := s) rfl rfl

/-! ### A lane is adopted (O18) -/

/-- The lane record once its ADOPTED record is written and before it may starve (R167, R168). -/
def Lane.resumed (l : Lane) (p : PortNo) (resume : LaneState) : Lane :=
  { l with owner := some p, former := none, resume := none, state := resume, held := none, stalls := Stalls.clear }

/-- The stall causes an adopted lane resumes with: STARVED, when it resumes ACTIVE with nothing to go on with (R64, R168). -/
def Lane.resumeStalls (l : Lane) (resume : LaneState) : Stalls :=
  if resume = .active ∧ l.chunk = none then { Stalls.clear with starved := true } else Stalls.clear

/-- The resume states in which the lane has no further record to write (R168). -/
def Lane.ResumesQuietly (l : Lane) (resume : LaneState) : Prop :=
  resume = .active ∧ (l.chunk = none ∨ l.journal.length < 262144) ∨ (resume = .checkpointing ∨ resume = .closing) ∧ l.unsettled ≠ []

theorem Lane.ResumesQuietly.serves {l : Lane} {resume : LaneState} (h : l.ResumesQuietly resume) :
    resume = .active ∨ resume = .checkpointing ∨ resume = .closing := by
  rcases h with ⟨h, -⟩ | ⟨h | h, -⟩
  · exact .inl h
  · exact .inr (.inl h)
  · exact .inr (.inr h)

/-- What follows the ADOPTED record in its step: the lane starves where it has nothing to go on with (R168). -/
theorem State.resumeAdopted_eq {l : Lane} {resume : LaneState} (hl : s.lane n = l.resumed p resume) (hi : l.items = [])
    (hg : l.grant = none) (hr : l.run = none) (h : l.ResumesQuietly resume) :
    s.resumeAdopted n = s.setLane n { l.resumed p resume with stalls := l.resumeStalls resume } := by
  unfold State.resumeAdopted Lane.resumeStalls
  dsimp only
  have hsame : s.setLane n { l.resumed p resume with stalls := Stalls.clear } = s := by
    rw [show ({ l.resumed p resume with stalls := Stalls.clear } : Lane) = s.lane n from hl.symm]
    exact State.setLane_lane
  rcases h with ⟨rfl, hchunk⟩ | ⟨hstate, -⟩
  · rw [if_pos (by rw [hl]; rfl)]
    cases hc : l.chunk with
    | none =>
      have hstarves := State.starveCheck_starves (s := s) (n := n) (by rw [hl]; rfl) (by rw [hl]; exact hi) (by rw [hl]; exact hc)
        (by rw [hl]; rfl) (by rw [hl]; rfl) (by rw [hl]; exact hr)
      rw [if_neg (by rw [hl]; simp [Lane.resumed, hc]), hstarves, if_pos ⟨rfl, rfl⟩, hl]
      unfold Lane.resumed
      rw [hg]
    | some c =>
      have hshort : ¬Config.journalSlots ≤ (s.lane n).journal.length := by
        have hlength := hchunk.resolve_left (by rw [hc]; exact Option.some_ne_none c)
        rw [hl]
        simp only [Lane.resumed, Config.journalSlots]
        omega
      rw [if_pos (by rw [hl]; simp [Lane.resumed, hc]), if_neg hshort, if_neg (fun e => Option.some_ne_none c e.2), hsame]
  · have hne : resume ≠ .active := by rcases hstate with rfl | rfl <;> decide
    rw [if_neg (by rw [hl]; exact hne), if_neg (fun e => hne e.1), hsame]

/-- The lane that resumes has no record to write. -/
theorem Lane.hasRecord_resumed {l : Lane} {resume : LaneState} (hr : l.run = none) (h : l.ResumesQuietly resume) :
    Lane.hasRecord { l.resumed p resume with stalls := l.resumeStalls resume } = false := by
  have hjournal : (l.resumeStalls resume).journalFull = false := by unfold Lane.resumeStalls; split <;> rfl
  rcases h with ⟨rfl, -⟩ | ⟨hstate, hu⟩
  · exact Lane.Quiet.hasRecord ⟨rfl, hjournal, rfl, fun x hx => absurd (hr.symm.trans hx) (Option.some_ne_none x).symm⟩
  · exact Lane.hasRecord_waits hstate hr rfl hu

/-- The owner port of a lane's containers becomes the adopter (R167). -/
def State.readopted (s : State) (n : LaneNo) (p : PortNo) : List Container :=
  s.table.map fun c => if c.ownerLane = n then { c with ownerPort := p } else c

/-- Adoption of a lane, where no lane waits for a container (R167). -/
theorem State.adopt_quiet (h : s.NoneStarvedOfContainers) :
    s.adopt n p = { s.setLane n ((s.lane n).adopt n p) with orphanTimers := s.orphanTimers.set n none, table := s.readopted n p } := by
  refine State.retest_none fun m => ?_
  by_cases hm : m = n
  · subst hm
    exact (congrArg (fun l : Lane => l.stalls.noContainer) (State.lane_setLane_self _)).trans (h m)
  · exact (congrArg (fun l : Lane => l.stalls.noContainer) (State.lane_setLane_ne _ _ _ hm)).trans (h m)

theorem State.laneWrite_of_adopted (hr : (s.lane n).run = none) {a : LaneRecord} (hh : (s.lane n).held = some (.adopted a)) :
    s.laneWrite n p =
      ((s.ringPut p (.lane a)).modLane n fun l => { l with held := none }.clearRingFull).resumeAdopted n := by
  unfold State.laneWrite
  dsimp only
  rw [hr, hh]

/-- The ADOPTED record finds a free position: it is written, and the lane resumes (R168). -/
theorem State.kick_adopted {l : Lane} {former : PortNo} {resume : LaneState} (hl : s.lane n = l.adopt n p) (hresume : l.resume = some resume)
    (hformer : l.former = some former) (hs : l.stalls = Stalls.clear) (hr : l.run = none) (hi : l.items = []) (hg : l.grant = none)
    (h : l.ResumesQuietly resume) (hc : s.canWrite p = true) :
    s.kick n = (s.ringPut p (.lane (l.adoptedRecord n former resume))).setLane n
      { l.resumed p resume with stalls := l.resumeStalls resume } := by
  have hadopt : l.adopt n p = { l.resumed p resume with
      held := some (.adopted (l.adoptedRecord n former resume)), stalls := { Stalls.clear with ringFull := true } } := by
    unfold Lane.adopt
    dsimp only
    rw [hresume, hformer, hs]
    rfl
  rw [hadopt] at hl
  have hrecord : (s.lane n).hasRecord = true := by
    rw [hl]
    rcases h.serves with rfl | rfl | rfl <;> simp [Lane.hasRecord, Lane.resumed]
  rw [State.kick_of_free (by rw [hl]; rfl) hrecord hc, State.laneWrite_of_adopted (by rw [hl]; exact hr) (by rw [hl]), State.modLane,
    State.lane_ringPut, hl]
  have hcleared : Lane.clearRingFull { l.resumed p resume with held := none, stalls := { Stalls.clear with ringFull := true } } =
      l.resumed p resume := by
    unfold Lane.clearRingFull
    rw [if_neg (by simp [Lane.hasClosedRun, Lane.resumed, hr])]
    rfl
  have hstep : Lane.clearRingFull { ({ l.resumed p resume with
      held := some (.adopted (l.adoptedRecord n former resume)), stalls := { Stalls.clear with ringFull := true } } : Lane) with
      held := none } = l.resumed p resume := hcleared
  rw [hstep, State.resumeAdopted_eq (State.lane_setLane_self _) hi hg hr h, State.setLane_setLane]
  refine State.kick_none ?_ 3
  rw [State.lane_setLane_self]
  exact Lane.hasRecord_resumed hr h

theorem State.adoptChecks_pass (hs : (s.lane n).state = .orphaned) (hq : s.QuietPassed n) : firstFailing (s.adoptChecks n) = none := by
  simp [State.adoptChecks, State.isOrphaned, hs, (State.quietPassed_iff n).mpr hq]

/-- Settles O18: the lane of each resume state, its containers handed over, and the ADOPTED record behind the completion. -/
theorem adoptedLaneResumes : Obligations.AdoptedLaneResumes := by
  intro s p former r n g resume h hn hstate hformer hquiet hresume hstalls hr hh hi hgrant hstarved hg hfree hcase
  have hquiets : (s.lane n).ResumesQuietly resume := hcase
  have hexec := exec_adoptLane_of_passing h hn (State.adoptChecks_pass hstate hquiet)
  obtain ⟨hanswered, hframe⟩ := h.answers (s.popQueue p) rfl rfl .ok [.num 1 n.val]
  generalize (s.popQueue p).reply p r .ok [.num 1 n.val] = x at *
  have hlanes : x.lanes = s.lanes := by rw [hframe]; rfl
  have hlane (m : LaneNo) : x.lane m = s.lane m := by rw [State.lane, hlanes]; rfl
  have htable : x.readopted n p = s.readopted n p := by rw [hframe]; rfl
  rw [State.adopt_quiet (s := x) (fun m => by rw [hlane]; exact hstarved m), hlane, htable] at hexec
  have hcan := hanswered.canWrite h hg hfree
  generalize hu : ({ x.setLane n ((s.lane n).adopt n p) with
    orphanTimers := x.orphanTimers.set n none, table := s.readopted n p } : State) = u at hexec
  have hlaneU : u.lane n = (s.lane n).adopt n p := by rw [← hu]; exact State.lane_setLane_self _
  have hports : u.ports = x.ports := by rw [← hu]; rfl
  have hmemory : u.memory = x.memory := by rw [← hu]; rfl
  have hcanU : u.canWrite p = true := by rw [← hu]; exact hcan
  rw [State.kick_adopted hlaneU hresume hformer hstalls hr hi hgrant hquiets hcanU] at hexec
  have hwrote := State.wrote_ringPut_of hcan hports hmemory (.lane ((s.lane n).adoptedRecord n former resume))
  have hput := State.ringPut_frame (s := u) (p := p) (.lane ((s.lane n).adoptedRecord n former resume))
  generalize u.ringPut p (.lane ((s.lane n).adoptedRecord n former resume)) = v at *
  have hport : x.port p = (s.port p).answered := hanswered.port
  obtain ⟨producer, pass, hadvanced⟩ := Port.advanced_eq (s.port p)
  obtain ⟨hfirst, hsecond⟩ := State.Wrote.pair hanswered hwrote hg (by rw [id, Port.answered, hadvanced]; exact hg.ring)
    (by rw [hport, Port.answered_advanced]; exact hg.advanced.advanced.ring) rfl rfl
  rw [h.kind_eq] at hfirst
  refine ⟨_, hexec, hfirst, hsecond, ?_, fun q hq => ?_, ?_, ?_⟩
  · exact hwrote.port.trans (by rw [hport, Port.answered_advanced])
  · exact ⟨(hwrote.otherPorts q hq).1.trans (hanswered.otherPorts q hq).1,
      (hwrote.otherPorts q hq).2.trans (hanswered.otherPorts q hq).2⟩
  · refine ⟨(State.lane_setLane_self _).trans ?_, fun m hm => ?_⟩
    · dsimp only [Lane.resumed, Lane.resumeStalls]
      rw [hh]
    have hv : v.lanes = (x.setLane n ((s.lane n).adopt n p)).lanes := by rw [hput, ← hu]
    rw [State.lane_setLane_ne _ _ _ hm, State.lane, hv]
    exact (State.lane_setLane_ne _ _ _ hm).trans (hlane m)
  · have hv : v = { s with ports := v.ports, memory := v.memory, lanes := v.lanes, orphanTimers := s.orphanTimers.set n none,
                            table := s.readopted n p } := by
      have htimers : x.orphanTimers = s.orphanTimers := by rw [hframe]; rfl
      rw [hput, ← hu, htimers, hframe]
      rfl
    clear hput
    rw [hv]
    rfl

end Sys2Proof.Machine

/-! PROOFS. A lane works through its queue: bytes, CUT and TAG items (R31, R37, R42, R56, R62, R64; O42, O44). -/

namespace Sys2Proof.Machine

open Sys2Proof

variable {s t : State} {p : PortNo} {n : LaneNo} {l : Lane} {rest : List Item}

/-! ### After an item or a byte (R62, R64) -/

/-- The engine a lane keeps with an empty partial result: while its quota lasts and its head keeps it (R60, R62). -/
def Lane.keptGrant (l : Lane) : Option Grant := l.grant.filter fun g => headKeepsGrant l.items && decide (g.taken < g.quota)

/-- The stall causes of a lane that has nothing but its queue to go on with (R64). -/
def Lane.queueStalls (l : Lane) : Stalls := if l.items = [] then { Stalls.clear with starved := true } else Stalls.clear

theorem Stalls.any_clear : Stalls.clear.any = false := rfl

theorem State.starveCheck_of_not_active (h : (s.lane n).state ≠ .active) : s.starveCheck n = s := by
  unfold State.starveCheck
  exact if_neg fun e => h e.1

theorem State.grantCheck_of_grant (hl : s.lane n = l) {g : Grant} (hg : l.grant = some g) :
    s.grantCheck n = s.setLane n (if l.state = .active ∧ l.stalls.any = false ∧ headKeepsGrant l.items = true ∧
      ¬(g.quota ≤ g.taken ∧ l.chunk = none) then l else { l with grant := none }) := by
  unfold State.grantCheck State.modLane
  rw [hl]
  dsimp only
  rw [hg]

theorem State.setLane_same (hl : s.lane n = l) : s.setLane n l = s := by
  subst hl
  exact State.setLane_lane

/-- A lane without stall causes and with no ended chunk keeps its engine by its head and its quota (R60, R62). -/
theorem State.grantCheck_of_no_chunk (hl : s.lane n = l) (ha : l.state = .active) (hs : l.stalls = Stalls.clear) (hc : l.chunk = none) :
    s.grantCheck n = s.setLane n { l with grant := l.keptGrant } := by
  cases hg : l.grant with
  | none =>
    have hsame : ({ l with grant := l.keptGrant } : Lane) = l := by
      rw [Lane.keptGrant, hg, Option.filter_none, ← hg]
    rw [State.grantCheck_none (by rw [hl]; exact hg), hsame, State.setLane_same hl]
  | some g =>
    rw [State.grantCheck_of_grant hl hg]
    by_cases hkeep : headKeepsGrant l.items = true ∧ g.taken < g.quota
    · have hkept : l.keptGrant = l.grant := by simp [Lane.keptGrant, hg, hkeep.1, hkeep.2]
      rw [if_pos ⟨ha, by rw [hs]; rfl, hkeep.1, by omega⟩, hkept]
    · have hkept : l.keptGrant = none := by simpa [Lane.keptGrant, hg] using hkeep
      rw [if_neg, hkept]
      rintro ⟨-, -, hhead, hquota⟩
      exact hkeep ⟨hhead, by by_contra hlt; exact hquota ⟨by omega, hc⟩⟩

/-- A lane with an ended chunk and no stall cause keeps its engine by its head alone (R60, R62). -/
theorem State.afterItem_of_chunk (hl : s.lane n = l) (ha : l.state = .active) (hs : l.stalls = Stalls.clear) (hc : l.chunk ≠ none) :
    s.afterItem n = s.setLane n { l with grant := if headKeepsGrant l.items then l.grant else none } := by
  unfold State.afterItem
  rw [State.starveCheck_none (.inr (by rw [hl]; exact hc))]
  cases hg : l.grant with
  | none => rw [State.grantCheck_none (by rw [hl]; exact hg), ite_self, ← hg, State.setLane_same hl]
  | some g =>
    rw [State.grantCheck_of_grant hl hg]
    by_cases hkeep : headKeepsGrant l.items = true
    · rw [if_pos ⟨ha, by rw [hs]; rfl, hkeep, fun e => hc e.2⟩, if_pos hkeep, ← hg]
    · rw [if_neg hkeep, if_neg fun e => hkeep e.2.2.1]

/-- A lane with no ended chunk and nothing to write starves with an empty queue, and otherwise keeps its engine as R62 states. -/
theorem State.afterItem_of_no_chunk (hl : s.lane n = l) (ha : l.state = .active) (hs : l.stalls = Stalls.clear) (hc : l.chunk = none)
    (hh : l.held = none) (hr : l.run = none) :
    s.afterItem n = s.setLane n { l with grant := l.keptGrant, stalls := l.queueStalls } := by
  unfold State.afterItem Lane.queueStalls
  by_cases hi : l.items = []
  · have hkept : l.keptGrant = none := by
      unfold Lane.keptGrant
      rw [hi]
      cases l.grant <;> rfl
    rw [State.starveCheck_starves (by rw [hl]; exact ha) (by rw [hl]; exact hi) (by rw [hl]; exact hc) (by rw [hl, hs]; rfl)
      (by rw [hl]; exact hh) (by rw [hl]; exact hr), State.grantCheck_none (by rw [State.lane_setLane_self]), if_pos hi, hkept, hl, hs]
  · rw [State.starveCheck_none (.inl (by rw [hl]; exact hi)), State.grantCheck_of_no_chunk hl ha hs hc, if_neg hi]
    rw [show ({ l with grant := l.keptGrant } : Lane) = { l with grant := l.keptGrant, stalls := Stalls.clear } by rw [← hs]]

/-- A lane that has left ACTIVE, or stalls, with no engine, is left as it is. -/
theorem State.afterItem_of_stopped (hg : (s.lane n).grant = none)
    (h : (s.lane n).state ≠ .active ∨ (s.lane n).chunk ≠ none) : s.afterItem n = s := by
  unfold State.afterItem
  have hstarve : s.starveCheck n = s := by
    rcases h with h | h
    · exact State.starveCheck_of_not_active h
    · exact State.starveCheck_none (.inr h)
  rw [hstarve, State.grantCheck_none hg]

theorem State.afterItem_same (hl : s.lane n = l) (hg : l.grant = none) (h : l.state ≠ .active ∨ l.chunk ≠ none) : s.afterItem n = s :=
  State.afterItem_of_stopped (by rw [hl]; exact hg) (by rw [hl]; exact h)

theorem Lane.reaches_iff : l.reaches = true ↔ l.state = .active ∧ l.stalls = Stalls.clear ∧ l.chunk = none := by
  unfold Lane.reaches
  rw [Bool.and_eq_true, Bool.and_eq_true, decide_eq_true_eq, Bool.not_eq_true', Stalls.any_eq_false_iff, Option.isNone_iff_eq_none,
    and_assoc]

/-! ### Chunk ends (R42, R66, R67) -/

/-- The lane record as its partial chunk ends (R42). -/
def Lane.ended (l : Lane) (cut : Cut) : Lane := { l with chunk := some (l.part.chunk l.offset cut), part := Partial.empty }

theorem State.seekStops_none (hs : (s.lane n).nextSeq ≠ none) (hj : (s.lane n).journal.length < 262144) : s.seekStops n = none := by
  unfold State.seekStops
  dsimp only
  rw [if_neg hs, if_neg (by simp only [Config.journalSlots]; omega)]

theorem State.endChunk_of_room (hl : s.lane n = l) (hs : l.nextSeq ≠ none) (hj : l.journal.length < 262144) (cut : Cut) :
    s.endChunk n cut = s.setLane n (l.ended cut) := by
  subst hl
  unfold State.endChunk
  dsimp only
  rw [State.seekStops_none (by rw [State.modLane, State.lane_setLane_self]; exact hs)
    (by rw [State.modLane, State.lane_setLane_self]; exact hj)]
  rfl

/-! ### CUT and TAG (O44) -/

theorem exec_cutReached (n : LaneNo) (s : State) : exec (.cutReached n) s = execCutReached n s := rfl

theorem exec_tagReached (n : LaneNo) (s : State) : exec (.tagReached n) s = execTagReached n s := rfl

theorem exec_cutReached_of_reached (hl : s.lane n = l) (h : l.reaches = true) (hi : l.items = .cut :: rest) :
    exec (.cutReached n) s = .next
      ((if l.part.length = 0 then s.setLane n { l with items := rest }
        else (s.setLane n { l with items := rest }).endChunk n .item).afterItem n) := by
  subst hl
  rw [exec_cutReached, execCutReached, hi, h]
  rfl

theorem exec_tagReached_of_reached (hl : s.lane n = l) (h : l.reaches = true) {v : Nat} (hi : l.items = .tag v :: rest) :
    exec (.tagReached n) s = .next
      (((s.closeRun n).modLane n fun l => { l with tag := some { value := v, overrun := l.tag.isSome }, items := rest }).afterItem n) := by
  subst hl
  rw [exec_tagReached, execTagReached, hi, h]
  rfl

theorem State.mayWrite_of_owner (hp : (s.lane n).owner = some p) (hc : s.canWrite p = true) : s.mayWrite n = some p := by
  unfold State.mayWrite
  rw [hp]
  exact if_pos hc

/-- A run still open is closed by writing it, where the ring takes it (R73). -/
theorem State.closeRun_written {r : Run} (hl : s.lane n = l) (hr : l.run = some r) (ho : r.closed = false) (hp : l.owner = some p)
    (hc : s.canWrite p = true) : s.closeRun n = (s.ringPut p (.run r)).setLane n { l with run := none } := by
  unfold State.closeRun
  rw [hl, hr]
  dsimp only
  rw [ho, State.mayWrite_of_owner (by rw [hl]; exact hp) hc, if_neg Bool.false_ne_true]
  dsimp only
  rw [State.modLane, State.lane_ringPut, hl]

theorem State.onlyLanes_setLane (l : Lane) : s.setLane n l = { s with lanes := (s.setLane n l).lanes } := rfl

/-- What a CUT, a TAG or a byte does to its lane alone. -/
theorem exec_of_setLane {i : Instr} {l l' : Lane} (h : exec i s = .next (s.setLane n l)) (hl : l = l') :
    ∃ t, exec i s = .next t ∧ t = { s with lanes := t.lanes } ∧ s.LaneBecomes t n l' := by
  subst hl
  exact ⟨_, h, rfl, State.laneBecomes_setLane l⟩

/-- Settles O44: CUT with and without bytes, TAG with and without a run. -/
theorem cutAndTagAreReached : Obligations.CutAndTagAreReached := by
  rintro s n l rest kept hl ha hs hc hh rfl
  have hreaches : l.reaches = true := Lane.reaches_iff.mpr ⟨ha, hs, hc⟩
  refine ⟨fun hi hpart hseq hj => ?_, fun hi hpart hr => ?_, ?_⟩
  · have hexec := exec_cutReached_of_reached hl hreaches hi
    rw [if_neg (by omega), State.endChunk_of_room (State.lane_setLane_self _) (by exact hseq) (by exact hj), State.setLane_setLane,
      State.afterItem_of_chunk (State.lane_setLane_self _) (by exact ha) (by exact hs) (by simp [Lane.ended]), State.setLane_setLane] at hexec
    exact exec_of_setLane hexec rfl
  · have hexec := exec_cutReached_of_reached hl hreaches hi
    rw [if_pos hpart, State.afterItem_of_no_chunk (State.lane_setLane_self _) (by exact ha) (by exact hs)
      (by exact hc) (by exact hh) (by exact hr), State.setLane_setLane] at hexec
    exact exec_of_setLane hexec rfl
  · rintro v tagged hi rfl
    have hexec := exec_tagReached_of_reached hl hreaches hi
    refine ⟨fun hr => ?_, fun r p hr hopen hp hcan => ?_⟩
    · rw [State.closeRun_none (by rw [hl]; exact hr), State.modLane, hl, State.afterItem_of_no_chunk (State.lane_setLane_self _) (by exact ha) (by exact hs)
      (by exact hc) (by exact hh) (by exact hr),
        State.setLane_setLane] at hexec
      refine exec_of_setLane hexec ?_
      rw [← hr]
      rfl
    · rw [State.closeRun_written hl hr hopen hp hcan, State.modLane, State.lane_setLane_self, State.setLane_setLane,
        State.afterItem_of_no_chunk (State.lane_setLane_self _) (by exact ha) (by exact hs)
          (by exact hc) (by exact hh) rfl, State.setLane_setLane] at hexec
      have hwrote := State.wrote_ringPut_of (s := s) hcan rfl rfl (.run r)
      have hframe := State.ringPut_frame (s := s) (p := p) (.run r)
      generalize s.ringPut p (.run r) = u at *
      refine ⟨_, hexec, ⟨hwrote.record, hwrote.port, hwrote.otherPorts, hwrote.ring⟩,
        State.laneBecomes_of_setLane (by rw [hframe]) rfl, ?_⟩
      rw [hframe]
      rfl

/-! ### The boundary test (R34, R35) -/

/-- The content test passes for the partial chunk of a lane that cuts by content (R34). -/
def ContentHit (prof : Profile) (source : CutSource) (q : Partial) : Prop :=
  source = .content ∧ prof.minimum ≤ q.length ∧
    ∃ h, q.hash = some h ∧ (h + BitVec.ofNat 32 prof.seed).toNat % 2 ^ prof.exponent = 2 ^ prof.exponent - 1

theorem contentTest_iff {prof : Profile} {q : Partial} : contentTest prof q = true ↔ ContentHit prof .content q := by
  unfold contentTest ContentHit
  cases hq : q.hash with
  | none => simp
  | some h => simp

theorem boundary_of_hit {prof : Profile} {source : CutSource} {q : Partial} (h : ContentHit prof source q) :
    boundary prof source q = some .content := by
  obtain rfl := h.1
  exact if_pos (contentTest_iff.mpr h)

theorem boundary_of_no_hit {prof : Profile} {source : CutSource} {q : Partial} (h : ¬ContentHit prof source q) :
    boundary prof source q = if q.length = prof.maximum then some .limit else none := by
  unfold boundary
  cases source with
  | content => exact if_neg fun e => h (contentTest_iff.mp e)
  | fixed => rfl
  | supplied => rfl

/-! ### A chunk that ends where the lane cannot go on (R66, R67) -/

/-- The lane record at the entry into a journal-full commit, with no container open (R100, R101). -/
def Lane.journalStopped (l : Lane) : Lane :=
  { l with stalls := { l.stalls with journalFull := true }, grant := none, ckSettled := 0, ckWithdrawn := 0 }

theorem State.sealOpen_none (h : (s.lane n).openC = none) : s.sealOpen n = s := by
  unfold State.sealOpen
  rw [h]

theorem State.gainJournalFull_eq (hl : s.lane n = l) (hr : l.run = none) (ho : l.openC = none) :
    s.gainJournalFull n = s.setLane n l.journalStopped := by
  unfold State.gainJournalFull
  dsimp only
  rw [State.stall_eq (by rw [hl]; exact hr), State.modLane, State.lane_setLane_self, State.setLane_setLane, hl]
  exact State.sealOpen_none (by rw [State.lane_setLane_self]; exact ho)

theorem Lane.due_of_active (ha : l.state = .active) (hr : l.run = none) (hh : l.held = none) :
    l.due = if l.stalls.journalFull = true ∧ l.unsettled = [] then some .forced else none := by
  unfold Lane.due
  rw [hr, hh, ha]
  rfl

theorem Lane.hasRecord_of_active (ha : l.state = .active) (hr : l.run = none) (hh : l.held = none) :
    l.hasRecord = l.due.isSome := by
  unfold Lane.hasRecord
  rw [ha, Lane.hasClosedRun_none hr, hh]
  rfl

/-- A journal-full commit waits for the containers unsettled (R101). -/
theorem State.journalFullStall_waits (hl : s.lane n = l) (ha : l.state = .active) (hr : l.run = none) (hh : l.held = none)
    (ho : l.openC = none) (hu : l.unsettled ≠ []) : s.journalFullStall n = s.setLane n l.journalStopped := by
  unfold State.journalFullStall
  rw [State.gainJournalFull_eq hl hr ho]
  refine State.kick_none ?_ 4
  rw [State.lane_setLane_self, Lane.hasRecord_of_active (by exact ha) (by exact hr) (by exact hh), Lane.due_of_active (by exact ha) (by exact hr) (by exact hh), if_neg fun e => hu e.2]
  rfl

/-- A journal-full commit with no container unsettled writes its FORCED record, and the lane goes on (R101). -/
theorem State.journalFullStall_writes (hl : s.lane n = l) (ha : l.state = .active) (hr : l.run = none) (hh : l.held = none)
    (hs : l.stalls = Stalls.clear) (ho : l.openC = none) (hu : l.unsettled = []) (hp : l.owner = some p) (hc : s.canWrite p = true) :
    s.journalFullStall n = ((s.setLane n l.journalStopped).ringPut p (.lane (l.journalStopped.commitRecord n .forced))).setLane n
      { l.journalStopped with journal := [], withdrawnSince := 0, stalls := Stalls.clear } := by
  have hdue : l.journalStopped.due = some .forced := by rw [Lane.due_of_active (by exact ha) (by exact hr) (by exact hh), if_pos ⟨rfl, hu⟩]
  have hrecord : l.journalStopped.hasRecord = true := by rw [Lane.hasRecord_of_active (by exact ha) (by exact hr) (by exact hh), hdue]; rfl
  unfold State.journalFullStall
  rw [State.gainJournalFull_eq hl hr ho]
  generalize hx : s.setLane n l.journalStopped = x
  have hlane : x.lane n = l.journalStopped := by rw [← hx, State.lane_setLane_self]
  have hcan : x.canWrite p = true := by rw [← hx]; exact hc
  rw [State.kick_of_free (by rw [hlane]; exact hp) (by rw [hlane]; exact hrecord) hcan,
    State.laneWrite_of_due (by rw [hlane]; exact hr) (by rw [hlane]; exact hh) (by rw [hlane]; exact hdue), State.writeDue]
  dsimp only
  rw [State.modLane, State.lane_ringPut, hlane]
  have hclear : ({ l.journalStopped.stalls with journalFull := false } : Stalls) = Stalls.clear := by
    rw [Lane.journalStopped, hs]
    rfl
  rw [hclear]
  refine State.kick_none ?_ 3
  rw [State.lane_setLane_self, Lane.hasRecord_of_active (by exact ha) (by exact hr) (by exact hh),
    Lane.due_of_active (by exact ha) (by exact hr) (by exact hh)]
  rfl

theorem State.endChunk_of_full (hl : s.lane n = l) (hs : l.nextSeq ≠ none) (hj : 262144 ≤ l.journal.length) (cut : Cut) :
    s.endChunk n cut = (s.setLane n (l.ended cut)).journalFullStall n := by
  subst hl
  unfold State.endChunk State.seekStops
  simp only [State.modLane, State.lane_setLane_self]
  rw [if_neg hs, if_pos (by simpa only [Config.journalSlots] using hj)]
  rfl

theorem State.endChunk_of_exhausted (hl : s.lane n = l) (hs : l.nextSeq = none) (cut : Cut) :
    s.endChunk n cut = (s.setLane n (l.ended cut)).abortLane n .sequenceExhausted := by
  subst hl
  unfold State.endChunk State.seekStops
  simp only [State.modLane, State.lane_setLane_self]
  rw [if_pos hs]
  rfl

/-- A chunk ends with the journal full and no container unsettled: the FORCED record is written (R66, R101). -/
theorem State.stopped_forced (ha : l.state = .active) (hr : l.run = none) (hh : l.held = none) (hs : l.stalls = Stalls.clear)
    (ho : l.openC = none) (hu : l.unsettled = []) (hp : l.owner = some p) (hc : s.canWrite p = true) (hchunk : l.chunk ≠ none)
    (ht : ((s.setLane n l).journalFullStall n).afterItem n = t) :
    s.Wrote t p (.lane (l.journalStopped.commitRecord n .forced)) (s.port p).advanced ∧
      s.LaneBecomes t n { l.journalStopped with journal := [], withdrawnSince := 0, stalls := Stalls.clear } ∧
      t = { s with ports := t.ports, memory := t.memory, lanes := t.lanes } := by
  rw [State.journalFullStall_writes (State.lane_setLane_self _) ha hr hh hs ho hu hp hc, State.setLane_setLane,
    State.afterItem_same (State.lane_setLane_self _) rfl (.inr (by exact hchunk))] at ht
  have hwrote := State.wrote_ringPut_of (s := s) (e := s.setLane n l.journalStopped) hc rfl rfl
    (.lane (l.journalStopped.commitRecord n .forced))
  have hframe := State.ringPut_frame (s := s.setLane n l.journalStopped) (p := p) (.lane (l.journalStopped.commitRecord n .forced))
  generalize (s.setLane n l.journalStopped).ringPut p _ = u at *
  subst ht
  refine ⟨⟨hwrote.record, hwrote.port, hwrote.otherPorts, hwrote.ring⟩, ?_, ?_⟩
  · refine State.laneBecomes_of_setLane (e := s) rfl ?_
    rw [hframe]
    simp only [State.setLane, Vector.set_set]
  · rw [hframe]
    rfl

/-- A chunk ends with the sequence exhausted: the lane is aborted (R67, R109). -/
theorem State.stopped_exhausted (hs : s.settlings = []) (ht : s.turns = []) (hw : ∀ q, Writer.lane n ∉ (s.port q).waiting)
    (h : l.unsettled ≠ [] ∨ l.journal ≠ []) :
    ((s.setLane n l).abortLane n .sequenceExhausted).afterItem n =
      { s.setLane n (l.enterAborting .sequenceExhausted) with
        orphanTimers := s.orphanTimers.set n none, table := s.unwaited n } := by
  have hentered : (s.setLane n l).enterAborting n .sequenceExhausted = { s.setLane n (l.enterAborting .sequenceExhausted) with
      orphanTimers := s.orphanTimers.set n none, table := s.unwaited n } := by
    rw [State.enterAborting_quiet (s := s.setLane n l) hs ht hw, State.lane_setLane_self, State.setLane_setLane]
    rfl
  rw [State.abortLane_eq, hentered]
  generalize hx : ({ s.setLane n (l.enterAborting .sequenceExhausted) with
    orphanTimers := s.orphanTimers.set n none, table := s.unwaited n } : State) = x
  have hlane : x.lane n = l.enterAborting .sequenceExhausted := by rw [← hx]; exact State.lane_setLane_self _
  rw [State.walkCheck_none (.inr (by rw [hlane]; exact h)), State.afterItem_same hlane rfl (.inl (by simp [Lane.enterAborting]))]

/-! ### Bytes (O42) -/

theorem exec_byteTaken (n : LaneNo) (b : Byte) (s : State) : exec (.byteTaken n b) s = execByteTaken n b s := rfl

theorem ProfileSlot.profile?_of_active {x : ProfileSlot} {prof : Profile} {roll : Word32} {uses : Nat}
    (h : x = .active prof roll uses ∨ x = .retiring prof roll uses) : x.profile? = some (prof, roll) := by
  rcases h with rfl | rfl <;> rfl

theorem exec_byteTaken_of_reached {b : Byte} {g : Grant} {a len k : Nat} {prof : Profile} {roll : Word32} (hl : s.lane n = l)
    (h : l.reaches = true) (hg : l.grant = some g) (hi : l.items = .data a len k :: rest) (hk : k < len)
    (hprof : s.slots[l.slot].profile? = some (prof, roll)) :
    exec (.byteTaken n b) s = .next (s.takeByte n prof roll g (a, len, k) rest b) := by
  subst hl
  rw [exec_byteTaken, execByteTaken]
  simp only [hg, hi, hprof, h, hk, decide_true, Bool.and_self]
  rfl

theorem State.takeByte_of_no_cut {b : Byte} {g : Grant} {item : Nat × Nat × Nat} {prof : Profile} {roll : Word32} (hl : s.lane n = l)
    (h : boundary prof l.cutSource (l.part.take prof roll l.cutSource b) = none) :
    s.takeByte n prof roll g item rest b = (s.setLane n (l.takeByte prof roll g item rest b)).afterItem n := by
  subst hl
  unfold State.takeByte
  dsimp only
  rw [show boundary prof ((s.lane n).takeByte prof roll g item rest b).cutSource ((s.lane n).takeByte prof roll g item rest b).part = none
    from h]

theorem State.takeByte_of_cut {b : Byte} {g : Grant} {item : Nat × Nat × Nat} {prof : Profile} {roll : Word32} (hl : s.lane n = l)
    {cut : Cut} (h : boundary prof l.cutSource (l.part.take prof roll l.cutSource b) = some cut) :
    s.takeByte n prof roll g item rest b = ((s.setLane n (l.takeByte prof roll g item rest b)).endChunk n cut).afterItem n := by
  subst hl
  unfold State.takeByte
  dsimp only
  rw [show boundary prof ((s.lane n).takeByte prof roll g item rest b).cutSource ((s.lane n).takeByte prof roll g item rest b).part =
    some cut from h]

/-- The lane record after a byte that neither ends its item nor, with `chunk`, its chunk (R31). -/
theorem Lane.takeByte_of_more (l : Lane) (prof : Profile) (roll : Word32) (g : Grant) {a len k : Nat} (rest : List Item) (b : Byte)
    (h : k + 1 < len) : l.takeByte prof roll g (a, len, k) rest b = { l with
      part := l.part.take prof roll l.cutSource b, offset := l.offset + 1, items := .data a len (k + 1) :: rest,
      grant := some { g with taken := g.taken + 1 } } := by
  unfold Lane.takeByte
  dsimp only
  rw [if_neg (by omega)]

theorem Lane.takeByte_of_last (l : Lane) (prof : Profile) (roll : Word32) (g : Grant) {a len k : Nat} (rest : List Item) (b : Byte)
    (h : k + 1 = len) : l.takeByte prof roll g (a, len, k) rest b = { l with
      part := l.part.take prof roll l.cutSource b, offset := l.offset + 1, items := rest,
      grant := some { g with taken := g.taken + 1 } } := by
  unfold Lane.takeByte
  dsimp only
  rw [if_pos h]

theorem refCount_eq (j : List JournalEntry) :
    refCount j = (j.filter fun e => match e.what with | .ref _ => true | .unindexed _ _ => false).length :=
  congrArg List.length (List.filter_congr fun e _ => by cases e.what <;> rfl)

/-- Settles O42: the byte that extends, the byte that cuts, the last byte of an item, and the two ends of a chunk that are not looked up. -/
theorem byteTakenExtendsOrCuts : Obligations.ByteTakenExtendsOrCuts := by
  rintro s n b l g a len k rest prof roll uses q hit chunk hl ha hs hc hr hh hg hi hk hslot rfl hhit hchunk
  have hreaches : l.reaches = true := Lane.reaches_iff.mpr ⟨ha, hs, hc⟩
  have hexec := exec_byteTaken_of_reached (b := b) hl hreaches hg hi hk (ProfileSlot.profile?_of_active hslot)
  have hcontent : hit ↔ ContentHit prof l.cutSource (l.part.take prof roll l.cutSource b) := hhit
  have hnone (hno : ¬hit) (hmax : (l.part.take prof roll l.cutSource b).length ≠ prof.maximum) :
      boundary prof l.cutSource (l.part.take prof roll l.cutSource b) = none := by
    rw [boundary_of_no_hit (hcontent.not.mp hno), if_neg hmax]
  refine ⟨⟨rfl, rfl, rfl, by simp [Partial.take]⟩, fun hno hmax hmore hquota => ?_, fun hno hmax hlast hrest => ?_, fun cut hcut hmore => ?_⟩
  · rw [State.takeByte_of_no_cut hl (hnone hno hmax), Lane.takeByte_of_more l prof roll g rest b hmore,
      State.afterItem_of_no_chunk (State.lane_setLane_self _) (by exact ha) (by exact hs) (by exact hc) (by exact hh) (by exact hr),
      State.setLane_setLane] at hexec
    refine exec_of_setLane hexec ?_
    simp [Lane.keptGrant, headKeepsGrant, Lane.queueStalls, hquota, hs]
  · rw [State.takeByte_of_no_cut hl (hnone hno hmax), Lane.takeByte_of_last l prof roll g rest b hlast, hrest,
      State.afterItem_of_no_chunk (State.lane_setLane_self _) (by exact ha) (by exact hs) (by exact hc) (by exact hh) (by exact hr),
      State.setLane_setLane] at hexec
    exact exec_of_setLane hexec rfl
  · have hboundary : boundary prof l.cutSource (l.part.take prof roll l.cutSource b) = some cut := by
      rcases hcut with ⟨hyes, rfl⟩ | ⟨hno, hmax, rfl⟩
      · exact boundary_of_hit (hcontent.mp hyes)
      · rw [boundary_of_no_hit (hcontent.not.mp hno), if_pos hmax]
    rw [State.takeByte_of_cut hl hboundary, Lane.takeByte_of_more l prof roll g rest b hmore] at hexec
    have hended : Lane.ended { l with
        part := l.part.take prof roll l.cutSource b, offset := l.offset + 1, items := .data a len (k + 1) :: rest,
        grant := some { g with taken := g.taken + 1 } } cut = { l with
        part := Partial.empty, chunk := some (chunk cut), offset := l.offset + 1, items := .data a len (k + 1) :: rest,
        grant := some { g with taken := g.taken + 1 } } := by
      rw [hchunk]
      rfl
    refine ⟨fun hseq hj => ?_, ?_, fun hseq hundo hset hturns hwait => ?_⟩
    · rw [State.endChunk_of_room (State.lane_setLane_self _) (by exact hseq) (by exact hj), State.setLane_setLane, hended,
        State.afterItem_of_chunk (State.lane_setLane_self _) (by exact ha) (by exact hs) (Option.some_ne_none _),
        State.setLane_setLane] at hexec
      exact exec_of_setLane hexec rfl
    · rintro full hj hseq ho rfl
      rw [State.endChunk_of_full (State.lane_setLane_self _) (by exact hseq) (by exact hj), State.setLane_setLane, hended] at hexec
      refine ⟨fun hu => ?_, fun p refs hu hp hcan hrefs => ?_⟩
      · rw [State.journalFullStall_waits (State.lane_setLane_self _) (by exact ha) (by exact hr) (by exact hh) (by exact ho) (by exact hu),
          State.setLane_setLane, State.afterItem_same (State.lane_setLane_self _) rfl (.inr (Option.some_ne_none _))] at hexec
        refine exec_of_setLane hexec ?_
        unfold Lane.journalStopped
        rw [hs]
      · obtain ⟨hwrote, hbecomes, hframe⟩ := State.stopped_forced (l := { l with
          part := Partial.empty, chunk := some (chunk cut), offset := l.offset + 1, items := .data a len (k + 1) :: rest,
          grant := some { g with taken := g.taken + 1 } }) ha hr hh hs ho hu hp hcan (Option.some_ne_none _) rfl
        obtain rfl : refs = refCount l.journal := hrefs.trans (refCount_eq _).symm
        exact ⟨_, hexec, hframe, hbecomes, hwrote⟩
    · rw [State.endChunk_of_exhausted (State.lane_setLane_self _) (by exact hseq), State.setLane_setLane, hended] at hexec
      have hstopped := State.stopped_exhausted (l := { l with
          part := Partial.empty, chunk := some (chunk cut), offset := l.offset + 1, items := .data a len (k + 1) :: rest,
          grant := some { g with taken := g.taken + 1 } }) hset hturns hwait hundo
      refine ⟨_, hexec.trans (congrArg Host.Outcome.next hstopped), rfl, State.laneBecomes_of_setLane (e := s) rfl ?_⟩
      unfold Lane.enterAborting
      dsimp only
      rw [hs, ha, hr]
      rfl

end Sys2Proof.Machine

/-! PROOFS. Notices and seals (R83, R93), and the CHECKPOINT and END items (R57, R102 to R106; O45). -/

namespace Sys2Proof.Machine

open Sys2Proof

variable {s t : State} {p : PortNo} {n : LaneNo} {l : Lane} {rest : List Item}

/-! ### Notices -/

theorem Port.advanced_notices (q : Port) (ns ms : List Notice) :
    ({ ({ q with notices := ns } : Port).advanced with notices := ms } : Port) = { q.advanced with notices := ms } := by
  cases hr : q.ring with
  | none => simp only [Port.advanced, hr]
  | some g => simp only [Port.advanced, hr]

/-- A notice that finds a free position and no older notice is written, and the lanes waiting for a container are retested (R93). -/
theorem State.makeNotice_written (hc : s.canWrite p = true) (hn : (s.port p).notices = []) (m : Notice) :
    ∃ u, s.makeNotice p m = u.retest ∧ s.Wrote u p (.container m) (s.port p).advanced ∧
      u = { s with ports := u.ports, memory := u.memory } := by
  have hattached := State.canWrite_attached hc
  obtain ⟨g, hg⟩ := State.canWrite_ring hc
  obtain ⟨producer, pass, hadvanced⟩ := Port.advanced_eq (s.port p)
  generalize hv : (s.modPort p fun q => { q with notices := q.notices ++ [m] }) = v
  have hport : v.port p = { s.port p with notices := [m] } := by rw [← hv, State.port_modPort, hn]; rfl
  have hother (k : PortNo) (hk : k ≠ p) : v.port k = s.port k := by rw [← hv, State.port_modPort_ne _ _ _ hk]
  have hmemory : v.memory = s.memory := by rw [← hv]; rfl
  have hcan : v.canWrite p = true := by
    rw [← hc]
    exact State.canWrite_congr (by rw [hport]) (by rw [hport]) (by rw [hport]) (by rw [hport]) (by rw [hport])
  have hmade : s.makeNotice p m = v.writeNotice p := by
    unfold State.makeNotice
    dsimp only
    rw [hv, hattached, hcan, hn]
    rfl
  have hwrite : v.writeNotice p = ((v.ringPut p (.container m)).modPort p fun q => { q with notices := [] }).retest := by
    rw [State.writeNotice, hport]
  refine ⟨_, hmade.trans hwrite, ?_, ?_⟩
  · have hwrote := (v.wrote_ringPut p (.container m) (by rw [hport]; exact Option.isSome_iff_exists.mpr ⟨g, hg⟩)).modPort
      (f := fun q => { q with notices := [] }) fun _ => rfl
    rw [hport, Port.advanced_notices, hadvanced] at hwrote
    refine ⟨?_, hwrote.port.trans ?_, fun k hk => ?_, fun g' a hg' ha => ?_⟩
    · have hrecord := hwrote.record
      rw [hport] at hrecord
      exact hrecord
    · rw [hadvanced, ← hn]
    · rw [← hother k hk, ← hmemory]
      exact hwrote.otherPorts k hk
    · rw [← hmemory]
      exact hwrote.ring g' a (by rw [hport]; exact hg') (by rw [hport]; exact ha)
  · have hput := State.ringPut_frame (s := v) (p := p) (.container m)
    generalize v.ringPut p (.container m) = w at *
    rw [hput, ← hv]
    rfl

/-! ### Seals (R83) -/

/-- The state in which a container has been sealed and its lane has none open, before the notice (R83). -/
def State.sealing (s : State) (k : Container) (reason : SealReason) : State :=
  (s.modContainer k.number fun c => { c with state := .sealed reason (some (s.policy.settleLimit * 1000)) }).modLane k.ownerLane
    fun l => { l with openC := if l.openC = some k.number then none else l.openC }

/-- The SEALED notice of a container (R83, R93). -/
def State.sealNotice (s : State) (k : Container) (reason : SealReason) : Notice :=
  { kind := .sealed reason s.policy.settleLimit, lane := k.ownerLane, container := k.number, fill := k.fill,
    members := k.members.length }

theorem State.sealContainer_of_open {k : Container} (hk : s.container? k.number = some k) (ho : k.state = .opened) (reason : SealReason) :
    s.sealContainer k.number reason = (s.sealing k reason).makeNotice k.ownerPort (s.sealNotice k reason) := by
  unfold State.sealContainer
  rw [hk]
  dsimp only
  rw [ho]
  rfl

/-- A container sealed leaves its lane with none open (R83). -/
theorem State.sealing_lanes {k : Container} (reason : SealReason) (hl : s.lane k.ownerLane = l) (ho : l.openC = some k.number) :
    (s.sealing k reason).lanes = (s.setLane k.ownerLane { l with openC := none }).lanes := by
  subst hl
  have hlane : (s.sealing k reason).lanes = (s.setLane k.ownerLane { s.lane k.ownerLane with
    openC := if (s.lane k.ownerLane).openC = some k.number then none else (s.lane k.ownerLane).openC }).lanes := rfl
  rw [hlane, if_pos ho]

/-- A container sealed where the ring takes its notice and no lane waits for a container (R83). -/
theorem State.sealContainer_written {k : Container} (hk : s.container? k.number = some k) (ho : k.state = .opened)
    (hc : s.canWrite k.ownerPort = true) (hn : (s.port k.ownerPort).notices = []) (hstarved : s.NoneStarvedOfContainers)
    (reason : SealReason) (ht : s.sealContainer k.number reason = t) :
    s.Wrote t k.ownerPort (.container (s.sealNotice k reason)) (s.port k.ownerPort).advanced ∧
      t = { s.sealing k reason with ports := t.ports, memory := t.memory } := by
  rw [State.sealContainer_of_open hk ho] at ht
  obtain ⟨u, hu, hwrote, hframe⟩ := State.makeNotice_written (s := s.sealing k reason) hc hn (s.sealNotice k reason)
  have hretest : u.retest = u := by
    refine State.retest_none fun m => ?_
    have hlanes : u.lanes = (s.sealing k reason).lanes := by rw [hframe]
    have hlane : u.lane m = (s.sealing k reason).lane m := by rw [State.lane, hlanes]; rfl
    rw [hlane]
    by_cases hm : m = k.ownerLane
    · subst hm
      exact (congrArg (fun l : Lane => l.stalls.noContainer) (State.lane_setLane_self _)).trans (hstarved k.ownerLane)
    · exact (congrArg (fun l : Lane => l.stalls.noContainer) (State.lane_setLane_ne _ _ _ hm)).trans (hstarved m)
  rw [hu, hretest] at ht
  subst ht
  exact ⟨⟨hwrote.record, hwrote.port, hwrote.otherPorts, hwrote.ring⟩, hframe⟩

/-! ### CHECKPOINT and END (O45) -/

theorem exec_checkpointReached (n : LaneNo) (s : State) : exec (.checkpointReached n) s = execCheckpointReached n s := rfl

theorem exec_endReached (n : LaneNo) (s : State) : exec (.endReached n) s = execEndReached n s := rfl

/-- A CHECKPOINT or END item at the head of a lane's queue, and the state it brings the lane to. -/
def CommitsAs (n : LaneNo) (c : Instr) (i : Item) (st : LaneState) : Prop :=
  c = .checkpointReached n ∧ i = .checkpoint ∧ st = .checkpointing ∨ c = .endReached n ∧ i = .finish ∧ st = .closing

theorem CommitsAs.exec {c : Instr} {i : Item} {st : LaneState} (h : CommitsAs n c i st) (hl : s.lane n = l) (hr : l.reaches = true)
    (hi : l.items = i :: rest) : exec c s = .next (s.commitItem n st rest) := by
  subst hl
  rcases h with ⟨rfl, rfl, rfl⟩ | ⟨rfl, rfl, rfl⟩
  · rw [exec_checkpointReached, execCheckpointReached, hi, hr]
    rfl
  · rw [exec_endReached, execEndReached, hi, hr]
    rfl

/-- The lane record as it enters CHECKPOINTING or CLOSING (R57, R102). -/
def Lane.commits (l : Lane) (st : LaneState) (rest : List Item) : Lane :=
  { l with state := st, items := rest, stalls := { l.stalls with starved := false }, grant := none, keptTag := l.tag, tag := none,
           ckSettled := 0, ckWithdrawn := 0 }

theorem State.enterCommit_eq (hl : s.lane n = l) (hr : l.run = none) (st : LaneState) (rest : List Item) :
    s.enterCommit n st rest = ((s.setLane n (l.commits st rest)).sealOpen n).progress n := by
  unfold State.enterCommit
  dsimp only
  rw [State.closeRun_none (by rw [hl]; exact hr), State.modLane, hl]
  rfl

theorem State.sealOpen_some {k : Nat} (h : (s.lane n).openC = some k) : s.sealOpen n = s.sealContainer k .checkpoint := by
  unfold State.sealOpen
  rw [h]

/-- A lane that waits for its containers goes on as it is (R102). -/
theorem State.progress_waits (hs : (s.lane n).state = .checkpointing ∨ (s.lane n).state = .closing) (hr : (s.lane n).run = none)
    (hh : (s.lane n).held = none) (hu : (s.lane n).unsettled ≠ []) : s.progress n = s :=
  State.progress_none (Lane.hasRecord_waits hs hr hh hu)
    (.inl (by rcases hs with hs | hs <;> rw [hs] <;> exact LaneState.noConfusion))

/-- The LANE record due when a lane's wait for its containers ends (R104, R106). -/
theorem Lane.due_of_commit {st : LaneState} {d : Due} (h : st = .checkpointing ∧ d = .checkpoint ∨ st = .closing ∧ d = .closed)
    (hs : l.state = st) (hr : l.run = none) (hh : l.held = none) (hu : l.unsettled = []) : l.due = some d := by
  rcases h with ⟨rfl, rfl⟩ | ⟨rfl, rfl⟩ <;> simp [Lane.due, hs, hr, hh, hu]

theorem Lane.hasRecord_of_due {d : Due} (h : l.due = some d) (hs : l.state = .checkpointing ∨ l.state = .closing) :
    l.hasRecord = true := by
  rcases hs with hs | hs <;> simp [Lane.hasRecord, hs, h]

/-- A lane with no engine and nothing to write starves with an empty queue (R64). -/
theorem State.starveCheck_eq (hl : s.lane n = l) (ha : l.state = .active) (hs : l.stalls = Stalls.clear) (hc : l.chunk = none)
    (hh : l.held = none) (hr : l.run = none) (hg : l.grant = none) :
    s.starveCheck n = s.setLane n { l with stalls := l.queueStalls } := by
  unfold Lane.queueStalls
  by_cases hi : l.items = []
  · rw [State.starveCheck_starves (by rw [hl]; exact ha) (by rw [hl]; exact hi) (by rw [hl]; exact hc) (by rw [hl, hs]; rfl)
      (by rw [hl]; exact hh) (by rw [hl]; exact hr), if_pos hi, hl, hs, ← hg]
  · rw [State.starveCheck_none (.inl (by rw [hl]; exact hi)), if_neg hi, ← hs, State.setLane_same hl]

/-- A lane's wait ends with its CHECKPOINT record, and it is ACTIVE again (R104). -/
theorem State.progress_checkpoints (hl : s.lane n = l) (hst : l.state = .checkpointing) (hs : l.stalls = Stalls.clear) (hc : l.chunk = none)
    (hh : l.held = none) (hr : l.run = none) (hg : l.grant = none) (hu : l.unsettled = []) (hp : l.owner = some p)
    (hcan : s.canWrite p = true) (ht : s.progress n = t) :
    s.Wrote t p (.lane (l.commitRecord n .checkpoint)) (s.port p).advanced ∧
      s.LaneBecomes t n { l with journal := [], withdrawnSince := 0, state := .active, keptTag := none, stalls := l.queueStalls } ∧
      t = { s with ports := t.ports, memory := t.memory, lanes := t.lanes } := by
  have hdue : l.due = some .checkpoint := Lane.due_of_commit (.inl ⟨rfl, rfl⟩) hst hr hh hu
  have hwrite : s.laneWrite n p = (s.ringPut p (.lane (l.commitRecord n .checkpoint))).setLane n
      { l with journal := [], withdrawnSince := 0, state := .active, keptTag := none, stalls := l.queueStalls } := by
    rw [State.laneWrite_of_due (by rw [hl]; exact hr) (by rw [hl]; exact hh) (by rw [hl]; exact hdue), State.writeDue, hl,
      State.modLane, State.lane_ringPut, hl, State.starveCheck_eq (State.lane_setLane_self _) rfl (by exact hs) (by exact hc)
      (by exact hh) (by exact hr) (by exact hg), State.setLane_setLane]
    rfl
  have hjournal : l.queueStalls.journalFull = false := by unfold Lane.queueStalls; split <;> rfl
  have hkick : s.kick n = s.laneWrite n p := by
    rw [State.kick_of_free (by rw [hl]; exact hp) (by rw [hl]; exact Lane.hasRecord_of_due hdue (.inl hst)) hcan, hwrite]
    refine State.kick_none ?_ 3
    rw [State.lane_setLane_self]
    exact Lane.Quiet.hasRecord ⟨rfl, hjournal, hh, fun x hx => absurd (hr.symm.trans hx) (Option.some_ne_none x).symm⟩
  rw [State.progress, hkick, hwrite, State.walkCheck_none (.inl (by rw [State.lane_setLane_self]; exact LaneState.noConfusion))] at ht
  have hwrote := State.wrote_ringPut_of (s := s) hcan rfl rfl (.lane (l.commitRecord n .checkpoint))
  have hframe := State.ringPut_frame (s := s) (p := p) (.lane (l.commitRecord n .checkpoint))
  generalize s.ringPut p (.lane (l.commitRecord n .checkpoint)) = u at *
  subst ht
  refine ⟨⟨hwrote.record, hwrote.port, hwrote.otherPorts, hwrote.ring⟩, State.laneBecomes_of_setLane (e := u) (by rw [hframe]) rfl, ?_⟩
  rw [hframe]
  rfl

/-- A lane's wait ends with its CLOSED record, and it is FREE (R106). -/
theorem State.progress_closes {slot : ProfileSlot} (hl : s.lane n = l) (hst : l.state = .closing) (hh : l.held = none) (hr : l.run = none)
    (hu : l.unsettled = []) (hp : l.owner = some p) (hslot : s.slots[l.slot].LosesLane slot) (hcan : s.canWrite p = true)
    (ht : s.progress n = t) :
    s.Wrote t p (.lane (l.commitRecord n .closed)) (s.port p).advanced ∧ s.LaneBecomes t n Lane.free ∧
      t = { s with ports := t.ports, memory := t.memory, lanes := t.lanes, slots := s.slots.set l.slot slot } := by
  have hdue : l.due = some .closed := Lane.due_of_commit (.inr ⟨rfl, rfl⟩) hst hr hh hu
  have hwrite : s.laneWrite n p = (s.ringPut p (.lane (l.commitRecord n .closed))).freeLane n := by
    rw [State.laneWrite_of_due (by rw [hl]; exact hr) (by rw [hl]; exact hh) (by rw [hl]; exact hdue), State.writeDue, hl]
  have hfree : ((s.ringPut p (.lane (l.commitRecord n .closed))).freeLane n).lane n = Lane.free := State.lane_setLane_self _
  rw [State.progress, State.kick_of_free (by rw [hl]; exact hp) (by rw [hl]; exact Lane.hasRecord_of_due hdue (.inr hst)) hcan, hwrite,
    State.kick_of_no_owner (by rw [hfree]; rfl), State.walkCheck_none (.inl (by rw [hfree]; exact LaneState.noConfusion))] at ht
  have hwrote := State.wrote_ringPut_of (s := s) hcan rfl rfl (.lane (l.commitRecord n .closed))
  have hfreed := State.freeLane_ringPut (s := s) (t := t) (l := l) rfl hslot (by rw [State.setLane_same hl]; exact ht)
  refine ⟨?_, State.laneBecomes_of_setLane (e := s) rfl (by rw [hfreed]), ?_⟩
  · rw [← ht]
    exact ⟨hwrote.record, hwrote.port, hwrote.otherPorts, hwrote.ring⟩
  · generalize s.slots.set l.slot slot = slots at *
    rw [hfreed]
    rfl

/-- Settles O45: the partial chunk ends first; the lane then waits for its containers, or its record is written at once. -/
theorem checkpointAndEndCommit : Obligations.CheckpointAndEndCommit := by
  rintro s n l rest c st waits hl ha hs hc hh hr hcase rfl
  have hreaches : l.reaches = true := Lane.reaches_iff.mpr ⟨ha, hs, hc⟩
  obtain ⟨i, hi, hcommit⟩ : ∃ i, l.items = i :: rest ∧ CommitsAs n c i st := by
    rcases hcase with ⟨hc, hi, hst⟩ | ⟨hc, hi, hst⟩
    · exact ⟨_, hi, .inl ⟨hc, rfl, hst⟩⟩
    · exact ⟨_, hi, .inr ⟨hc, rfl, hst⟩⟩
  have hst : st = .checkpointing ∨ st = .closing := by
    rcases hcommit with ⟨-, -, h⟩ | ⟨-, -, h⟩
    · exact .inl h
    · exact .inr h
  have hhead : headKeepsGrant l.items = false := by
    rcases hcommit with ⟨-, rfl, -⟩ | ⟨-, rfl, -⟩ <;> rw [hi] <;> rfl
  have hexec := hcommit.exec hl hreaches hi
  have hcommits : l.commits st rest = { l with
      state := st, items := rest, grant := none, keptTag := l.tag, tag := none, ckSettled := 0, ckWithdrawn := 0 } := by
    unfold Lane.commits
    rw [hs]
    rfl
  have henter (hpart : l.part.length = 0) : s.commitItem n st rest = ((s.setLane n (l.commits st rest)).sealOpen n).progress n := by
    rw [State.commitItem, if_pos (by rw [hl]; exact hpart), State.enterCommit_eq hl hr]
  refine ⟨fun hpart hseq hj => ?_, fun hpart ho hu => ?_, ?_, ?_⟩
  · rw [State.commitItem, if_neg (by rw [hl]; omega), State.endChunk_of_room hl hseq hj,
      State.afterItem_of_chunk (State.lane_setLane_self _) (by exact ha) (by exact hs) (Option.some_ne_none _),
      State.setLane_setLane] at hexec
    refine exec_of_setLane hexec ?_
    rw [if_neg (show ¬headKeepsGrant (l.ended .item).items = true from fun e => Bool.false_ne_true (hhead.symm.trans e))]
    rfl
  · rw [henter hpart, State.sealOpen_none (by rw [State.lane_setLane_self]; exact ho), State.progress_waits
      (by rw [State.lane_setLane_self]; exact hst) (by rw [State.lane_setLane_self]; exact hr)
      (by rw [State.lane_setLane_self]; exact hh) (by rw [State.lane_setLane_self]; exact hu)] at hexec
    refine exec_of_setLane hexec ?_
    rw [hcommits, ← ho]
  · rintro k p hpart ho hk hopen hlane rfl hu hcan hn hstarved
    have hlaneC : (s.setLane n (l.commits st rest)).lane n = l.commits st rest := State.lane_setLane_self _
    rw [henter hpart, State.sealOpen_some (by rw [hlaneC]; exact ho)] at hexec
    have hstarvedC : (s.setLane n (l.commits st rest)).NoneStarvedOfContainers := fun m => by
      by_cases hm : m = n
      · subst hm
        rw [hlaneC, hcommits]
        exact (congrArg Stalls.noContainer hs)
      · rw [State.lane_setLane_ne _ _ _ hm]
        exact hstarved m
    generalize ht : (s.setLane n (l.commits st rest)).sealContainer k.number .checkpoint = t at hexec
    obtain ⟨hwrote, hframe⟩ := State.sealContainer_written (s := s.setLane n (l.commits st rest)) hk hopen hcan hn hstarvedC .checkpoint ht
    have hlanes : t.lanes = (s.setLane n { l.commits st rest with openC := none }).lanes := by
      rw [hframe]
      subst hlane
      exact (State.sealing_lanes .checkpoint hlaneC (by exact ho)).trans (by rw [State.setLane_setLane])
    have hbecomes : s.LaneBecomes t n { l.commits st rest with openC := none } := State.laneBecomes_of_setLane (e := s) rfl hlanes
    rw [State.progress_waits (by rw [hbecomes.1]; exact hst) (by rw [hbecomes.1]; exact hr) (by rw [hbecomes.1]; exact hh)
      (by rw [hbecomes.1]; exact hu)] at hexec
    refine ⟨t, hexec, ?_, ?_, ?_⟩
    · rw [hcommits] at hbecomes
      exact hbecomes
    · rw [← hlane]
      exact ⟨hwrote.record, hwrote.port, hwrote.otherPorts, hwrote.ring⟩
    · rw [hframe]
      rfl
  · rintro p refs q hpart ho hu hp hcan hrefs hq
    have hlaneC : (s.setLane n (l.commits st rest)).lane n = l.commits st rest := State.lane_setLane_self _
    obtain rfl : refs = refCount l.journal := hrefs.trans (refCount_eq _).symm
    rw [henter hpart, State.sealOpen_none (by rw [hlaneC]; exact ho)] at hexec
    refine ⟨?_, ?_⟩
    · rintro rfl
      obtain ⟨hwrote, hbecomes, hframe⟩ := State.progress_checkpoints hlaneC rfl (by rw [hcommits]; exact hs) hc hh hr rfl hu hp
        (by exact hcan) rfl
      generalize State.progress _ n = t at *
      rw [hcommits] at hwrote hbecomes
      refine ⟨t, hexec, ?_, ⟨?_, fun m hm => (hbecomes.2 m hm).trans (State.lane_setLane_ne _ _ _ hm)⟩, hframe⟩
      · have hrecord : Lane.commitRecord { l with
            state := .checkpointing, items := rest, grant := none, keptTag := l.tag, tag := none, ckSettled := 0, ckWithdrawn := 0 } n
            .checkpoint = {
              lane := n, forced := false, unresolved := false, detail := 0, stateCode := 0, offset := l.offset, nextSeq := q,
              tag := l.tag, body := .checkpoint (refCount l.journal) (l.journal.length - refCount l.journal) 0 0 l.withdrawnSince } := by
          unfold Lane.commitRecord
          dsimp only
          rw [hq]
          rfl
        rw [hrecord] at hwrote
        exact ⟨hwrote.record, hwrote.port, hwrote.otherPorts, hwrote.ring⟩
      · rw [hbecomes.1, ← ho]
        rfl
    · rintro slot rfl hslot
      obtain ⟨hwrote, hbecomes, hframe⟩ := State.progress_closes hlaneC rfl hh hr hu hp hslot (by exact hcan) rfl
      generalize State.progress _ n = t at *
      rw [hcommits] at hwrote
      refine ⟨t, hexec, ?_, ⟨hbecomes.1, fun m hm => (hbecomes.2 m hm).trans (State.lane_setLane_ne _ _ _ hm)⟩, hframe⟩
      have hrecord : Lane.commitRecord { l with
          state := .closing, items := rest, grant := none, keptTag := l.tag, tag := none, ckSettled := 0, ckWithdrawn := 0 } n
          .closed = {
            lane := n, forced := false, unresolved := false, detail := 0, stateCode := 0, offset := l.offset, nextSeq := q,
            tag := l.tag, body := .closed (refCount l.journal) (l.journal.length - refCount l.journal) 0 0 l.withdrawnSince } := by
        unfold Lane.commitRecord
        dsimp only
        rw [hq]
        rfl
      rw [hrecord] at hwrote
      exact ⟨hwrote.record, hwrote.port, hwrote.otherPorts, hwrote.ring⟩

end Sys2Proof.Machine

/-! PROOFS. The members of a container take their settled states, and SETTLE (R84, R85; O20). -/

namespace Sys2Proof.Machine

open Sys2Proof

variable {s t u : State} {p : PortNo} {n : LaneNo} {l : Lane} {r : CommandRecord}

/-! ### Slots of members -/

/-- From `s` to `t` the slot of each member comes to hold what `after` says, and every other slot of the index is as it was. -/
structure State.SlotsBecome (s t : State) (ms : List SlotRef) (after : SlotRef → Slot) : Prop where
  members : ∀ m ∈ ms, (t.bucket m.bucket)[m.slot] = after m
  others : ∀ (b : Nat) (i : Fin 16), (∀ m ∈ ms, ¬(m.bucket = b ∧ m.slot = i)) → (t.bucket b)[i] = (s.bucket b)[i]

theorem State.SlotsBecome.nil (after : SlotRef → Slot) : s.SlotsBecome s [] after := ⟨by simp, fun _ _ _ => rfl⟩

/-- One slot changes, and then those of further members in slots of their own. -/
theorem State.SlotsBecome.cons {m : SlotRef} {ms : List SlotRef} {after : SlotRef → Slot} (h : s.SlotBecomes t m.bucket m.slot (after m))
    (hms : t.SlotsBecome u ms after) (hm : ∀ k ∈ ms, ¬(m.bucket = k.bucket ∧ m.slot = k.slot)) : s.SlotsBecome u (m :: ms) after where
  members k hk := by
    rcases List.mem_cons.mp hk with rfl | hk
    · rw [hms.others k.bucket k.slot fun j hj e => hm j hj ⟨e.1.symm, e.2.symm⟩]
      exact h.1
    · exact hms.members k hk
  others b i hb := by
    rw [hms.others b i fun k hk => hb k (List.mem_cons_of_mem m hk)]
    exact h.2 b i fun e => hb m List.mem_cons_self ⟨e.1.symm, e.2.symm⟩

theorem State.SlotsBecome.of_index {ms : List SlotRef} {after : SlotRef → Slot} (h : s.SlotsBecome t ms after) (hs : u.index = s.index)
    {v : State} (ht : v.index = t.index) : u.SlotsBecome v ms after := by
  have hb (b : Nat) : u.bucket b = s.bucket b := by rw [State.bucket, hs]; rfl
  have hb' (b : Nat) : v.bucket b = t.bucket b := by rw [State.bucket, ht]; rfl
  exact ⟨fun m hm => by rw [hb']; exact h.members m hm, fun b i hi => by rw [hb, hb']; exact h.others b i hi⟩

theorem State.SlotBecomes.holds_other {b : Nat} {i : Fin 16} {v : Slot} (h : s.SlotBecomes t b i v) {m : SlotRef} {x : Entry}
    (hm : ¬(b = m.bucket ∧ i = m.slot)) (hx : s.Holds m x) : t.Holds m x :=
  (h.2 m.bucket m.slot fun e => hm ⟨e.1.symm, e.2.symm⟩).trans hx

/-- A bucket that reads cleanly reads so in any state with its errors and its poison list. -/
theorem State.readBucket_of_readable {errs : List DramError} {b : Nat} (h : s.Readable errs b) (hp : t.poisonList = s.poisonList)
    (hd : t.damage = s.damage ++ errs) : t.readBucket b = (false, t) :=
  State.readBucket_clean (by rw [hp]; exact h.1) (by rw [hd]; exact h.2)

theorem State.isMember_iff {k : Nat} {c : Container} (h : s.container? k = some c) (m : SlotRef) :
    s.isMember k m = decide (m ∈ c.members) := by
  unfold State.isMember
  rw [h]

/-! ### Members settle (R17, R85) -/

/-- What a member's slot holds once the member has settled (R17). -/
def settledSlot (entry : SlotRef → Entry) (epoch : Nat) (m : SlotRef) : Slot :=
  { generation := m.generation, entry := some ((entry m).settle epoch) }

theorem settleMember_of_entry {k : Nat} {c : Container} {m : SlotRef} {x : Entry} (hk : s.container? k = some c) (hm : m ∈ c.members)
    (hread : s.readBucket m.bucket = (false, s)) (hx : s.Holds m x) (done zeros : Nat) :
    settleMember k (done, zeros, s) m =
      (done + 1, zeros + bit (decide (x.count = 0)), s.updateEntry m.bucket m.slot (x.settle s.epoch)) := by
  unfold settleMember
  dsimp only
  rw [State.isMember_iff hk, decide_eq_true hm, if_pos rfl, hread]
  dsimp only
  rw [State.entry?_of hx]

/-- The members of a container settle one after another: each takes its settled state, and nothing but the index changes. -/
theorem settleMembers {k : Nat} {c : Container} {entry : SlotRef → Entry} (ms : List SlotRef) (hd : slotsDistinct ms)
    (hc : ∀ m ∈ ms, m ∈ c.members) : ∀ (s : State) (done zeros : Nat), s.container? k = some c →
    (∀ m ∈ ms, s.Holds m (entry m) ∧ s.Readable [] m.bucket) →
    ∃ t, ms.foldl (settleMember k) (done, zeros, s) =
        (done + ms.length, zeros + (ms.filter fun m => decide ((entry m).count = 0)).length, t) ∧
      s.SlotsBecome t ms (settledSlot entry s.epoch) ∧ t = { s with index := t.index } := by
  induction ms with
  | nil => exact fun s done zeros _ _ => ⟨s, rfl, .nil _, rfl⟩
  | cons m ms ih =>
    intro s done zeros hk hms
    obtain ⟨hholds, hread⟩ := hms m List.mem_cons_self
    rw [slotsDistinct, List.pairwise_cons] at hd
    have hslot := State.slotBecomes_updateEntry (s := s) (b := m.bucket) (i := m.slot) ((entry m).settle s.epoch)
    have hgeneration : (s.bucket m.bucket)[m.slot].generation = m.generation := by
      have hslot' : (s.bucket m.bucket)[m.slot] = { generation := m.generation, entry := some (entry m) } := hholds
      rw [hslot']
    rw [hgeneration] at hslot
    generalize hv : s.updateEntry m.bucket m.slot ((entry m).settle s.epoch) = v at hslot
    have hframe : v = { s with index := v.index } := by rw [← hv]; rfl
    obtain ⟨t, hfold, hslots, ht⟩ := ih hd.2 (fun j hj => hc j (List.mem_cons_of_mem m hj)) v (done + 1)
      (zeros + bit (decide ((entry m).count = 0))) (by rw [hframe]; exact hk) fun j hj => by
        obtain ⟨hj', hreadj⟩ := hms j (List.mem_cons_of_mem m hj)
        refine ⟨hslot.holds_other (hd.1 j hj) hj', ?_⟩
        rw [hframe]
        exact hreadj
    have hepoch : v.epoch = s.epoch := by rw [hframe]
    rw [hepoch] at hslots
    refine ⟨t, ?_, .cons hslot hslots (hd.1), ?_⟩
    · rw [List.foldl_cons, settleMember_of_entry hk (hc m List.mem_cons_self) (hread.clean) hholds, hv, hfold, List.filter_cons,
        List.length_cons]
      by_cases hzero : (entry m).count = 0
      · simp only [hzero, decide_true, bit, if_true, List.length_cons]
        rw [Nat.add_assoc, Nat.add_assoc, Nat.add_comm 1, Nat.add_comm 1]
      · simp only [hzero, decide_false, bit, Bool.false_eq_true, if_false]
        rw [Nat.add_assoc, Nat.add_comm 1]
        rfl
    · rw [ht, hframe]

/-! ### A completion in hand is answered -/

/-- A write described from a state with the same rings is one from the state itself. -/
theorem State.Wrote.of_units {e : State} {a : Response} {q : Port} (h : e.Wrote t p a q) (hring : (e.port p).ring = (s.port p).ring)
    (hproducer : (e.port p).producer = (s.port p).producer) (hpass : (e.port p).pass = (s.port p).pass)
    (hother : ∀ k, k ≠ p → e.port k = s.port k) (hm : e.memory = s.memory) : s.Wrote t p a q where
  record := by rw [← hproducer, ← hpass]; exact h.record
  port := h.port
  otherPorts k hk := by rw [← hother k hk, ← hm]; exact h.otherPorts k hk
  ring g a hg ha := by
    rw [← hm]
    exact h.ring g a (by rw [hring]; exact hg) (by rw [hproducer]; exact ha)

theorem Port.advanced_inHand (q : Port) (queue : List CommandRecord) (hand : Option Hand) :
    ({ q with queue := queue, hand := hand } : Port).advanced = { q.advanced with queue := queue, hand := hand } := by
  cases hr : q.ring with
  | none => simp only [Port.advanced, hr]
  | some g => simp only [Port.advanced, hr]

/-- A command that stood in hand is answered (R177). -/
theorem State.Takes.answers_inHand {kind : Nat} (h : s.Takes p r kind) {e : State} {hand : Option Hand}
    (hp : e.port p = { s.port p with queue := (s.port p).queue.drop 1, hand := hand }) (hother : ∀ k, k ≠ p → e.port k = s.port k)
    (hm : e.memory = s.memory) (o : Outcome) (fs : List Field) :
    s.Answered (e.complete p { kind := kind, tag := recTag r, outcome := o, fields := fs }) p r o fs ∧
      (e.complete p { kind := kind, tag := recTag r, outcome := o, fields := fs }).discarded = e.discarded := by
  have hcan : e.canWrite p = true := by
    rw [← h.writes]
    exact State.canWrite_congr (by rw [hp]) (by rw [hp]) (by rw [hp]) (by rw [hp]) (by rw [hp])
  have hwrote := State.wrote_complete hcan { kind := kind, tag := recTag r, outcome := o, fields := fs }
  rw [hp, Port.advanced_inHand] at hwrote
  refine ⟨?_, State.complete_discarded hcan _⟩
  unfold State.Answered
  rw [h.kind_eq]
  exact hwrote.of_units (by rw [hp]) (by rw [hp]) (by rw [hp]) hother hm

/-! ### SETTLE -/

/-- The settlement that a container's last member leaves in hand (R85). -/
def settlingOf (p : PortNo) (tag : Nat) (c : Container) (zeros : Nat) : Settling :=
  { container := c.number, sender := p, stray := false, tag := tag, members := c.members, settled := c.members.length, zeros := zeros,
    dups := 0, repeats := 0, waiters := c.waiters }

/-- The settlement step of a container whose members are read cleanly (R85). -/
theorem State.settleContainer_eq {c : Container} {entry : SlotRef → Entry} (hc : s.container? c.number = some c)
    (hd : slotsDistinct c.members) (hm : ∀ m ∈ c.members, s.Holds m (entry m) ∧ s.Readable [] m.bucket) (p : PortNo) (tag : Nat) :
    ∃ t, s.SlotsBecome t c.members (settledSlot entry s.epoch) ∧ t = { s with index := t.index } ∧
      s.settleContainer p tag c = State.retest { t.loseContainer c true with
        settlings := s.settlings ++ [settlingOf p tag c (c.members.filter fun m => decide ((entry m).count = 0)).length] } := by
  obtain ⟨t, hfold, hslots, hframe⟩ := settleMembers c.members hd (fun _ h => h) s 0 0 hc hm
  refine ⟨t, hslots, hframe, ?_⟩
  unfold State.settleContainer
  rw [hfold]
  have ht : t.container? c.number = some c := by rw [hframe]; exact hc
  have hsettlings : t.settlings = s.settlings := by rw [hframe]
  dsimp only
  rw [ht, Nat.zero_add, Nat.zero_add, Option.map_some, Option.getD_some]
  unfold State.loseContainer State.modLane
  dsimp only
  rw [← hsettlings]
  rfl

theorem State.settleChecks_pass {c : Container} (hp : c.ownerPort = p) (hl : (s.lane c.ownerLane).state ≠ .orphaned)
    (hc : c.state ≠ .opened) : firstFailing (s.settleChecks p c) = none := by
  have hopen : c.isOpen = false := by
    rw [← Bool.not_eq_true, Container.isOpen_iff]
    exact hc
  simp [State.settleChecks, hp, State.isOrphaned, hl, hopen]

/-- The state in which a SETTLE settles its container: the command in hand (R85). -/
def State.settlingIn (s : State) (p : PortNo) (errs : List DramError) (k : Nat) : State :=
  ((s.popQueue p).arise errs).modPort p fun q => { q with hand := some (.settle k) }

theorem State.settlingIn_frame (s : State) (p : PortNo) (errs : List DramError) (k : Nat) :
    s.settlingIn p errs k = { s with ports := (s.settlingIn p errs k).ports, damage := s.damage ++ errs } := rfl

theorem State.port_settlingIn (s : State) (p : PortNo) (errs : List DramError) (k : Nat) :
    (s.settlingIn p errs k).port p = { s.port p with queue := (s.port p).queue.drop 1, hand := some (.settle k) } := by
  have hpop : ((s.popQueue p).arise errs).port p = { s.port p with queue := (s.port p).queue.drop 1 } := State.port_popQueue s p
  rw [State.settlingIn, State.port_modPort, hpop]

theorem State.port_settlingIn_ne (s : State) (errs : List DramError) (k : Nat) {q : PortNo} (h : q ≠ p) :
    (s.settlingIn p errs k).port q = s.port q :=
  (State.port_modPort_ne _ _ _ h).trans (State.port_popQueue_ne s p h)

theorem exec_settle_of_passing (h : s.Takes p r 0x0B) (errs : List DramError) (hn : 1 ≤ numAt r 4 4) {c : Container}
    (hc : s.container? (numAt r 4 4) = some c) (ho : firstFailing (s.settleChecks p c) = none) :
    exec (.settle p errs) s = .next
      (((((s.settlingIn p errs (numAt r 4 4)).settleContainer p (recTag r) c).passCheck (s.popQueue p)).progress c.ownerLane).finishSettlings) := by
  have hc' : (s.popQueue p).container? (numAt r 4 4) = some c := hc
  have ho' : firstFailing ((s.popQueue p).settleChecks p c) = none := ho
  rw [exec_settle, execSettle, State.onCommand_takes h]
  dsimp only
  rw [if_neg (by omega), hc']
  dsimp only
  rw [ho']
  rfl

/-- A settlement without waiters is completed where the ring takes its record (R85). -/
theorem State.finishSettlings_of_one {g : Settling} (hs : s.settlings = [g]) (hw : g.waiters = []) (hg : g.stray = false) :
    s.finishSettlings = State.complete { s with settlings := [] } g.sender g.completion := by
  unfold State.finishSettlings
  rw [hs, List.filter_cons, if_pos (by rw [hw]; rfl), List.filter_nil, List.foldl_cons, List.foldl_nil]
  unfold State.finishSettling
  rw [hs, hg]
  simp

/-- A settlement with waiters stays in hand (R85). -/
theorem State.finishSettlings_of_waiting {g : Settling} (hs : s.settlings = [g]) (hw : g.waiters ≠ []) : s.finishSettlings = s := by
  unfold State.finishSettlings
  rw [hs, List.filter_cons, if_neg (by simpa using hw)]
  rfl

/-! ### A container leaves its lane (R85, R90) -/

theorem State.retestedLane_congr (hc : t.counter = s.counter) (hn : ∀ q, (t.port q).notices = (s.port q).notices) (used : Nat) (l : Lane) :
    t.retestedLane used l = s.retestedLane used l := by
  unfold State.retestedLane
  rw [hc]
  simp only [hn]

theorem State.lane_loseContainer (c : Container) (b : Bool) (m : LaneNo) :
    (s.loseContainer c b).lane m = if m = c.ownerLane then (s.lane c.ownerLane).loseContainer c.number b else s.lane m := by
  by_cases hm : m = c.ownerLane
  · subst hm
    rw [if_pos rfl]
    exact State.lane_setLane_self _
  · rw [if_neg hm]
    exact State.lane_setLane_ne _ _ _ hm

/-- A retested lane differs from itself in one stall cause, if at all (R76). -/
theorem State.retestedLane_eq (s : State) (used : Nat) (l : Lane) :
    ∃ b, s.retestedLane used l = { l with stalls := { l.stalls with noContainer := b } } := by
  unfold State.retestedLane
  split
  · exact ⟨false, rfl⟩
  · exact ⟨l.stalls.noContainer, rfl⟩

theorem State.retestedLane_of_fed (used : Nat) (h : l.stalls.noContainer = false) : s.retestedLane used l = l := by
  unfold State.retestedLane
  split
  · exact Lane.noContainer_false h
  · rfl

/-- The retest leaves what a lane has to write as it is. -/
theorem State.hasRecord_retestedLane (s : State) (used : Nat) (l : Lane) : (s.retestedLane used l).hasRecord = l.hasRecord := by
  obtain ⟨b, hb⟩ := s.retestedLane_eq used l
  rw [hb]
  rfl

/-- What a SETTLE has done when its owner lane goes on (R85). -/
structure State.SettledTo (s v : State) (p : PortNo) (errs : List DramError) (c : Container) (entry : SlotRef → Entry) (g : Settling)
    (rest : List Container) : Prop where
  slots : s.SlotsBecome v c.members (settledSlot entry s.epoch)
  lanes : ∀ m, v.lane m = s.retestedLane rest.length
    (if m = c.ownerLane then (s.lane c.ownerLane).loseContainer c.number true else s.lane m)
  port : v.port p = { s.port p with queue := (s.port p).queue.drop 1, hand := some (.settle c.number) }
  otherPorts : ∀ k, k ≠ p → v.port k = s.port k
  memory : v.memory = s.memory
  frame : v = { s with
    ports := v.ports, lanes := v.lanes, index := v.index, damage := s.damage ++ errs, settlings := [g], table := rest }

/-- A SETTLE that passes settles its container, and the owner lane then goes on (R85). -/
theorem State.Takes.settles (h : s.Takes p r 0x0B) (errs : List DramError) (hn : 1 ≤ numAt r 4 4) {c : Container}
    (hc : s.container? (numAt r 4 4) = some c) (hp : c.ownerPort = p) (hl : (s.lane c.ownerLane).state ≠ .orphaned)
    (ho : c.state ≠ .opened) (hs : s.settlings = []) {entry : SlotRef → Entry} (hd : slotsDistinct c.members)
    (hm : ∀ m ∈ c.members, s.Holds m (entry m) ∧ s.Readable errs m.bucket) {rest : List Container}
    (hrest : rest = s.table.filter fun k => decide (k.number ≠ c.number)) :
    ∃ v, exec (.settle p errs) s = .next ((v.progress c.ownerLane).finishSettlings) ∧
      s.SettledTo v p errs c entry (settlingOf p (recTag r) c (c.members.filter fun m => decide ((entry m).count = 0)).length) rest := by
  have hnumber : c.number = numAt r 4 4 := State.container?_number hc
  rw [← hnumber] at hc
  have hexec := exec_settle_of_passing h errs hn (hnumber ▸ hc) (State.settleChecks_pass hp hl ho)
  rw [← hnumber] at hexec
  have hframe := State.settlingIn_frame s p errs c.number
  have hport := State.port_settlingIn s p errs c.number
  have hother (k : PortNo) (hk : k ≠ p) := State.port_settlingIn_ne s errs c.number hk
  generalize s.settlingIn p errs c.number = e at hexec hframe hport hother
  obtain ⟨t, hslots, htframe, hsettled⟩ := State.settleContainer_eq (s := e) (entry := entry) (by rw [hframe]; exact hc) hd
    (fun m hmem => by
      obtain ⟨hholds, hread⟩ := hm m hmem
      rw [hframe]
      exact ⟨hholds, hread.1, fun x hx => hread.2 x (by simpa using hx)⟩) p (recTag r)
  have hnotices (q : PortNo) : (e.port q).notices = (s.port q).notices := by
    by_cases hq : q = p
    · rw [hq, hport]
    · rw [hother q hq]
  have hts : t = { s with ports := e.ports, index := t.index, damage := s.damage ++ errs } := by
    have h' := htframe
    rw [hframe] at h'
    exact h'
  have hlanes : t.lanes = s.lanes := by rw [hts]
  have hcount : t.poisonCount = s.poisonCount := by rw [hts]
  have hcounter : t.counter = s.counter := by rw [hts]
  have hmemory : t.memory = s.memory := by rw [hts]
  have htable : e.table = s.table := by rw [hframe]
  have hlane (m : LaneNo) : t.lane m = s.lane m := by rw [State.lane, hlanes]; rfl
  have hpass : (e.settleContainer p (recTag r) c).passCheck (s.popQueue p) = e.settleContainer p (recTag r) c := by
    refine State.passCheck_of_same ?_
    rw [hsettled]
    exact hcount
  rw [hpass] at hexec
  refine ⟨_, hexec, ?_⟩
  rw [hsettled]
  have hsettlings : e.settlings = [] := by rw [hframe]; exact hs
  refine ⟨?_, fun m => ?_, ?_, fun k hk => ?_, ?_, ?_⟩
  · have hepoch : e.epoch = s.epoch := by rw [hframe]
    rw [hepoch] at hslots
    exact hslots.of_index (by rw [hframe]) rfl
  · rw [State.retest_lane]
    have hused : (s.table.filter fun k => decide (k.number ≠ c.number)).length = rest.length := by rw [hrest]
    refine (State.retestedLane_congr (s := s) (t := { t.loseContainer c true with settlings := _ }) ?_ (fun q => ?_) _ _).trans ?_
    · exact hcounter
    · have hq : t.port q = e.port q := State.port_of_ports (by rw [htframe]) q
      exact (congrArg Port.notices hq).trans (hnotices q)
    · have hlen : (t.table.filter fun d => decide (d.number ≠ c.number)).length = rest.length := by
        rw [← hused, htframe, htable]
      have hlane' := State.lane_loseContainer (s := t) c true m
      rw [hlane, hlane] at hlane'
      exact congrArg₂ s.retestedLane hlen hlane'
  · exact (State.port_of_ports (s := e) (by rw [htframe]; rfl) p).trans hport
  · exact (State.port_of_ports (s := e) (by rw [htframe]; rfl) k).trans (hother k hk)
  · exact hmemory
  · rw [hsettlings, hts, hrest]
    rfl

end Sys2Proof.Machine

/-! PROOFS. A lane's wait goes on or ends as it loses a container (R101 to R106); SETTLE (O20). -/

namespace Sys2Proof.Machine

open Sys2Proof

variable {s t u : State} {p : PortNo} {n : LaneNo} {l : Lane} {r : CommandRecord}

/-! ### A lane's wait for its containers -/

/-- A lane that waits for its containers, with nothing else to write (R101, R102). -/
structure Lane.Waits (l : Lane) : Prop where
  state : l.state = .checkpointing ∨ l.state = .closing ∨ l.state = .active ∧ l.stalls.journalFull = true
  held : l.held = none
  run : l.run = none

/-- A lane that has nothing to write: ACTIVE without a journal-full commit, or with containers left to wait for. -/
def Lane.Idle (l : Lane) : Prop := l.Quiet ∨ l.Waits ∧ l.unsettled ≠ []

theorem Lane.Waits.counts (h : l.Waits) : l.countsContainers = true := by
  unfold Lane.countsContainers
  rcases h.state with hs | hs | ⟨hs, hj⟩
  · rw [hs]
  · rw [hs]
  · rw [hs]; exact hj

theorem Lane.Quiet.counts_not (h : l.Quiet) : l.countsContainers = false := by
  unfold Lane.countsContainers
  rw [h.active]
  exact h.journal

theorem Lane.Idle.progress (hl : (s.lane n).Idle) : s.progress n = s := by
  rcases hl with h | ⟨h, hu⟩
  · exact State.progress_none h.hasRecord (.inl (by rw [h.active]; exact LaneState.noConfusion))
  · rcases h.state with hs | hs | ⟨hs, -⟩
    · exact State.progress_waits (.inl hs) h.run h.held hu
    · exact State.progress_waits (.inr hs) h.run h.held hu
    · refine State.progress_none ?_ (.inl (by rw [hs]; exact LaneState.noConfusion))
      rw [Lane.hasRecord_of_active hs h.run h.held, Lane.due_of_active hs h.run h.held, if_neg fun e => hu e.2]
      rfl

theorem Lane.Idle.retested (h : l.Idle) (s : State) (used : Nat) : (s.retestedLane used l).Idle := by
  obtain ⟨b, hb⟩ := s.retestedLane_eq used l
  rw [hb]
  rcases h with h | ⟨h, hu⟩
  · exact .inl ⟨h.active, h.journal, h.held, h.run⟩
  · exact .inr ⟨⟨h.state, h.held, h.run⟩, hu⟩

theorem Lane.Quiet.loseContainer (h : l.Quiet) (k : Nat) (b : Bool) : (l.loseContainer k b).Idle :=
  .inl ⟨h.active, h.journal, h.held, h.run⟩

theorem Lane.Waits.loseContainer (h : l.Waits) (k : Nat) (b : Bool) (hk : ∃ m ∈ l.unsettled, m ≠ k) : (l.loseContainer k b).Idle := by
  refine .inr ⟨⟨h.state, h.held, h.run⟩, fun e => ?_⟩
  obtain ⟨m, hm, hne⟩ := hk
  exact absurd (List.filter_eq_nil_iff.mp e m hm) (by simpa using hne)

/-- A lane settles a container without having it open: its list and its count change, if at all. -/
theorem Lane.loseContainer_settled {k : Nat} {counted : Lane} (ho : l.openC ≠ some k)
    (hc : l.Quiet ∧ counted = l ∨ l.Waits ∧ counted = { l with ckSettled := l.ckSettled + 1 }) :
    l.loseContainer k true = { counted with unsettled := l.unsettled.filter fun m => decide (m ≠ k) } := by
  unfold Lane.loseContainer
  rw [if_neg ho]
  rcases hc with ⟨h, rfl⟩ | ⟨h, rfl⟩
  · rw [h.counts_not]
    rfl
  · rw [h.counts]
    rfl

/-! ### A wait ends (R101, R104, R106) -/

/-- The record with which the wait of lane `n` ends, what the lane becomes, and the profile slot. -/
def Lane.CommitEnds (l : Lane) (n : LaneNo) (old : ProfileSlot) (record : LaneRecord) (after : Lane) (slot : ProfileSlot) : Prop :=
  (l.state = .checkpointing ∧ l.stalls = Stalls.clear ∧ l.chunk = none ∧ slot = old ∧ record = l.commitRecord n .checkpoint ∧
      after = { l with state := .active, journal := [], withdrawnSince := 0, keptTag := none, stalls := l.queueStalls }) ∨
    (l.state = .closing ∧ old.LosesLane slot ∧ record = l.commitRecord n .closed ∧ after = Lane.free) ∨
    (l.state = .active ∧ l.stalls = { Stalls.clear with journalFull := true } ∧ slot = old ∧ record = l.commitRecord n .forced ∧
      after = { l with journal := [], withdrawnSince := 0, stalls := Stalls.clear })

/-- A journal-full commit ends with its FORCED record (R101). -/
theorem State.progress_forces (hl : s.lane n = l) (ha : l.state = .active) (hs : l.stalls = { Stalls.clear with journalFull := true })
    (hh : l.held = none) (hr : l.run = none) (hu : l.unsettled = []) (hp : l.owner = some p) (hcan : s.canWrite p = true)
    (ht : s.progress n = t) :
    s.Wrote t p (.lane (l.commitRecord n .forced)) (s.port p).advanced ∧
      s.LaneBecomes t n { l with journal := [], withdrawnSince := 0, stalls := Stalls.clear } ∧
      t = { s with ports := t.ports, memory := t.memory, lanes := t.lanes } := by
  have hdue : l.due = some .forced := by rw [Lane.due_of_active ha hr hh, if_pos ⟨by rw [hs], hu⟩]
  have hclear : ({ l.stalls with journalFull := false } : Stalls) = Stalls.clear := by rw [hs]; rfl
  have hwrite : s.laneWrite n p = (s.ringPut p (.lane (l.commitRecord n .forced))).setLane n
      { l with journal := [], withdrawnSince := 0, stalls := Stalls.clear } := by
    rw [State.laneWrite_of_due (by rw [hl]; exact hr) (by rw [hl]; exact hh) (by rw [hl]; exact hdue), State.writeDue, hl,
      ← hclear]
    dsimp only
    rw [State.modLane, State.lane_ringPut, hl]
  have hkick : s.kick n = s.laneWrite n p := by
    rw [State.kick_of_free (by rw [hl]; exact hp)
      (by rw [hl, Lane.hasRecord_of_active ha hr hh, hdue]; rfl) hcan, hwrite]
    refine State.kick_none ?_ 3
    rw [State.lane_setLane_self, Lane.hasRecord_of_active (by exact ha) (by exact hr) (by exact hh),
      Lane.due_of_active (by exact ha) (by exact hr) (by exact hh)]
    rfl
  rw [State.progress, hkick, hwrite, State.walkCheck_none (.inl (by
    rw [State.lane_setLane_self]
    exact fun e => LaneState.noConfusion (ha.symm.trans e)))] at ht
  have hwrote := State.wrote_ringPut_of (s := s) hcan rfl rfl (.lane (l.commitRecord n .forced))
  have hframe := State.ringPut_frame (s := s) (p := p) (.lane (l.commitRecord n .forced))
  generalize s.ringPut p (.lane (l.commitRecord n .forced)) = x at *
  subst ht
  refine ⟨⟨hwrote.record, hwrote.port, hwrote.otherPorts, hwrote.ring⟩, State.laneBecomes_of_setLane (e := x) (by rw [hframe]) rfl, ?_⟩
  rw [hframe]
  rfl

/-- A lane's wait ends with its record, as its state says (R101, R104, R106). -/
theorem State.progress_commits {record : LaneRecord} {after : Lane} {i : Fin 4} {slot : ProfileSlot} (hl : s.lane n = l) (hi : l.slot = i)
    (hh : l.held = none) (hr : l.run = none) (hg : l.grant = none) (hu : l.unsettled = []) (hp : l.owner = some p)
    (hcan : s.canWrite p = true) (h : l.CommitEnds n s.slots[i] record after slot) (ht : s.progress n = t) :
    s.Wrote t p (.lane record) (s.port p).advanced ∧ s.LaneBecomes t n after ∧
      t = { s with ports := t.ports, memory := t.memory, lanes := t.lanes, slots := s.slots.set i slot } := by
  subst hi
  have hkept : s.slots.set l.slot s.slots[l.slot] = s.slots := Vector.set_getElem_self _
  rcases h with ⟨hst, hs, hc, rfl, rfl, rfl⟩ | ⟨hst, hslot, rfl, rfl⟩ | ⟨hst, hs, rfl, rfl, rfl⟩
  · rw [hkept]
    exact State.progress_checkpoints hl hst hs hc hh hr hg hu hp hcan ht
  · exact State.progress_closes hl hst hh hr hu hp hslot hcan ht
  · rw [hkept]
    exact State.progress_forces hl hst hs hh hr hu hp hcan ht

/-! ### SETTLE -/

/-- A settlement without waiters is answered with its counts (R85). -/
theorem State.finishSettlings_settled {tag zeros : Nat} {c : Container} (hs : s.settlings = [settlingOf p tag c zeros])
    (hw : c.waiters = []) :
    s.finishSettlings = State.complete { s with settlings := [] } p {
      kind := 0x0B, tag := tag, outcome := .ok,
      fields := [.num 4 c.number, .num 4 c.members.length, .num 4 zeros, .num 2 0, .num 2 0] } :=
  State.finishSettlings_of_one hs hw rfl

theorem Entry.settle_eq (x : Entry) (e : Nat) :
    x.settle e = { x with state := if x.count = 0 then .zero e else if x.count ≤ 16777214 then .live else .pinned } := by
  have hle : (x.count < Config.maxCount) = (x.count ≤ 16777214) := propext ⟨Nat.le_of_lt_succ, Nat.lt_succ_of_le⟩
  unfold Entry.settle
  simp only [hle]

/-- A wait of a SETTLE's owner lane that has ended leaves a position for the completion. -/
theorem State.canWrite_advanced {g : Ring} (hc : s.canWrite p = true) (hg : (s.port p).Rings g) (hfree : 2 ≤ (s.port p).free)
    (ht : t.port p = (s.port p).advanced) : t.canWrite p = true := by
  have hone := Port.free_advanced hg (by omega)
  obtain ⟨producer, pass, hadvanced⟩ := Port.advanced_eq (s.port p)
  rw [State.canWrite, Bool.and_eq_true, Bool.and_eq_true, decide_eq_true_eq] at hc ⊢
  obtain ⟨⟨hattached, hwaiting⟩, -⟩ := hc
  rw [State.attached] at hattached ⊢
  rw [ht]
  refine ⟨⟨?_, ?_⟩, by omega⟩
  · rw [hadvanced]; exact hattached
  · rw [hadvanced]; exact hwaiting

/-- Settles O20: the members settle one after another, and the owner lane, its wait and the completion follow from the container's leaving. -/
theorem settleSettlesMembers : Obligations.SettleSettlesMembers := by
  rintro s p r errs c why d entry zeros l rest h hn hc hp hstate hl ho hs hd hm rfl hrest
  have hopen : c.state ≠ .opened := by rw [hstate]; exact ContainerState.noConfusion
  have hsettles (hne : l.state ≠ .orphaned) := h.settles errs hn hc hp (by rw [hl]; exact hne) hopen hs hd hm hrest
  have hholds {v : State} (hv : s.SlotsBecome v c.members (settledSlot entry s.epoch)) (m : SlotRef) (hmem : m ∈ c.members) :
      v.Holds m { entry m with
        state := if (entry m).count = 0 then .zero s.epoch else if (entry m).count ≤ 16777214 then .live else .pinned } :=
    (hv.members m hmem).trans (by rw [settledSlot, Entry.settle_eq])
  generalize (c.members.filter fun m => decide ((entry m).count = 0)).length = zeros at *
  refine ⟨fun counted hcounted => ?_, ?_⟩
  · have hcases : l.Quiet ∧ counted = l ∨ l.Waits ∧ counted = { l with ckSettled := l.ckSettled + 1 } := by
      rcases hcounted with hq | ⟨hst, hh, hr, -, hcounted⟩
      · exact .inl hq
      · exact .inr ⟨⟨hst, hh, hr⟩, hcounted⟩
    have hne : l.state ≠ .orphaned := by
      rcases hcases with ⟨hq, -⟩ | ⟨hw, -⟩
      · rw [hq.active]; exact LaneState.noConfusion
      · rcases hw.state with hst | hst | ⟨hst, -⟩ <;> rw [hst] <;> exact LaneState.noConfusion
    have hidle : (l.loseContainer c.number true).Idle := by
      rcases hcounted with ⟨hq, -⟩ | ⟨hst, hh, hr, hk, -⟩
      · exact hq.loseContainer _ _
      · exact Lane.Waits.loseContainer ⟨hst, hh, hr⟩ _ _ hk
    obtain ⟨v, hexec, hv⟩ := hsettles hne
    have hlane := hv.lanes c.ownerLane
    rw [if_pos rfl, hl] at hlane
    rw [(hlane ▸ hidle.retested s rest.length : (v.lane c.ownerLane).Idle).progress] at hexec
    have hlanes (m : LaneNo) : v.lane m = s.retestedLane rest.length
        (if m = c.ownerLane then { counted with unsettled := l.unsettled.filter fun k => decide (k ≠ c.number) } else s.lane m) := by
      rw [hv.lanes m, hl, Lane.loseContainer_settled ho hcases]
    have hframe := hv.frame
    have hsettlings : v.settlings = [settlingOf p (recTag r) c zeros] := by rw [hframe]
    by_cases hw : c.waiters = []
    · rw [State.finishSettlings_settled hsettlings hw] at hexec
      obtain ⟨hanswered, hdiscarded⟩ := h.answers_inHand (e := { v with settlings := [] }) hv.port hv.otherPorts hv.memory .ok
        [.num 4 c.number, .num 4 c.members.length, .num 4 zeros, .num 2 0, .num 2 0]
      have hcomplete := State.complete_frame { v with settlings := [] } p {
        kind := 0x0B, tag := recTag r, outcome := .ok,
        fields := [.num 4 c.number, .num 4 c.members.length, .num 4 zeros, .num 2 0, .num 2 0] }
      generalize State.complete { v with settlings := [] } p _ = t at *
      have hslots : s.SlotsBecome t c.members (settledSlot entry s.epoch) := hv.slots.of_index rfl (by rw [hcomplete])
      refine ⟨t, hexec, hholds hslots, hslots.others, fun m => ?_, ?_, fun _ => ⟨by rw [hcomplete], hanswered⟩, fun e => absurd hw e⟩
      · rw [← hlanes, State.lane, hcomplete]
        rfl
      · rw [hdiscarded] at hcomplete
        rw [hcomplete, hframe]
    · rw [State.finishSettlings_of_waiting hsettlings hw] at hexec
      refine ⟨v, hexec, hholds hv.slots, hv.slots.others, hlanes, ?_, fun e => absurd e hw,
        fun _ => ⟨hsettlings, hv.port, hv.otherPorts, hv.memory⟩⟩
      rw [hframe]
  · rintro g refs record after slot hw hstarved howner hg hfree hu hr hh hgrant hrefs hend
    obtain rfl : refs = refCount l.journal := hrefs.trans (refCount_eq _).symm
    have hlost : (l.loseContainer c.number true).unsettled = [] :=
      List.filter_eq_nil_iff.mpr fun k hk => by simpa using hu k hk
    have hwaits : l.Waits := by
      refine ⟨?_, hh, hr⟩
      rcases hend with ⟨hst, -⟩ | ⟨hst, -⟩ | ⟨hst, hj, -⟩
      · exact .inl hst
      · exact .inr (.inl hst)
      · exact .inr (.inr ⟨hst, by rw [hj]⟩)
    have hne : l.state ≠ .orphaned := by
      rcases hwaits.state with hst | hst | ⟨hst, -⟩ <;> rw [hst] <;> exact LaneState.noConfusion
    have hcounted := Lane.loseContainer_settled ho (.inr ⟨hwaits, rfl⟩)
    rw [show (l.unsettled.filter fun m => decide (m ≠ c.number)) = [] from hlost] at hcounted
    obtain ⟨v, hexec, hv⟩ := hsettles hne
    have hlane : v.lane c.ownerLane = l.loseContainer c.number true := by
      rw [hv.lanes, if_pos rfl, hl, State.retestedLane_of_fed _ (hl ▸ hstarved c.ownerLane)]
    have hport := hv.port
    have hcan : v.canWrite p = true := by
      rw [← h.writes]
      exact State.canWrite_congr (by rw [hport]) (by rw [hport]) (by rw [hport]) (by rw [hport]) (by rw [hport])
    have hframe := hv.frame
    have hvslots : v.slots = s.slots := by rw [hframe]
    have hends : (l.loseContainer c.number true).CommitEnds c.ownerLane v.slots[l.slot] record after slot := by
      rw [hcounted, hvslots]
      rcases hend with ⟨hst, hs, hc, hslot, hrec, haft⟩ | ⟨hst, haft, hslot, hrec⟩ | ⟨hst, hs, hslot, hrec, haft⟩
      · exact .inl ⟨hst, hs, hc, hslot, hrec, haft⟩
      · exact .inr (.inl ⟨hst, hslot, hrec, haft⟩)
      · exact .inr (.inr ⟨hst, hs, hslot, hrec, haft⟩)
    obtain ⟨hwrote, hbecomes, hwframe⟩ := State.progress_commits (l := l.loseContainer c.number true) (i := l.slot) hlane rfl (by exact hh)
      (by exact hr) (by exact hgrant) hlost (by exact howner) hcan hends rfl
    generalize v.progress c.ownerLane = w at *
    have hadvanced : w.port p = { (s.port p).advanced with queue := (s.port p).queue.drop 1, hand := some (.settle c.number) } := by
      rw [hwrote.port, hport, Port.advanced_inHand]
    have hsettlings : w.settlings = [settlingOf p (recTag r) c zeros] := by rw [hwframe, hframe]
    rw [State.finishSettlings_settled hsettlings hw] at hexec
    have hput := hwrote.of_units (s := s) (by rw [hport]) (by rw [hport]) (by rw [hport]) hv.otherPorts hv.memory
    generalize he : ({ w with settlings := [] } : State) = e at hexec
    have hfirst : s.Wrote e p (.lane record) (v.port p).advanced := by
      subst he
      exact ⟨hput.record, hput.port, hput.otherPorts, hput.ring⟩
    have hvg : (v.port p).Rings g := by
      rw [hport]
      exact ⟨hg.ring, hg.size, hg.producer, hg.consumer⟩
    have hcanE : e.canWrite p = true := State.canWrite_advanced hcan hvg (by rw [hport]; exact hfree) hfirst.port
    have hsecond := State.wrote_complete hcanE {
      kind := 0x0B, tag := recTag r, outcome := .ok,
      fields := [.num 4 c.number, .num 4 c.members.length, .num 4 zeros, .num 2 0, .num 2 0] }
    have hdiscarded := State.complete_discarded hcanE {
      kind := 0x0B, tag := recTag r, outcome := .ok,
      fields := [.num 4 c.number, .num 4 c.members.length, .num 4 zeros, .num 2 0, .num 2 0] }
    have hcomplete := State.complete_frame e p {
      kind := 0x0B, tag := recTag r, outcome := .ok,
      fields := [.num 4 c.number, .num 4 c.members.length, .num 4 zeros, .num 2 0, .num 2 0] }
    generalize e.complete p _ = t at *
    have heport : e.port p = { (s.port p).advanced with queue := (s.port p).queue.drop 1, hand := some (.settle c.number) } := by
      rw [hfirst.port, hport, Port.advanced_inHand]
    have htport : t.port p = (s.port p).advanced.answered := by
      obtain ⟨producer, pass, hadv⟩ := Port.advanced_eq (s.port p)
      rw [hsecond.port, heport, Port.advanced_inHand, Port.answered, hadv]
    have hadv : (v.port p).advanced = { (s.port p).advanced with queue := (s.port p).queue.drop 1, hand := some (.settle c.number) } := by
      rw [hport, Port.advanced_inHand]
    obtain ⟨hone, htwo⟩ := State.Wrote.pair hfirst hsecond hg (by rw [hadv]; exact hg.advanced.ring)
      (by rw [heport, Port.advanced_inHand]; exact hg.advanced.advanced.ring) (by rw [hadv]) (by rw [hadv])
    refine ⟨t, hexec, hone, htwo, htport, fun q hq => ?_, ⟨?_, fun m hm => ?_⟩, ?_⟩
    · exact ⟨(hsecond.otherPorts q hq).1.trans (hfirst.otherPorts q hq).1, (hsecond.otherPorts q hq).2.trans (hfirst.otherPorts q hq).2⟩
    · rw [State.lane, hcomplete, ← he]
      exact hbecomes.1
    · have hother : t.lane m = v.lane m := by
        rw [State.lane, hcomplete, ← he]
        exact hbecomes.2 m hm
      rw [hother, hv.lanes, if_neg hm, State.retestedLane_of_fed _ (hstarved m)]
    · rw [hdiscarded] at hcomplete
      rw [hvslots] at hwframe
      generalize s.slots.set l.slot slot = slots at *
      rw [hcomplete, ← he, hwframe, hframe, hs]

end Sys2Proof.Machine

/-! PROOFS. The members of a container leave the index, and its withdrawal (R90 to R92, R110; O50). -/

namespace Sys2Proof.Machine

open Sys2Proof

variable {s t u : State} {p : PortNo} {n : LaneNo} {l : Lane}

/-! ### Members leave the index (R90) -/

/-- What a member's slot holds once the member has left the index (R8). -/
def clearedSlot (m : SlotRef) : Slot := { generation := if m.generation = 16383 then 0 else m.generation + 1, entry := none }

theorem withdrawMember_of_entry {k : Nat} {c : Container} {m : SlotRef} {x : Entry} (hk : s.container? k = some c) (hm : m ∈ c.members)
    (hread : s.readBucket m.bucket = (false, s)) (hx : s.Holds m x) (hwatch : s.Unwatched) (done : Nat) :
    withdrawMember k (done, s) m =
      (done + 1, { s.setBucket m.bucket (clearSlot (s.bucket m.bucket) m.slot) with occupancy := s.occupancy - 1 }) := by
  have hremove : s.removeEntry m.bucket m.slot =
      { s.setBucket m.bucket (clearSlot (s.bucket m.bucket) m.slot) with occupancy := s.occupancy - 1 } :=
    State.changeOccupancy_unwatched (by exact hwatch) _
  unfold withdrawMember
  dsimp only
  rw [State.isMember_iff hk, decide_eq_true hm, if_pos rfl, hread]
  dsimp only
  rw [State.entry?_of hx, if_pos Option.isSome_some, hremove]

/-- The members of a container leave the index one after another: each leaves its slot FREE. -/
theorem withdrawMembers {k : Nat} {c : Container} {entry : SlotRef → Entry} (ms : List SlotRef) (hd : slotsDistinct ms)
    (hc : ∀ m ∈ ms, m ∈ c.members) : ∀ (s : State) (done : Nat), s.container? k = some c → s.Unwatched →
    sparseWf Bucket.untouched s.index = true → (∀ m ∈ ms, s.Holds m (entry m) ∧ s.Readable [] m.bucket) →
    ∃ t, ms.foldl (withdrawMember k) (done, s) = (done + ms.length, t) ∧ s.SlotsBecome t ms clearedSlot ∧
      t = { s with index := t.index, occupancy := s.occupancy - ms.length } := by
  induction ms with
  | nil => exact fun s done _ _ _ _ => ⟨s, rfl, .nil _, rfl⟩
  | cons m ms ih =>
    intro s done hk hwatch hwf hms
    obtain ⟨hholds, hread⟩ := hms m List.mem_cons_self
    rw [slotsDistinct, List.pairwise_cons] at hd
    have hslot := State.slotBecomes_clearSlot (s := s) (b := m.bucket) (i := m.slot) hwf
    have hgeneration : (s.bucket m.bucket)[m.slot].generation = m.generation := by
      have hslot' : (s.bucket m.bucket)[m.slot] = { generation := m.generation, entry := some (entry m) } := hholds
      rw [hslot']
    have hwf' := s.setBucket_wf m.bucket (clearSlot (s.bucket m.bucket) m.slot) hwf
    rw [hgeneration] at hslot
    have hstep := withdrawMember_of_entry hk (hc m List.mem_cons_self) hread.clean hholds hwatch done
    generalize hv : ({ s.setBucket m.bucket (clearSlot (s.bucket m.bucket) m.slot) with occupancy := s.occupancy - 1 } : State) = v at *
    have hslot' : s.SlotBecomes v m.bucket m.slot (clearedSlot m) := by rw [← hv]; exact hslot
    have hframe : v = { s with index := v.index, occupancy := s.occupancy - 1 } := by rw [← hv]; rfl
    obtain ⟨t, hfold, hslots, ht⟩ := ih hd.2 (fun j hj => hc j (List.mem_cons_of_mem m hj)) v (done + 1)
      (by rw [hframe]; exact hk) (by rw [hframe]; exact hwatch) (by rw [← hv]; exact hwf') fun j hj => by
        obtain ⟨hj', hreadj⟩ := hms j (List.mem_cons_of_mem m hj)
        refine ⟨hslot'.holds_other (hd.1 j hj) hj', ?_⟩
        rw [hframe]
        exact hreadj
    refine ⟨t, ?_, .cons hslot' hslots hd.1, ?_⟩
    · rw [List.foldl_cons, hstep, hfold, List.length_cons, Nat.add_assoc, Nat.add_comm 1]
    · rw [ht, hframe, List.length_cons, Nat.add_comm, ← Nat.sub_sub]

/-! ### Waiters are handed their turns (R91) -/

/-- A lane that waited for a container and repeats its lookup (R91). -/
def Lane.released (l : Lane) : Lane := { l with waitTarget := none, stalls := { l.stalls with waiting := false } }

/-- The turn that the waiters of a withdrawn container are handed. -/
def turnsOf (ws : List LaneNo) : List Turns := if ws = [] then [] else [{ waiters := ws, settled := none }]

theorem State.retestedLane_released (s : State) (used : Nat) (l : Lane) :
    s.retestedLane used l.released = (s.retestedLane used l).released := by
  unfold State.retestedLane Lane.released
  dsimp only
  split <;> rfl

theorem State.retestedLane_twice (s : State) (used : Nat) (l : Lane) :
    s.retestedLane used (s.retestedLane used l) = s.retestedLane used l := by
  unfold State.retestedLane
  by_cases h : s.counter ≤ 4294967295 ∧ used < 256 ∧ ∃ p, l.owner = some p ∧ (s.port p).notices.length < 256
  · rw [if_pos h, if_pos h]
  · rw [if_neg h, if_neg h]

theorem Lane.released_released (l : Lane) : l.released.released = l.released := rfl

/-- The lanes of a waiter list give up their wait, each in its place (R90). -/
theorem State.releaseLanes (ws : List LaneNo) : ∀ s : State, ∃ t,
    ws.foldl (fun t n => t.modLane n fun l => { l with waitTarget := none, stalls := { l.stalls with waiting := false } }) s = t ∧
      (∀ m, t.lane m = if m ∈ ws then (s.lane m).released else s.lane m) ∧ t = { s with lanes := t.lanes } := by
  induction ws with
  | nil => exact fun s => ⟨s, rfl, fun m => by simp, rfl⟩
  | cons w ws ih =>
    intro s
    obtain ⟨t, hfold, hlanes, hframe⟩ := ih (s.modLane w fun l => { l with waitTarget := none, stalls := { l.stalls with waiting := false } })
    refine ⟨t, hfold, fun m => ?_, by rw [hframe]; rfl⟩
    rw [hlanes m]
    by_cases hm : m = w
    · subst hm
      have hself : (s.modLane m fun l => { l with waitTarget := none, stalls := { l.stalls with waiting := false } }).lane m =
        (s.lane m).released := State.lane_setLane_self _
      rw [hself, Lane.released_released, ite_self, if_pos List.mem_cons_self]
    · have hother : (s.modLane w fun l => { l with waitTarget := none, stalls := { l.stalls with waiting := false } }).lane m =
        s.lane m := State.lane_setLane_ne _ _ _ hm
      rw [hother]
      simp only [List.mem_cons, hm, false_or]

/-- The waiters of a withdrawn container are handed their turns: none of them holds RING_FULL, so none is passed over (R91). -/
theorem State.releaseWaiters_eq (ws : List LaneNo) (hs : s.turns = []) (hw : ∀ m ∈ ws, (s.lane m).stalls.ringFull = false) :
    ∃ t, s.releaseWaiters ws = t ∧ (∀ m, t.lane m = if m ∈ ws then (s.lane m).released else s.lane m) ∧
      t = { s with lanes := t.lanes, turns := turnsOf ws } := by
  obtain ⟨t, hfold, hlanes, hframe⟩ := s.releaseLanes ws
  have hturns : t.turns = [] := by rw [hframe]; exact hs
  have hkept : ws.dropWhile (fun n => (t.lane n).stalls.ringFull) = ws := by
    cases ws with
    | nil => rfl
    | cons w ws =>
      refine List.dropWhile_cons_of_neg ?_
      rw [hlanes, if_pos List.mem_cons_self]
      exact fun e => Bool.false_ne_true ((hw w List.mem_cons_self).symm.trans e)
  refine ⟨{ t with turns := turnsOf ws }, ?_, hlanes, by rw [hframe]⟩
  unfold State.releaseWaiters State.settleTurns
  rw [hfold]
  dsimp only
  rw [hturns, List.nil_append, List.map_cons, List.map_nil]
  have hkept' : ws.dropWhile (fun n => (State.lane { t with turns := [{ waiters := ws, settled := none }] } n).stalls.ringFull) = ws := hkept
  rw [hkept']
  unfold turnsOf
  cases ws with
  | nil => rfl
  | cons w ws => rfl

/-! ### A container is withdrawn (R90) -/

/-- The WITHDRAWN notice of a container (R90). -/
def withdrawnNotice (k : Container) (cause : WithdrawCause) : Notice :=
  { kind := .withdrawn cause k.waiters.length, lane := k.ownerLane, container := k.number, fill := k.fill, members := k.members.length }

/-- What the withdrawal of a container has done when its owner lane goes on (R90). -/
structure State.WithdrawnTo (s v : State) (p : PortNo) (errs : List DramError) (k : Container) (cause : WithdrawCause) (ws : List LaneNo)
    (rest : List Container) (recent : List Nat) : Prop where
  slots : s.SlotsBecome v k.members clearedSlot
  lanes : ∀ m, v.lane m = s.retestedLane rest.length
    (if m = k.ownerLane then (s.lane k.ownerLane).loseContainer k.number false else if m ∈ ws then (s.lane m).released else s.lane m)
  wrote : s.Wrote v p (.container (withdrawnNotice k cause)) { (s.port p).advanced with recent := recent }
  frame : v = { s with
    ports := v.ports, memory := v.memory, lanes := v.lanes, index := v.index, damage := s.damage ++ errs
    occupancy := s.occupancy - k.members.length, table := rest, turns := turnsOf ws }

theorem Port.advanced_recent (q : Port) (recent : List Nat) : ({ q with recent := recent } : Port).advanced = { q.advanced with recent := recent } := by
  cases hr : q.ring with
  | none => simp only [Port.advanced, hr]
  | some g => simp only [Port.advanced, hr]

theorem State.port_listWithdrawn (s : State) (p : PortNo) (k : Nat) {recent : List Nat}
    (h : recent = (if (s.port p).recent.length < 16 then (s.port p).recent else (s.port p).recent.drop 1) ++ [k]) :
    (s.listWithdrawn p k).port p = { s.port p with recent := recent } := by
  rw [State.listWithdrawn, State.port_modPort, h]
  rfl

theorem State.Wrote.result_of_same {a : Response} {q : Port} (h : s.Wrote t p a q) (hp : u.ports = t.ports) (hm : u.memory = t.memory) :
    s.Wrote u p a q := by
  have hport (k : PortNo) : u.port k = t.port k := State.port_of_ports hp k
  refine ⟨?_, (hport p).trans h.port, fun k hk => ?_, fun g b hg hb => ?_⟩
  · rw [← h.record, State.ringRecord, State.ringRecord, hport, hm]
  · rw [hport, hm]
    exact h.otherPorts k hk
  · rw [hm]
    exact h.ring g b hg hb

/-- The withdrawal of a container of a lane whose port can take the notice at once (R90). -/
theorem State.withdraws (errs : List DramError) {k : Container} {entry : SlotRef → Entry} {ws : List LaneNo} {rest : List Container}
    {recent : List Nat} (cause : WithdrawCause) (hk : s.container? k.number = some k) (hp : k.ownerPort = p) (hc : s.canWrite p = true)
    (hn : (s.port p).notices = []) (ht : s.turns = []) (hwatch : s.Unwatched) (hwf : Memory.wf s = true) (hd : slotsDistinct k.members)
    (hm : ∀ m ∈ k.members, s.Holds m (entry m) ∧ s.Readable errs m.bucket) (hws : ws = k.waiters.map Prod.fst)
    (howner : k.ownerLane ∉ ws) (hring : ∀ m ∈ ws, (s.lane m).stalls.ringFull = false)
    (hrest : rest = s.table.filter fun m => decide (m.number ≠ k.number))
    (hrecent : recent = (if (s.port p).recent.length < 16 then (s.port p).recent else (s.port p).recent.drop 1) ++ [k.number]) :
    ∃ v, ((s.arise errs).withdrawOne k.number cause) = v.progress k.ownerLane ∧ s.WithdrawnTo v p errs k cause ws rest recent := by
  subst hp
  obtain ⟨t, hfold, hslots, htframe⟩ := withdrawMembers (k := k.number) (c := k) (entry := entry) k.members hd (fun _ h => h)
    (s.arise errs) 0 hk hwatch (by
      have h := hwf
      rw [Memory.wf, Bool.and_eq_true] at h
      exact h.1) fun m hmem => by
      obtain ⟨hholds, hread⟩ := hm m hmem
      exact ⟨hholds, hread.1, fun x hx => hread.2 x (by simpa using hx)⟩
  have hts : t = { s with index := t.index, occupancy := s.occupancy - k.members.length, damage := s.damage ++ errs } := htframe
  have hwithdrawing : (s.arise errs).withdrawing k = (t.loseContainer k false).listWithdrawn k.ownerPort k.number := by
    rw [State.withdrawing, hfold]
  have hone : (s.arise errs).withdrawOne k.number cause =
      (((((s.arise errs).withdrawing k).makeNotice k.ownerPort (withdrawnNotice k cause)).releaseWaiters ws).retest).progress k.ownerLane := by
    have hk' : (s.arise errs).container? k.number = some k := hk
    unfold State.withdrawOne
    rw [hk']
    dsimp only
    rw [State.withdrawContainer_of_some hk', hfold, Nat.zero_add, hws]
    rfl
  rw [hwithdrawing] at hone
  have hlaneT (m : LaneNo) : t.lane m = s.lane m := by rw [hts]; rfl
  have hportT (q : PortNo) : (t.loseContainer k false).port q = s.port q := by rw [hts]; rfl
  have hlanesE (m : LaneNo) : ((t.loseContainer k false).listWithdrawn k.ownerPort k.number).lane m =
      if m = k.ownerLane then (s.lane k.ownerLane).loseContainer k.number false else s.lane m := by
    rw [← hlaneT, ← hlaneT]
    exact State.lane_loseContainer k false m
  have hportE := State.port_listWithdrawn (t.loseContainer k false) k.ownerPort k.number (recent := recent) (by rw [hportT]; exact hrecent)
  have hotherE (q : PortNo) (hq : q ≠ k.ownerPort) : ((t.loseContainer k false).listWithdrawn k.ownerPort k.number).port q = s.port q :=
    (State.port_modPort_ne _ _ _ hq).trans (hportT q)
  have hframeE : (t.loseContainer k false).listWithdrawn k.ownerPort k.number = { s with
      ports := ((t.loseContainer k false).listWithdrawn k.ownerPort k.number).ports
      lanes := ((t.loseContainer k false).listWithdrawn k.ownerPort k.number).lanes, index := t.index
      occupancy := s.occupancy - k.members.length, damage := s.damage ++ errs, table := rest } := by
    rw [hrest, hts]
    rfl
  rw [hportT] at hportE
  generalize (t.loseContainer k false).listWithdrawn k.ownerPort k.number = e at *
  obtain ⟨w, hmade, hwrote, hwframe⟩ := State.makeNotice_written (s := e) (p := k.ownerPort)
    (by
      rw [← hc]
      exact State.canWrite_congr (by rw [hportE]) (by rw [hportE]) (by rw [hportE]) (by rw [hportE]) (by rw [hportE]))
    (by rw [hportE]; exact hn) (withdrawnNotice k cause)
  rw [hmade] at hone
  have htable : w.table = rest := by rw [hwframe, hframeE]
  have hcounter : w.counter = s.counter := by rw [hwframe, hframeE]
  have hlaneW (m : LaneNo) : w.lane m = e.lane m := by rw [hwframe]; rfl
  have hnotices (q : PortNo) : (w.port q).notices = (s.port q).notices := by
    by_cases hq : q = k.ownerPort
    · obtain ⟨producer, pass, hadvanced⟩ := Port.advanced_eq (e.port k.ownerPort)
      rw [hq, hwrote.port, hadvanced, hportE]
    · rw [(hwrote.otherPorts q hq).1, hotherE q hq]
  have hlaneR (m : LaneNo) : w.retest.lane m = s.retestedLane rest.length (e.lane m) := by
    rw [State.retest_lane, htable, hlaneW]
    exact State.retestedLane_congr hcounter hnotices _ _
  obtain ⟨x, hreleased, hlaneX, hxframe⟩ := State.releaseWaiters_eq (s := w.retest) ws (by
      have hturns : w.turns = s.turns := by rw [hwframe, hframeE]
      exact hturns.trans ht) fun m hmem => by
    rw [hlaneR, hlanesE, if_neg (show m ≠ k.ownerLane from fun h => howner (h ▸ hmem))]
    obtain ⟨b, hb⟩ := s.retestedLane_eq rest.length (s.lane m)
    rw [hb]
    exact hring m hmem
  rw [hreleased] at hone
  have hretest : x.retest = { x with lanes := x.retest.lanes } := rfl
  have hwr : w.retest = { w with lanes := w.retest.lanes } := rfl
  refine ⟨x.retest, hone, ?_, fun m => ?_, ?_, ?_⟩
  · have hindex : x.retest.index = t.index := by rw [hretest, hxframe, hwr, hwframe, hframeE]
    exact hslots.of_index (u := s) rfl hindex
  · have hcounterX : x.counter = s.counter := by rw [hxframe]; exact hcounter
    have htableX : x.table = rest := by rw [hxframe]; exact htable
    have hnoticesX (q : PortNo) : (x.port q).notices = (s.port q).notices := by rw [hxframe]; exact hnotices q
    rw [State.retest_lane, htableX, State.retestedLane_congr hcounterX hnoticesX, hlaneX, hlaneR, hlanesE]
    by_cases hmo : m = k.ownerLane
    · rw [if_neg (by rw [hmo]; exact howner), if_pos hmo, if_pos hmo, State.retestedLane_twice]
    · rw [if_neg hmo, if_neg hmo]
      by_cases hmw : m ∈ ws
      · rw [if_pos hmw, if_pos hmw, State.retestedLane_released, State.retestedLane_twice, State.retestedLane_released]
      · rw [if_neg hmw, if_neg hmw, State.retestedLane_twice]
  · have hwrote' := hwrote.of_units (s := s) (by rw [hportE]) (by rw [hportE]) (by rw [hportE]) hotherE (by rw [hframeE])
    rw [hportE, Port.advanced_recent] at hwrote'
    have hports : x.retest.ports = w.ports := by rw [hretest, hxframe, hwr]
    have hmemory : x.retest.memory = w.memory := by rw [hretest, hxframe, hwr]
    exact hwrote'.result_of_same hports hmemory
  · rw [hretest, hxframe, hwr, hwframe, hframeE]

theorem Lane.loseContainer_withdrawn {k since : Nat} {counted : Lane}
    (hs : since = if l.withdrawnSince < 65535 then l.withdrawnSince + 1 else 65535)
    (hc : l.countsContainers = false ∧ counted = l ∨ l.countsContainers = true ∧ counted = { l with ckWithdrawn := l.ckWithdrawn + 1 }) :
    l.loseContainer k false = { counted with
      unsettled := l.unsettled.filter fun m => decide (m ≠ k), withdrawnSince := since
      openC := if l.openC = some k then none else l.openC
      abort := l.abort.map fun a => { a with withdrawn := a.withdrawn + 1 } } := by
  have hsince : countTo Config.max16 l.withdrawnSince = since := by
    rw [hs]
    rfl
  unfold Lane.loseContainer
  rw [hsince]
  rcases hc with ⟨hn, rfl⟩ | ⟨hn, rfl⟩ <;> rw [hn] <;> rfl

theorem exec_settleDeadlineExpiry (k : Nat) (errs : List DramError) (s : State) :
    exec (.settleDeadlineExpiry k errs) s = execSettleDeadlineExpiry k errs s := rfl

theorem exec_abortWithdrawal (n : LaneNo) (errs : List DramError) (s : State) :
    exec (.abortWithdrawal n errs) s = execAbortWithdrawal n errs s := rfl

/-! ### A flag after a record -/

theorem Port.flagged_advanced (q : Port) (f : Flag) (c : Carry) : (q.flagged f c).advanced = q.advanced.flagged f c := by
  unfold Port.flagged
  have hstate : q.advanced.state = q.state := by
    obtain ⟨producer, pass, h⟩ := Port.advanced_eq q
    rw [h]
  rw [hstate]
  by_cases h : q.state = .attached
  · rw [if_pos h, if_pos h]
    cases hr : q.ring with
    | none => simp only [Port.advanced, hr]
    | some g => simp only [Port.advanced, hr]
  · rw [if_neg h, if_neg h]

theorem Port.flagged_recent (q : Port) (f : Flag) (c : Carry) (recent : List Nat) :
    ({ q with recent := recent } : Port).flagged f c = { q.flagged f c with recent := recent } := by
  unfold Port.flagged
  by_cases h : q.state = .attached
  · rw [if_pos (by exact h), if_pos h]
  · rw [if_neg (by exact h), if_neg h]

/-- A flag set in a summary that is not empty, after a record has been written to the ring of the port. -/
theorem State.Wrote.flagged {a : Response} {q : Port} (h : s.Wrote t p a q) (hs : q.summary.isEmpty = false) (f : Flag) (c : Carry) :
    s.Wrote (t.setFlag p f c) p a (q.flagged f c) := by
  have hport : t.port p = q := h.port
  rw [State.setFlag_loud f c fun _ => by rw [hport]; exact hs]
  have hp : (t.flaggedAt (fun q => decide (q = p)) f c).port p = q.flagged f c := by
    rw [State.flaggedAt_port, if_pos (decide_eq_true rfl), hport]
  refine ⟨?_, hp, fun k hk => ?_, h.ring⟩
  · rw [← h.record, State.ringRecord, State.ringRecord, hp, hport, Port.flagged_eq]
    rfl
  · have hk' : (t.flaggedAt (fun q => decide (q = p)) f c).port k = t.port k := by
      rw [State.flaggedAt_port, if_neg (by simpa using hk)]
    rw [hk']
    exact h.otherPorts k hk

/-! ### The walk of an aborting lane ends with its last container (R113) -/

theorem Lane.hasRecord_of_walking {a : AbortRecord} (hs : l.state = .aborting) (ha : l.abort = some a) (hw : a.walkEnded = false) :
    l.hasRecord = false := by
  simp [Lane.hasRecord, hs, ha, hw]

/-- The walk of an aborting lane with neither containers nor journal entries ends with its ABORTED record (R113). -/
theorem State.progress_ends {a : AbortRecord} {slot : ProfileSlot} {i : Fin 4} (hl : s.lane n = l) (hs : l.state = .aborting)
    (hu : l.unsettled = []) (hj : l.journal = []) (ha : l.abort = some a) (hw : a.walkEnded = false) (hd : a.discard = false)
    (ho : l.owner = some p) (hr : l.run = none) (hh : l.held = none) (hc : s.canWrite p = true) (hi : l.slot = i)
    (hslot : s.slots[i].LosesLane slot) (ht : s.progress n = t) :
    s.Wrote t p (.lane (l.abortedRecord n a)) (s.port p).advanced ∧ s.LaneBecomes t n Lane.free ∧
      t = { s with ports := t.ports, memory := t.memory, lanes := t.lanes, slots := s.slots.set i slot } := by
  subst hl
  obtain ⟨x, hx, hcheck⟩ := State.walkCheck_of_owner hs hu hj ha hw hd ho hr hh hc
  rw [State.progress, State.kick_none (Lane.hasRecord_of_walking hs ha hw), hcheck] at ht
  have hwrote := State.wrote_ringPut_of (s := s) (e := s.setLane n x) hc rfl rfl (.lane ((s.lane n).abortedRecord n a))
  have hfreed := State.freeLane_ringPut (s := s) (t := t) (hx.trans hi) hslot ht
  refine ⟨?_, State.laneBecomes_of_setLane (e := s) rfl (by rw [hfreed]), ?_⟩
  · rw [← ht]
    exact ⟨hwrote.record, hwrote.port, hwrote.otherPorts, hwrote.ring⟩
  · generalize s.slots.set i slot = slots at *
    rw [hfreed]
    rfl

/-- The walk of an aborting lane without an owner port, or of a failed one, ends with its records discarded (R113). -/
theorem State.walkCheck_of_discarded {a : AbortRecord} (hs : (s.lane n).state = .aborting) (hu : (s.lane n).unsettled = [])
    (hj : (s.lane n).journal = []) (ha : (s.lane n).abort = some a) (hw : a.walkEnded = false)
    (ho : ∀ q, (s.lane n).owner = some q → s.attached q = false ∨ a.discard = true) : s.walkCheck n = s.discardAborted n := by
  cases howner : (s.lane n).owner with
  | none => exact State.walkCheck_of_orphan hs hu hj ha hw howner
  | some q =>
    unfold State.walkCheck
    rw [if_pos ⟨hs, hu, hj, by rw [ha]; exact hw⟩, State.walkEnd]
    simp only [howner, ha]
    exact if_neg (by rcases ho q howner with h | h <;> simp [h])

end Sys2Proof.Machine

/-! PROOFS. Containers are withdrawn at a settle deadline and from an aborting lane (O50). -/

namespace Sys2Proof.Machine

open Sys2Proof

variable {s t u v : State} {p : PortNo} {n : LaneNo} {l : Lane} {k : Container} {errs : List DramError}

/-! ### The events -/

theorem exec_settleDeadlineExpiry_of {reason : SealReason} (hk : s.container? k.number = some k)
    (hs : k.state = .sealed reason (some 0))
    (ht : ((s.arise errs).withdrawOne k.number .expired).setFlag k.ownerPort .settleExpired .none = t)
    (hc : t.poisonCount = s.poisonCount) : exec (.settleDeadlineExpiry k.number errs) s = .next t := by
  have hexpired : k.expired = true := by unfold Container.expired; rw [hs]; rfl
  rw [exec_settleDeadlineExpiry, execSettleDeadlineExpiry, hk]
  dsimp only
  rw [hexpired, ht, State.passCheck_of_same hc]
  rfl

theorem exec_abortWithdrawal_of {number : Nat} {later : List Nat} (hs : (s.lane n).state = .aborting)
    (hu : (s.lane n).unsettled = number :: later) (ht : (s.arise errs).withdrawOne number .aborted = t)
    (hc : t.poisonCount = s.poisonCount) : exec (.abortWithdrawal n errs) s = .next t := by
  rw [exec_abortWithdrawal, execAbortWithdrawal, hu]
  dsimp only
  rw [ht, State.passCheck_of_same hc, decide_eq_true hs]
  rfl

/-- A lane that has none but one container to settle has it first. -/
theorem unsettled_eq_cons {ks : List Nat} {number : Nat} (h : number ∈ ks) (hall : ∀ m ∈ ks, m = number) : ∃ later, ks = number :: later := by
  cases ks with
  | nil => exact absurd h List.not_mem_nil
  | cons m later => exact ⟨later, by rw [hall m List.mem_cons_self]⟩

/-- The lane record that a withdrawal leaves (R90). -/
def Lane.withdrawn (l counted : Lane) (number since : Nat) : Lane :=
  { counted with
    unsettled := l.unsettled.filter fun m => decide (m ≠ number), withdrawnSince := since
    openC := if l.openC = some number then none else l.openC
    abort := l.abort.map fun a => { a with withdrawn := a.withdrawn + 1 } }

theorem Lane.not_counts_of_aborting (h : l.state = .aborting) : l.countsContainers = false := by
  unfold Lane.countsContainers
  rw [h]

/-- Settles O50: an expiry and an abort withdraw the container alike; the end of its lane's wait or abort is told apart by cases. -/
theorem containersAreWithdrawn : Obligations.ContainersAreWithdrawn := by
  rintro s errs k p l reason entry ws rest recent since hk rfl hl hc hn hturns hwatch halert hwf hd hm hws howner hring hrest hrecent hsince
  have hwithdraws (cause : WithdrawCause) := State.withdraws errs cause hk rfl hc hn hturns hwatch hwf hd hm hws howner hring hrest hrecent
  have hsummary : (s.port k.ownerPort).advanced.summary.isEmpty = false := by
    obtain ⟨producer, pass, h⟩ := Port.advanced_eq (s.port k.ownerPort)
    rw [h]
    exact halert k.ownerPort (State.canWrite_attached hc)
  have hunit : ({ (s.port k.ownerPort).advanced with recent := recent } : Port).flagged .settleExpired .none =
      { ((s.port k.ownerPort).flagged .settleExpired .none).advanced with recent := recent } := by
    rw [Port.flagged_recent, Port.flagged_advanced]
  refine ⟨?_, ?_, ?_⟩
  · intro c cause unit counted hcase
    obtain ⟨v, hone, hv⟩ := hwithdraws cause
    have hframe := hv.frame
    have hlost : l.loseContainer k.number false = l.withdrawn counted k.number since := by
      refine Lane.loseContainer_withdrawn hsince ?_
      rcases hcase with ⟨-, -, -, -, -, hq⟩ | ⟨a, later, -, hst, -, -, -, -, -, -, hcounted⟩
      · rcases hq with ⟨hq, hcounted⟩ | ⟨hst, hh, hr, -, hcounted⟩
        · exact .inl ⟨hq.counts_not, hcounted⟩
        · exact .inr ⟨Lane.Waits.counts ⟨hst, hh, hr⟩, hcounted⟩
      · exact .inl ⟨Lane.not_counts_of_aborting hst, hcounted⟩
    have hlane := hv.lanes k.ownerLane
    rw [if_pos rfl, hl] at hlane
    have hprogress : v.progress k.ownerLane = v := by
      rcases hcase with ⟨-, -, -, -, -, hq⟩ | ⟨a, later, -, hst, ha, hw, hu, hmore, -, -, -⟩
      · refine Lane.Idle.progress ?_
        rw [hlane]
        refine Lane.Idle.retested ?_ s rest.length
        rcases hq with ⟨hq, -⟩ | ⟨hst, hh, hr, hkept, -⟩
        · exact hq.loseContainer _ _
        · exact Lane.Waits.loseContainer ⟨hst, hh, hr⟩ _ _ hkept
      · obtain ⟨b, hb⟩ := s.retestedLane_eq rest.length (l.loseContainer k.number false)
        rw [hb] at hlane
        refine State.progress_none ?_ (.inr ?_)
        · rw [hlane]
          refine Lane.hasRecord_of_walking (a := { a with withdrawn := a.withdrawn + 1 }) hst ?_ hw
          exact congrArg (Option.map _) ha
        · rw [hlane]
          rcases hmore with ⟨m, hmem, hne⟩ | hj
          · refine .inl fun e => ?_
            have := List.filter_eq_nil_iff.mp e m (by rw [hu]; exact List.mem_cons_of_mem _ hmem)
            exact this (decide_eq_true hne)
          · exact .inr hj
    rw [hprogress] at hone
    have hlanes (m : LaneNo) := hv.lanes m
    simp only [hl, hlost] at hlanes
    rcases hcase with ⟨rfl, hst, -, rfl, rfl, -⟩ | ⟨a, later, rfl, hst, -, -, hu, -, rfl, rfl, -⟩
    · have hwrote := hv.wrote.flagged hsummary .settleExpired .none
      have hflag := State.setFlag_frame v k.ownerPort .settleExpired .none
      rw [hunit] at hwrote
      generalize ht : v.setFlag k.ownerPort .settleExpired .none = t at *
      have hslots : s.SlotsBecome t k.members clearedSlot := hv.slots.of_index rfl (by rw [hflag])
      have hlanesT (m : LaneNo) : t.lane m = v.lane m := by rw [hflag]; rfl
      refine ⟨t, exec_settleDeadlineExpiry_of hk hst (by rw [hone]; exact ht) (by rw [hflag, hframe]), hslots.members, hslots.others,
        fun m => (hlanesT m).trans (hlanes m), hwrote, ?_⟩
      rw [hflag, hframe]
      rfl
    · refine ⟨v, exec_abortWithdrawal_of (by rw [hl]; exact hst) (by rw [hl]; exact hu) hone (by rw [hframe]), hv.slots.members,
        hv.slots.others, hlanes, hv.wrote, hframe⟩
  · intro c cause unit g refs record after slot hwaiters hstarved hlo hg hfree hall hr hh hgrant hrefs hcase
    obtain rfl : refs = refCount l.journal := hrefs.trans (refCount_eq _).symm
    obtain ⟨v, hone, hv⟩ := hwithdraws cause
    have hframe := hv.frame
    have hnotice : withdrawnNotice k cause = {
        kind := .withdrawn cause 0, lane := k.ownerLane, container := k.number, fill := k.fill, members := k.members.length } := by
      rw [withdrawnNotice, hwaiters]
      rfl
    have hnone : ws = [] := by rw [hws, hwaiters]; rfl
    have hlost : (l.loseContainer k.number false).unsettled = [] :=
      List.filter_eq_nil_iff.mpr fun m hmem => by simpa using hall m hmem
    have hlane : v.lane k.ownerLane = l.loseContainer k.number false := by
      rw [hv.lanes, if_pos rfl, hl, State.retestedLane_of_fed _ (hl ▸ hstarved k.ownerLane)]
    have hothers (m : LaneNo) (hm : m ≠ k.ownerLane) : v.lane m = s.lane m := by
      rw [hv.lanes, if_neg hm, hnone, if_neg List.not_mem_nil, State.retestedLane_of_fed _ (hstarved m)]
    have hport := hv.wrote.port
    have hcan : v.canWrite k.ownerPort = true := by
      have h := State.canWrite_advanced (t := s.modPort k.ownerPort Port.advanced) hc hg hfree (State.port_modPort _ _ _)
      rw [← h]
      refine State.canWrite_congr ?_ ?_ ?_ ?_ ?_ <;> rw [hport, State.port_modPort]
    have hvslots : v.slots = s.slots := by rw [hframe]
    obtain ⟨t, hexec, hwrote, hring', hbecomes, htframe⟩ : ∃ t, exec c s = .next t ∧
        v.Wrote t k.ownerPort (.lane record) { unit.advanced.advanced with recent := recent } ∧ unit.advanced.advanced.ring = some g ∧
        v.LaneBecomes t k.ownerLane after ∧
        t = { v with ports := t.ports, memory := t.memory, lanes := t.lanes, slots := v.slots.set l.slot slot } := by
      rcases hcase with ⟨rfl, hst, hopen, habort, rfl, rfl, hend⟩ |
        ⟨a, rfl, hmem, hst, ha, hw, hdiscard, hj, rfl, rfl, hslot, rfl, rfl⟩
      · have hstate : l.state = .checkpointing ∨ l.state = .closing ∨ l.state = .active ∧ l.stalls.journalFull = true := by
          rcases hend with ⟨hst, -⟩ | ⟨hst, -⟩ | ⟨hst, hj, -⟩
          · exact .inl hst
          · exact .inr (.inl hst)
          · exact .inr (.inr ⟨hst, by rw [hj]⟩)
        have hcounted : l.loseContainer k.number false =
            { l with ckWithdrawn := l.ckWithdrawn + 1, unsettled := [], withdrawnSince := since } := by
          have hkept : (l.abort.map fun a => { a with withdrawn := a.withdrawn + 1 }) = l.abort := by rw [habort]; rfl
          rw [Lane.loseContainer_withdrawn hsince (.inr ⟨Lane.Waits.counts ⟨hstate, hh, hr⟩, rfl⟩), if_neg hopen, hkept,
            show (l.unsettled.filter fun m => decide (m ≠ k.number)) = [] from hlost]
        have hends : (l.loseContainer k.number false).CommitEnds k.ownerLane v.slots[l.slot] record after slot := by
          rw [hcounted, hvslots]
          rcases hend with ⟨hst, hs, hc, hslot, hrec, haft⟩ | ⟨hst, haft, hslot, hrec⟩ | ⟨hst, hs, hslot, hrec, haft⟩
          · exact .inl ⟨hst, hs, hc, hslot, hrec, haft⟩
          · exact .inr (.inl ⟨hst, hslot, hrec, haft⟩)
          · exact .inr (.inr ⟨hst, hs, hslot, hrec, haft⟩)
        obtain ⟨hwrote, hbecomes, hwframe⟩ := State.progress_commits (l := l.loseContainer k.number false) (i := l.slot) hlane rfl (by exact hh)
          (by exact hr) (by exact hgrant) hlost (by exact hlo) hcan hends rfl
        generalize v.progress k.ownerLane = w at *
        rw [hport, Port.advanced_recent] at hwrote
        have hflagged := hwrote.flagged (by
          obtain ⟨producer, pass, h⟩ := Port.advanced_eq (s.port k.ownerPort).advanced
          rw [h]
          exact hsummary) .settleExpired .none
        have hflag := State.setFlag_frame w k.ownerPort .settleExpired .none
        have hunit' : ({ (s.port k.ownerPort).advanced.advanced with recent := recent } : Port).flagged .settleExpired .none =
            { ((s.port k.ownerPort).flagged .settleExpired .none).advanced.advanced with recent := recent } := by
          rw [Port.flagged_recent, Port.flagged_advanced, Port.flagged_advanced]
        rw [hunit'] at hflagged
        generalize ht : w.setFlag k.ownerPort .settleExpired .none = t at *
        refine ⟨t, exec_settleDeadlineExpiry_of hk hst (by rw [hone]; exact ht) (by rw [hflag, hwframe, hframe]), hflagged, ?_,
          hbecomes.of_lanes (by rw [hflag]), ?_⟩
        · rw [Port.flagged_advanced, Port.flagged_advanced, Port.flagged_eq]
          exact hg.advanced.advanced.ring
        · generalize v.slots.set l.slot slot = slots at *
          rw [hflag, hwframe]
      · obtain ⟨later, hu⟩ := unsettled_eq_cons hmem hall
        obtain ⟨hwrote, hbecomes, hwframe⟩ := State.progress_ends (a := { a with withdrawn := a.withdrawn + 1 })
          (l := l.loseContainer k.number false) (i := l.slot) (slot := slot) hlane (by exact hst) hlost (by exact hj)
          (by exact congrArg (Option.map _) ha) (by exact hw) (by exact hdiscard) (by exact hlo) (by exact hr) (by exact hh) hcan rfl
          (by rw [hvslots]; exact hslot) rfl
        generalize v.progress k.ownerLane = w at *
        rw [hport, Port.advanced_recent] at hwrote
        refine ⟨w, exec_abortWithdrawal_of (by rw [hl]; exact hst) (by rw [hl]; exact hu) hone (by rw [hwframe, hframe]), hwrote,
          hg.advanced.advanced.ring, hbecomes, hwframe⟩
    obtain ⟨hfirst, hsecond⟩ := State.Wrote.pair hv.wrote hwrote hg hg.advanced.ring hring' rfl rfl
    rw [hnotice] at hfirst
    refine ⟨t, hexec, hfirst, hsecond, hwrote.port, fun q hq => ?_, ⟨hbecomes.1, fun m hm => (hbecomes.2 m hm).trans (hothers m hm)⟩, ?_⟩
    · exact ⟨(hwrote.otherPorts q hq).1.trans (hv.wrote.otherPorts q hq).1,
        (hwrote.otherPorts q hq).2.trans (hv.wrote.otherPorts q hq).2⟩
    · rw [hvslots] at htframe
      generalize s.slots.set l.slot slot = slots at *
      rw [htframe, hframe, hnone, hturns]
      rfl
  · intro a slot hwaiters hstarved hmem hall hst ha hw hj ho hslot
    obtain ⟨v, hone, hv⟩ := hwithdraws .aborted
    have hframe := hv.frame
    have hnotice : withdrawnNotice k .aborted = {
        kind := .withdrawn .aborted 0, lane := k.ownerLane, container := k.number, fill := k.fill, members := k.members.length } := by
      rw [withdrawnNotice, hwaiters]
      rfl
    have hnone : ws = [] := by rw [hws, hwaiters]; rfl
    have hlost : (l.loseContainer k.number false).unsettled = [] :=
      List.filter_eq_nil_iff.mpr fun m hmem => by simpa using hall m hmem
    have hlane : v.lane k.ownerLane = l.loseContainer k.number false := by
      rw [hv.lanes, if_pos rfl, hl, State.retestedLane_of_fed _ (hl ▸ hstarved k.ownerLane)]
    have hothers (m : LaneNo) (hm : m ≠ k.ownerLane) : v.lane m = s.lane m := by
      rw [hv.lanes, if_neg hm, hnone, if_neg List.not_mem_nil, State.retestedLane_of_fed _ (hstarved m)]
    have hvslots : v.slots = s.slots := by rw [hframe]
    obtain ⟨later, hu⟩ := unsettled_eq_cons hmem hall
    have habort : (l.loseContainer k.number false).abort = some { a with withdrawn := a.withdrawn + 1 } := congrArg (Option.map _) ha
    rw [State.progress, State.kick_none (Lane.hasRecord_of_walking (a := { a with withdrawn := a.withdrawn + 1 }) (by rw [hlane]; exact hst) (by rw [hlane]; exact habort) hw),
      State.walkCheck_of_discarded (by rw [hlane]; exact hst) (by rw [hlane]; exact hlost) (by rw [hlane]; exact hj)
      (by rw [hlane]; exact habort) (by exact hw) (fun q hq => by
        rcases ho with h | h
        · rw [hlane] at hq
          exact absurd (h.symm.trans hq) (Option.some_ne_none q).symm
        · exact .inr h),
      State.discardAborted_frame (i := l.slot) (run := l.run.isSome) (held := l.held.isSome) (by rw [hlane]; rfl)
        (by rw [hvslots]; exact hslot) (by rw [hlane]; rfl) (by rw [hlane]; rfl)] at hone
    generalize ht : ({ v.setLane k.ownerLane Lane.free with
      slots := v.slots.set l.slot slot
      discarded := min 4294967295 (v.discarded + (1 + bit l.run.isSome + bit l.held.isSome)) } : State) = t at hone
    have htframe : t = { v with
        lanes := t.lanes, slots := v.slots.set l.slot slot
        discarded := min 4294967295 (v.discarded + (1 + bit l.run.isSome + bit l.held.isSome)) } := by
      rw [← ht]
      rfl
    have hbecomes : v.LaneBecomes t k.ownerLane Lane.free := State.laneBecomes_of_setLane (e := v) rfl (by rw [← ht])
    have hdiscarded : v.discarded = s.discarded := by rw [hframe]
    rw [hvslots, hdiscarded] at htframe
    refine ⟨t, exec_abortWithdrawal_of (by rw [hl]; exact hst) (by rw [hl]; exact hu) hone (by rw [← ht, hframe]; rfl),
      ⟨hbecomes.1, fun m hm => (hbecomes.2 m hm).trans (hothers m hm)⟩, ?_, ?_⟩
    · rw [← hnotice]
      exact hv.wrote.result_of_same (by rw [← ht]; rfl) (by rw [← ht]; rfl)
    · generalize s.slots.set l.slot slot = slots at *
      clear ht
      rw [htframe, hframe, hnone, hturns]
      rfl

end Sys2Proof.Machine

/-! PROOFS. The abort walk (O51). -/

namespace Sys2Proof.Machine

open Sys2Proof

variable {s t u : State} {p : PortNo} {n : LaneNo} {l : Lane} {a a' : AbortRecord} {e : JournalEntry} {errs : List DramError}

theorem State.readBucket_lanes (s : State) (b : Nat) : (s.readBucket b).2.lanes = s.lanes := by
  unfold State.readBucket
  split
  · rfl
  · split
    · rw [State.poison_eq, State.setFlagAll_lanes]
      rfl
    · split <;> rfl

/-- A decrement leaves the lanes. -/
theorem State.decrement_lanes (s : State) (id : Nat) : (s.decrement id).2.lanes = s.lanes := by
  have hread := s.readBucket_lanes (decodeId id).bucket
  unfold State.decrement
  dsimp only
  split
  · next hb => rw [hb] at hread; exact hread
  · next hb =>
    rw [hb] at hread
    split
    · exact hread
    · exact hread

/-- A walked entry is counted, and the abort record is else as it was. -/
theorem AbortRecord.count_keeps (a : AbortRecord) (res : DecResult) :
    (a.count res).walkEnded = a.walkEnded ∧ (a.count res).discard = a.discard ∧ (a.count res).cause = a.cause ∧
      (a.count res).stateAt = a.stateAt := by
  cases res <;> exact ⟨rfl, rfl, rfl, rfl⟩

theorem exec_walkStep (n : LaneNo) (errs : List DramError) (s : State) : exec (.walkStep n errs) s = execWalkStep n errs s := rfl

/-- What the walk of the newest entry `e` at place `k` does: the abort record and the state after it (R111, R190). -/
def State.Walked (s u : State) (n : LaneNo) (errs : List DramError) (a a' : AbortRecord) (e : JournalEntry) (k : Nat) : Prop :=
  if { place := .journal n k, error := .uncorrectable } ∈ s.damage ++ errs then
    u = { s with damage := s.damage ++ errs } ∧ a' = a.count .poisoned
  else
    match e.what with
    | .ref id => ∃ res, State.decrement { s with damage := s.damage ++ errs } id = (res, u) ∧ u.poisonCount = s.poisonCount ∧ a' = a.count res
    | .unindexed _ _ => u = { s with damage := s.damage ++ errs } ∧ a' = { a with skipped := a.skipped + 1 }

theorem State.Walked.walkEntry {k : Nat} (h : s.Walked u n errs a a' e k)
    (hd : ∀ d ∈ s.damage ++ errs, d ≠ { place := .journal n k, error := .single }) :
    (s.arise errs).walkEntry n a e k = (a', u) ∧ u.lanes = s.lanes ∧ u.poisonCount = s.poisonCount := by
  have hread : (s.arise errs).readJournalPlace n k = _ := State.readJournalPlace_of_no_single hd
  unfold State.walkEntry
  rw [hread]
  unfold State.Walked at h
  by_cases herr : { place := .journal n k, error := .uncorrectable } ∈ s.damage ++ errs
  · rw [if_pos herr] at h
    obtain ⟨rfl, rfl⟩ := h
    have herr' : { place := .journal n k, error := .uncorrectable } ∈ (s.arise errs).damage := herr
    rw [decide_eq_true herr']
    exact ⟨rfl, rfl, rfl⟩
  · rw [if_neg herr] at h
    have herr' : { place := .journal n k, error := .uncorrectable } ∉ (s.arise errs).damage := herr
    rw [decide_eq_false herr']
    dsimp only
    cases hw : e.what with
    | ref id =>
      rw [hw] at h
      obtain ⟨res, hdec, hcount, rfl⟩ := h
      have hdec' : (s.arise errs).decrement id = (res, u) := hdec
      have hlanes := (s.arise errs).decrement_lanes id
      rw [hdec'] at hlanes
      refine ⟨?_, hlanes, hcount⟩
      dsimp only
      rw [hdec']
    | unindexed x y =>
      rw [hw] at h
      obtain ⟨rfl, rfl⟩ := h
      exact ⟨rfl, rfl, rfl⟩

theorem State.Walked.keeps {k : Nat} (h : s.Walked u n errs a a' e k) :
    a'.walkEnded = a.walkEnded ∧ a'.discard = a.discard ∧ a'.cause = a.cause ∧ a'.stateAt = a.stateAt := by
  unfold State.Walked at h
  split at h
  · rw [h.2]
    exact a.count_keeps .poisoned
  · split at h
    · obtain ⟨res, -, -, rfl⟩ := h
      exact a.count_keeps res
    · obtain ⟨-, rfl⟩ := h
      exact ⟨rfl, rfl, rfl, rfl⟩

/-- A walk step takes the newest entry, and the walk may end with it (R111). -/
theorem exec_walkStep_of {js : List JournalEntry} (hl : s.lane n = l) (hs : l.state = .aborting) (hu : l.unsettled = [])
    (ha : l.abort = some a) (hw : a.walkEnded = false) (hj : l.journal = js ++ [e]) (h : s.Walked u n errs a a' e js.length)
    (hd : ∀ d ∈ s.damage ++ errs, d ≠ { place := .journal n js.length, error := .single }) :
    exec (.walkStep n errs) s = .next ((u.setLane n { l with journal := js, abort := some a' }).walkCheck n) := by
  obtain ⟨hentry, hlanes, hcount⟩ := h.walkEntry hd
  have hwalks : l.walks a = true := by simp [Lane.walks, hs, hu, hw]
  have hlane : u.lane n = l := by rw [State.lane, hlanes]; exact hl
  rw [exec_walkStep, execWalkStep, hl]
  dsimp only
  rw [ha, hj, List.getLast?_concat]
  dsimp only
  rw [hwalks, List.length_append, List.length_singleton, Nat.add_sub_cancel, hentry]
  dsimp only
  rw [State.modLane, hlane, hj, List.dropLast_concat, State.passCheck_of_same (by exact hcount)]
  rfl

/-- The walk of a lane ends while its closed run or held verdict finds no position: it waits for the ring under RING_FULL (R113). -/
theorem State.walkCheck_of_full (hl : s.lane n = l) (hs : l.state = .aborting) (hu : l.unsettled = []) (hj : l.journal = [])
    (ha : l.abort = some a) (hw : a.walkEnded = false) (hd : a.discard = false) (ho : l.owner = some p)
    (hr : (∃ r, l.run = some r ∧ r.closed = true) ∨ l.held ≠ none) (hp : s.attached p = true) (hc : s.canWrite p = false)
    (hq : Writer.lane n ∉ (s.port p).waiting) :
    s.walkCheck n = (s.setLane n { l with
      abort := some { a with walkEnded := true }, stalls := { l.stalls with ringFull := true } }).join p (.lane n) := by
  have hend : s.walkCheck n = (s.setLane n { l with abort := some { a with walkEnded := true } }).kick n 4 := by
    unfold State.walkCheck
    rw [if_pos (by rw [hl]; exact ⟨hs, hu, hj, by rw [ha]; exact hw⟩), State.walkEnd]
    have ho' : (s.lane n).owner = some p := by rw [hl]; exact ho
    have ha' : (s.lane n).abort = some a := by rw [hl]; exact ha
    simp only [ho', ha']
    rw [if_pos (by rw [hp, hd]; rfl), State.modLane, hl]
  have hwaits : (l.hasClosedRun || l.held.isSome) = true := by
    rw [Bool.or_eq_true]
    rcases hr with ⟨r, hr, hclosed⟩ | hh
    · exact .inl (by rw [Lane.hasClosedRun, hr]; exact hclosed)
    · exact .inr (Option.isSome_iff_ne_none.mpr hh)
  have hlane : (s.setLane n { l with abort := some { a with walkEnded := true } }).lane n =
      { l with abort := some { a with walkEnded := true } } := State.lane_setLane_self _
  rw [hend, State.kick_of_full (by rw [hlane]; exact ho)
    (Lane.hasRecord_of_walkEnded (a := { a with walkEnded := true }) (by rw [hlane]; exact hs) (by rw [hlane]) rfl) (by exact hp) (by exact hc) (by exact hq) 3, State.modLane, hlane,
    State.setLane_setLane, Lane.gainRingFull, if_pos (by exact hwaits)]

/-- Settles O51: one walk step by what its journal entry names, and the end of the walk by what its records find of the ring. -/
theorem walkReleasesJournal : Obligations.WalkReleasesJournal := by
  intro s u n l a a' js e errs hl hs hu ha hw hj hd hcase
  have hwalked : s.Walked u n errs a a' e js.length := by
    unfold State.Walked
    by_cases herr : { place := .journal n js.length, error := .uncorrectable } ∈ s.damage ++ errs
    · rw [if_pos herr] at hcase ⊢
      exact hcase
    · rw [if_neg herr] at hcase ⊢
      cases hwhat : e.what with
      | ref id =>
        rw [hwhat] at hcase
        obtain ⟨res, hdec, hcount, rfl⟩ := hcase
        exact ⟨res, hdec, hcount, by cases res <;> rfl⟩
      | unindexed c o =>
        rw [hwhat] at hcase
        exact hcase
  obtain ⟨-, hlanes, hcount⟩ := hwalked.walkEntry hd
  obtain ⟨hended, hdiscard, hcause, hstateAt⟩ := hwalked.keeps
  rw [hw] at hended
  have hexec := exec_walkStep_of hl hs hu ha hw hj hwalked hd
  generalize hx : u.setLane n { l with journal := js, abort := some a' } = x at hexec
  have hlane : x.lane n = { l with journal := js, abort := some a' } := by rw [← hx]; exact State.lane_setLane_self _
  have hxframe : x = { u with lanes := x.lanes } := by rw [← hx]; rfl
  have hbecomes : s.LaneBecomes x n { l with journal := js, abort := some a' } := State.laneBecomes_of_setLane (e := u) hlanes (by rw [← hx])
  refine ⟨fun hmore => ?_, ?_, ?_, ?_⟩
  · rw [State.walkCheck_none (.inr (.inr (by rw [hlane]; exact hmore)))] at hexec
    exact ⟨x, hexec, hbecomes, hxframe⟩
  · rintro p slot rfl ho hkeep hr hh hcan hslot
    rw [hkeep] at hdiscard
    have hprogress : x.walkCheck n = x.progress n := by
      rw [State.progress, State.kick_none (Lane.hasRecord_of_walking (by rw [hlane]; exact hs) (by rw [hlane]) hended)]
    have hxslots : x.slots = u.slots := by rw [← hx]; rfl
    obtain ⟨hwrote, hfreed, hframe⟩ := State.progress_ends (i := l.slot) (p := p) (slot := slot) hlane (by exact hs) (by exact hu) rfl rfl hended hdiscard
      (by exact ho) (by exact hr) (by exact hh) (by rw [← hx]; exact hcan) rfl (by rw [hxslots]; exact hslot) rfl
    rw [hprogress] at hexec
    generalize x.progress n = t at *
    have hrecord : Lane.abortedRecord { l with journal := [], abort := some a' } n a' = {
        lane := n, forced := false, unresolved := false, detail := a.cause.code, stateCode := a.stateAt.code,
        offset := l.offset, nextSeq := l.nextSeq.getD 0, tag := none,
        body := .aborted a'.withdrawn a'.released a'.pinned a'.stale a'.underflow a'.poisoned a'.skipped } := by
      rw [← hcause, ← hstateAt]
      rfl
    have hxports : x.ports = u.ports := by rw [← hx]; rfl
    have hxport : x.port p = u.port p := State.port_of_ports hxports p
    rw [hrecord, hxport] at hwrote
    refine ⟨t, hexec, ⟨hfreed.1, fun m hm => (hfreed.2 m hm).trans (hbecomes.2 m hm)⟩,
      hwrote.of_same hxports (by rw [← hx]; rfl), ?_⟩
    rw [hxslots] at hframe
    generalize u.slots.set l.slot slot = slots at *
    rw [hframe, hxframe]
  · rintro p rfl ho hkeep hwaits hattached hcan hwaiting
    rw [hkeep] at hdiscard
    rw [State.walkCheck_of_full hlane (by exact hs) (by exact hu) rfl rfl hended hdiscard (by exact ho) (by exact hwaits)
      (by rw [← hx]; exact hattached) (by rw [← hx]; exact hcan) (by rw [← hx]; exact hwaiting), ← hx, State.setLane_setLane] at hexec
    refine ⟨_, hexec, State.laneBecomes_of_setLane (e := u) hlanes rfl, ?_, fun q hq => ?_, rfl⟩
    · rw [State.port_join, joinSet, if_neg (by exact hwaiting)]
      rfl
    · exact State.port_join_ne _ hq
  · rintro slot rfl ho hslot
    have hxslots : x.slots = u.slots := by rw [← hx]; rfl
    have hxdiscarded : x.discarded = u.discarded := by rw [← hx]; rfl
    rw [State.walkCheck_of_discarded (by rw [hlane]; exact hs) (by rw [hlane]; exact hu) (by rw [hlane]) (by rw [hlane]) hended
      (fun q hq => by
        rw [hlane] at hq
        rw [← hx, hdiscard]
        exact ho q hq),
      State.discardAborted_frame (i := l.slot) (run := l.run.isSome) (held := l.held.isSome) (by rw [hlane])
        (by rw [hxslots]; exact hslot) (by rw [hlane]) (by rw [hlane]), hxslots, hxdiscarded] at hexec
    generalize u.slots.set l.slot slot = slots at *
    refine ⟨_, hexec, ⟨State.lane_setLane_self _, fun m hm => ?_⟩, ?_⟩
    · exact (State.lane_setLane_ne _ _ _ hm).trans (hbecomes.2 m hm)
    · rw [hxframe]
      rfl

end Sys2Proof.Machine

/-! PROOFS. What the failure of a port does to its lanes (R160 to R163). -/

namespace Sys2Proof.Machine

open Sys2Proof

variable {s t u : State} {p : PortNo} {n m : LaneNo} {ns : List LaneNo}

/-! ### The relation -/

/-- From `s` to `t` lanes of `ns` have left service with their port: records have been discarded, and waits given up. -/
structure State.FailWork (ns : List LaneNo) (s t : State) : Prop where
  frame : t = { s with
    ports := t.ports, memory := t.memory, lanes := t.lanes, orphanTimers := t.orphanTimers, table := t.table, turns := t.turns
    slots := t.slots, discarded := t.discarded }
  ports : ∀ q, (s.port q).Spared (t.port q)
  gone : ∀ q, (s.port q).Gone → t.port q = s.port q ∧ t.memory[q] = s.memory[q]
  others : ∀ m, m ∉ ns → t.lane m = s.lane m ∧ t.orphanTimers[m] = s.orphanTimers[m]

theorem State.FailWork.refl (ns : List LaneNo) (s : State) : s.FailWork ns s := ⟨rfl, fun _ => .refl _, fun _ _ => ⟨rfl, rfl⟩, fun _ _ => ⟨rfl, rfl⟩⟩

theorem State.FailWork.trans (h : s.FailWork ns t) (h' : t.FailWork ns u) : s.FailWork ns u := by
  have hframe := h'.frame
  rw [h.frame] at hframe
  refine ⟨hframe, fun q => (h.ports q).trans (h'.ports q), fun q hq => ?_, fun m hm => ?_⟩
  · obtain ⟨hport, hmemory⟩ := h.gone q hq
    obtain ⟨hport', hmemory'⟩ := h'.gone q (by rw [hport]; exact hq)
    exact ⟨hport'.trans hport, hmemory'.trans hmemory⟩
  · obtain ⟨hlane, htimer⟩ := h.others m hm
    obtain ⟨hlane', htimer'⟩ := h'.others m hm
    exact ⟨hlane'.trans hlane, htimer'.trans htimer⟩

theorem State.FailWork.mono {ms : List LaneNo} (h : s.FailWork ns t) (hm : ns ⊆ ms) : s.FailWork ms t :=
  ⟨h.frame, h.ports, h.gone, fun m hmem => h.others m fun e => hmem (hm e)⟩

theorem State.FailWork.attached (h : s.FailWork ns t) (q : PortNo) : t.attached q = s.attached q := by
  rw [State.attached, (h.ports q).same.1]
  rfl

theorem State.FailWork.settlings (h : s.FailWork ns t) : t.settlings = s.settlings := by rw [h.frame]

theorem State.FailWork.policy (h : s.FailWork ns t) : t.policy = s.policy := by rw [h.frame]

/-- Work that touches no port unit and no ring. -/
theorem State.FailWork.of_ports (hframe : t = { s with
      lanes := t.lanes, orphanTimers := t.orphanTimers, table := t.table, turns := t.turns, slots := t.slots, discarded := t.discarded })
    (hothers : ∀ m, m ∉ ns → t.lane m = s.lane m ∧ t.orphanTimers[m] = s.orphanTimers[m]) : s.FailWork ns t := by
  have hports : t.ports = s.ports := by rw [hframe]
  have hmemory : t.memory = s.memory := by rw [hframe]
  refine ⟨?_, fun q => ?_, fun q _ => ?_, hothers⟩
  · rw [hframe]
  · rw [State.port_of_ports hports]; exact .refl _
  · rw [State.port_of_ports hports, hmemory]; exact ⟨rfl, rfl⟩

/-! ### The steps -/

theorem State.failWork_discard (s : State) (k : Nat) (ns : List LaneNo) : s.FailWork ns (s.discard k) := .of_ports rfl fun _ _ => ⟨rfl, rfl⟩

theorem State.failWork_modLane (s : State) (n : LaneNo) (f : Lane → Lane) : s.FailWork [n] (s.modLane n f) :=
  .of_ports rfl fun _ hm => ⟨State.lane_setLane_ne _ _ _ (by simpa using hm), rfl⟩

theorem State.failWork_timer (s : State) (n : LaneNo) (d : Timer) : s.FailWork [n] { s with orphanTimers := s.orphanTimers.set n d } :=
  .of_ports rfl fun m hm => ⟨rfl, by
    have hne : n.val ≠ m.val := fun e => hm (List.mem_singleton.mpr (Fin.ext e).symm)
    exact Vector.getElem_set_ne n.isLt m.isLt hne⟩

theorem State.failWork_freeLane (s : State) (n : LaneNo) : s.FailWork [n] (s.freeLane n) :=
  .of_ports rfl fun _ hm => ⟨State.lane_setLane_ne _ _ _ (by simpa using hm), rfl⟩

theorem State.failWork_discardAborted (s : State) (n : LaneNo) : s.FailWork [n] (s.discardAborted n) :=
  (s.failWork_discard _ _).trans (State.failWork_freeLane _ n)

/-- A lane leaves the waiter lists, where no SETTLE is in hand. -/
theorem State.leaveWaiters_frame (hs : s.settlings = []) (n : LaneNo) :
    s.leaveWaiters n = { s with table := (s.leaveWaiters n).table, turns := (s.leaveWaiters n).turns } := by
  generalize ht : State.leaveTurn { s with
    table := s.table.map fun c => { c with waiters := c.waiters.filter fun w => decide (w.1 ≠ n) }
    settlings := s.settlings.map fun g => { g with waiters := g.waiters.filter fun w => decide (w.1 ≠ n) } } n = t
  have hsettlings : t.settlings = [] := by rw [← ht]; exact (congrArg (List.map _) hs)
  have hleft : s.leaveWaiters n = t := by
    unfold State.leaveWaiters
    dsimp only
    rw [ht, State.finishSettlings_of_none hsettlings]
  rw [hleft]
  have hframe : t = { s with table := t.table, turns := t.turns, settlings := t.settlings } := by rw [← ht]; rfl
  rw [hsettlings, ← hs] at hframe
  exact hframe

theorem State.failWork_leaveWaiters (hs : s.settlings = []) (n : LaneNo) (ns : List LaneNo) : s.FailWork ns (s.leaveWaiters n) := by
  have hframe := State.leaveWaiters_frame hs n
  refine .of_ports ?_ fun m _ => ⟨State.lane_leaveWaiters _ _ _, ?_⟩
  · rw [hframe]
  · rw [hframe]

/-- The lane's writer leaves the ports' lists. -/
theorem State.failWork_leaveWriters (s : State) (w : Writer) (ns : List LaneNo) : s.FailWork ns (s.leaveWriters w) := by
  have hport (q : PortNo) : (s.leaveWriters w).port q = { s.port q with waiting := (s.port q).waiting.filter fun v => decide (v ≠ w) } :=
    Vector.getElem_map _ _
  refine ⟨rfl, fun q => ?_, fun q hq => ?_, fun _ _ => ⟨rfl, rfl⟩⟩
  · rw [hport]
    exact .of_summary ⟨rfl, rfl, rfl, rfl, rfl, rfl⟩ rfl
  · rw [hport, hq.2.1, List.filter_nil, ← hq.2.1]
    exact ⟨rfl, rfl⟩

/-- The judgement of a walk's end at a lane whose owner port is gone. -/
theorem State.walkCheck_cases (ho : (s.lane n).owner = some p) (ha : s.attached p = false) :
    s.walkCheck n = s ∨ s.walkCheck n = s.discardAborted n := by
  by_cases h : (s.lane n).state = .aborting ∧ (s.lane n).unsettled = [] ∧ (s.lane n).journal = [] ∧
    ((s.lane n).abort.map AbortRecord.walkEnded).getD false = false
  · right
    unfold State.walkCheck
    rw [if_pos h, State.walkEnd, ho]
    cases (s.lane n).abort with
    | none => rfl
    | some a => exact if_neg (by rw [ha]; simp)
  · exact .inl (if_neg h)

theorem State.failWork_enterAborting (hs : s.settlings = []) (n : LaneNo) (c : AbortCause) : s.FailWork [n] (s.enterAborting n c) :=
  (((State.failWork_leaveWaiters hs n _).trans (State.failWork_leaveWriters _ _ _)).trans (State.failWork_modLane _ n _)).trans
    (State.failWork_timer _ n none)

theorem State.failWork_failAborting (s : State) (n : LaneNo) : s.FailWork [n] (s.failAborting n) := by
  unfold State.failAborting
  dsimp only
  split
  · exact s.failWork_discardAborted n
  · exact s.failWork_modLane n _

theorem State.failWork_orphanLane (hs : s.settlings = []) (n : LaneNo) : s.FailWork [n] (s.orphanLane n) := by
  rw [State.orphanLane_eq]
  have hdiscard := s.failWork_discard (bit (s.lane n).run.isSome + bit (s.lane n).held.isSome) [n]
  exact ((hdiscard.trans (State.failWork_leaveWaiters (hdiscard.settlings.trans hs) n _)).trans (State.failWork_modLane _ n _)).trans
    (State.failWork_timer _ n _)

theorem State.dropRecords_owner (s : State) (n : LaneNo) : ((s.dropRecords n).lane n).owner = (s.lane n).owner := by
  unfold State.dropRecords
  rw [State.lane_modLane]
  exact Lane.clearRingFull_owner _

theorem State.failWork_abandonLane (hs : s.settlings = []) (ho : (s.lane n).owner = some p) (ha : s.attached p = false) :
    s.FailWork [n] (s.abandonLane n) := by
  have hdrop : s.FailWork [n] (s.dropRecords n) := (s.failWork_discard _ _).trans (State.failWork_modLane _ n _)
  have henter := hdrop.trans (State.failWork_enterAborting (hdrop.settlings.trans hs) n .abandon)
  rw [State.abandonLane_eq, State.abortLane_eq]
  refine .trans ?_ (State.failWork_failAborting _ n)
  have howner : (((s.dropRecords n).enterAborting n .abandon).lane n).owner = some p := by
    rw [State.lane_enterAborting]
    exact (s.dropRecords_owner n).trans ho
  rcases State.walkCheck_cases howner ((henter.attached p).trans ha) with h | h
  · rw [h]
    exact henter
  · rw [h]
    exact henter.trans (State.failWork_discardAborted _ n)

/-- The failure of a port reaches its lanes (R160). -/
theorem State.failWork_failLane (hs : s.settlings = []) (ha : s.attached p = false) (n : LaneNo) : s.FailWork [n] (s.failLane p n) := by
  unfold State.failLane
  dsimp only
  split
  · next ho =>
    split
    · split
      · exact State.failWork_orphanLane hs n
      · exact State.failWork_abandonLane hs ho ha
    · split
      · exact State.failWork_orphanLane hs n
      · exact State.failWork_abandonLane hs ho ha
    · split
      · exact State.failWork_orphanLane hs n
      · exact State.failWork_abandonLane hs ho ha
    · exact s.failWork_failAborting n
    · exact .refl _ s
    · exact .refl _ s
  · exact .refl _ s

/-- The failure of a port reaches its lanes one after another. -/
theorem State.failWork_failLanes (p : PortNo) (ns : List LaneNo) : ∀ s : State, s.settlings = [] → s.attached p = false →
    s.FailWork ns (ns.foldl (fun t n => t.failLane p n) s) := by
  induction ns with
  | nil => exact fun s _ _ => .refl _ s
  | cons n ns ih =>
    intro s hs ha
    have hone := State.failWork_failLane hs ha n
    exact (hone.mono (by simp)).trans ((ih _ (hone.settlings.trans hs) ((hone.attached p).trans ha)).mono (List.subset_cons_self n ns))

/-- What the failure leaves at lane `n` is what it does when the lane's turn comes, in a state in which the lane is as it was. -/
theorem State.failLanes_at (hs : s.settlings = []) (ha : s.attached p = false) (n : LaneNo) :
    ∃ u : State, u.lane n = s.lane n ∧ u.settlings = [] ∧ u.attached p = false ∧ u.policy = s.policy ∧ u.orphanTimers[n] = s.orphanTimers[n] ∧
      (allLanes.foldl (fun t n => t.failLane p n) s).lane n = (u.failLane p n).lane n ∧
      (allLanes.foldl (fun t n => t.failLane p n) s).orphanTimers[n] = (u.failLane p n).orphanTimers[n] := by
  obtain ⟨before, after, hsplit⟩ := List.append_of_mem (List.mem_finRange n : n ∈ allLanes)
  replace hsplit : allLanes = before ++ n :: after := hsplit
  have hnodup : (before ++ n :: after).Nodup := hsplit ▸ List.nodup_finRange 64
  rw [List.nodup_append, List.nodup_cons] at hnodup
  obtain ⟨-, ⟨hafter, -⟩, hbefore⟩ := hnodup
  have hfirst := State.failWork_failLanes p before s hs ha
  generalize hu : before.foldl (fun t n => t.failLane p n) s = u at hfirst
  have hus := hfirst.settlings.trans hs
  have hua := (hfirst.attached p).trans ha
  have hone := State.failWork_failLane hus hua n
  have hrest := State.failWork_failLanes p after _ (hone.settlings.trans hus) ((hone.attached p).trans hua)
  obtain ⟨hlane, htimer⟩ := hrest.others n hafter
  obtain ⟨hkept, hstood⟩ := hfirst.others n fun hmem => hbefore n hmem n List.mem_cons_self rfl
  refine ⟨u, hkept, hus, hua, hfirst.policy, hstood, ?_, ?_⟩
  · rw [hsplit, List.foldl_append, List.foldl_cons, hu]
    exact hlane
  · rw [hsplit, List.foldl_append, List.foldl_cons, hu]
    exact htimer

/-! ### A lane of the failed port -/

theorem LaneState.serves_cases {st : LaneState} (h : st.serves = true) : st = .active ∨ st = .checkpointing ∨ st = .closing := by
  cases st <;> simp [LaneState.serves] at h ⊢

theorem State.failLane_of_other (h : (s.lane n).owner ≠ some p) : s.failLane p n = s := by
  unfold State.failLane
  dsimp only
  rw [if_neg h]

theorem State.failLane_of_free (h : (s.lane n).state = .free) : s.failLane p n = s := by
  unfold State.failLane
  dsimp only
  rw [h]
  split <;> rfl

theorem State.failLane_of_suspend (ho : (s.lane n).owner = some p) (hs : (s.lane n).state.serves = true)
    (ha : (s.lane n).action = .suspend) : s.failLane p n = s.orphanLane n := by
  unfold State.failLane
  dsimp only
  rw [if_pos ho, ha]
  rcases LaneState.serves_cases hs with h | h | h <;> rw [h]

theorem State.failLane_of_abandon (ho : (s.lane n).owner = some p) (hs : (s.lane n).state.serves = true)
    (ha : (s.lane n).action = .abandon) : s.failLane p n = s.abandonLane n := by
  unfold State.failLane
  dsimp only
  rw [if_pos ho, ha]
  rcases LaneState.serves_cases hs with h | h | h <;> rw [h]

theorem State.orphanLane_lane (s : State) (n : LaneNo) : (s.orphanLane n).lane n = (s.lane n).orphan := by
  rw [State.orphanLane_eq]
  exact (State.lane_setLane_self _).trans (by rw [State.lane_leaveWaiters]; rfl)

theorem State.orphanLane_timer (hs : s.settlings = []) (n : LaneNo) :
    (s.orphanLane n).orphanTimers[n] = some (s.policy.orphanLimit * 1000) := by
  have hpolicy : (((s.discard (bit (s.lane n).run.isSome + bit (s.lane n).held.isSome)).leaveWaiters n).modLane n Lane.orphan).policy =
      s.policy := (State.failWork_leaveWaiters (s := s.discard _) hs n []).policy
  rw [State.orphanLane_eq, State.startOrphanTimer, hpolicy]
  exact Vector.getElem_set_self _

theorem State.dropRecords_lane (s : State) (n : LaneNo) :
    ((s.dropRecords n).lane n).run = none ∧ ((s.dropRecords n).lane n).held = none ∧
      ((s.dropRecords n).lane n).unsettled = (s.lane n).unsettled := by
  unfold State.dropRecords
  rw [State.lane_modLane, State.lane_discard]
  unfold Lane.clearRingFull
  split <;> exact ⟨rfl, rfl, rfl⟩

/-- The lane of an aborted lane's entry into ABORTING: neither run nor held record, and its abort begun (R109, R160). -/
theorem State.abandoning_lane (s : State) (n : LaneNo) :
    let l := ((s.dropRecords n).enterAborting n .abandon).lane n
    l.state = .aborting ∧ l.run = none ∧ l.held = none ∧ l.owner = (s.lane n).owner ∧ l.unsettled = (s.lane n).unsettled ∧
      (l.abort.map AbortRecord.walkEnded).getD false = false := by
  obtain ⟨hrun, hheld, hunsettled⟩ := s.dropRecords_lane n
  rw [State.lane_enterAborting]
  exact ⟨rfl, by rw [Lane.enterAborting, hrun]; rfl, hheld, s.dropRecords_owner n, hunsettled, rfl⟩

theorem State.failAborting_of_begun (h : (((s.lane n).abort).map AbortRecord.walkEnded).getD false = false) :
    s.failAborting n = s.modLane n fun l => { l with abort := l.abort.map fun a => { a with discard := true } } := by
  unfold State.failAborting
  dsimp only
  rw [if_neg (by rw [h]; exact Bool.false_ne_true)]

/-- A lane that its port's failure aborts is ABORTING with neither run nor held record, or FREE (R160). -/
theorem State.abandonLane_lane (ho : (s.lane n).owner = some p) (hs : s.settlings = []) (ha : s.attached p = false) :
    ((s.abandonLane n).lane n).state = .aborting ∧ ((s.abandonLane n).lane n).run = none ∧ ((s.abandonLane n).lane n).held = none ∨
      ((s.abandonLane n).lane n).state = .free := by
  obtain ⟨hstate, hrun, hheld, howner, -, hbegun⟩ := s.abandoning_lane n
  have hdrop : s.FailWork [n] (s.dropRecords n) := (s.failWork_discard _ _).trans (State.failWork_modLane _ n _)
  have hattached : ((s.dropRecords n).enterAborting n .abandon).attached p = false :=
    ((hdrop.trans (State.failWork_enterAborting (hdrop.settlings.trans hs) n .abandon)).attached p).trans ha
  rw [State.abandonLane_eq, State.abortLane_eq]
  generalize (s.dropRecords n).enterAborting n .abandon = e at *
  rcases e.walkCheck_cases (p := p) (howner.trans ho) hattached with h | h
  · rw [h, State.failAborting_of_begun hbegun, State.lane_modLane]
    exact .inl ⟨hstate, hrun, hheld⟩
  · have hfree : (e.discardAborted n).lane n = Lane.free := State.lane_setLane_self _
    rw [h, State.failAborting_of_begun (by rw [hfree]; rfl), State.lane_modLane, hfree]
    exact .inr rfl

/-- The abort of a lane with containers left to withdraw goes on: its run and held record are discarded and counted (R160). -/
theorem State.abandonLane_discarded (hs : s.settlings = []) (hu : (s.lane n).unsettled ≠ []) :
    (s.abandonLane n).discarded = (s.discard (bit (s.lane n).run.isSome + bit (s.lane n).held.isSome)).discarded := by
  obtain ⟨-, -, -, -, hunsettled, hbegun⟩ := s.abandoning_lane n
  have hdrop : (s.dropRecords n).settlings = [] := hs
  have hframe := State.leaveWaiters_frame hdrop n
  have hdiscarded : ((s.dropRecords n).enterAborting n .abandon).discarded = (s.dropRecords n).discarded := by
    have hleft : ((s.dropRecords n).leaveWaiters n).discarded = (s.dropRecords n).discarded := by rw [hframe]
    exact hleft
  rw [State.abandonLane_eq, State.abortLane_eq, State.walkCheck_none (.inr (.inl (by rw [hunsettled]; exact hu))),
    State.failAborting_of_begun hbegun]
  exact hdiscarded

end Sys2Proof.Machine

/-! PROOFS. Fail-safe entry (R156 to R162; O52, O53). -/

namespace Sys2Proof.Machine

open Sys2Proof

variable {s t u : State} {p k : PortNo} {n m : LaneNo} {f : Flag} {c : Carry} {errs : List DramError}

/-! ### Flags at other ports (R159) -/

theorem State.laneWork_afterRaise (ha : s.attached p = true) (f : Flag) (c : Carry) : (s.raiseAt p f c).LaneWork (s.setFlag p f c) := by
  have ha' : (s.raiseAt p f c).attached p = true := ((s.laneWork_modPort ha (Port.spared_raise _ f c)).attached p).trans ha
  rcases State.setFlag_cases f c ha with ⟨_, e⟩ | ⟨_, _, _, e⟩ | ⟨_, _, _, e⟩
  · rw [e]; exact .refl _
  · rw [e]; exact State.laneWork_ringPut _ ha' _
  · rw [e]
    have hheld := State.laneWork_modPort (s.raiseAt p f c) ha' (f := fun q => { q with attnHeld := true })
      (.of_summary ⟨rfl, rfl, rfl, rfl, rfl, rfl⟩ rfl)
    exact hheld.trans (State.laneWork_join _ ((hheld.attached p).trans ha') _)

/-- What a raised flag shows in a summary is shown at each of the ports at which the flag is set. -/
theorem State.setFlags_shows {P : Port → Prop} (hraise : ∀ q : Port, P { q with summary := (q.summary.raise f).carry f c })
    (hkept : ∀ q q' : Port, q.Spared q' → P q → P q') (ps : List PortNo) : ∀ s : State, k ∈ ps → s.attached k = true →
    P ((s.setFlags ps f c).port k) := by
  induction ps with
  | nil => exact fun _ h => absurd h List.not_mem_nil
  | cons q ps ih =>
    intro s hk ha
    have hone := s.laneWork_setFlag q f c
    rcases List.mem_cons.mp hk with rfl | hk
    · have hbody : P ((s.raiseAt k f c).port k) := by
        rw [State.raiseAt, State.port_modPort]
        exact hraise _
      have hset : P ((s.setFlag k f c).port k) := hkept _ _ ((State.laneWork_afterRaise ha f c).ports k) hbody
      exact hkept _ _ ((State.laneWork_setFlags (s.setFlag k f c) ps f c).ports k) hset
    · exact ih _ hk ((hone.attached k).trans ha)

/-- A summary shows that port `p` has failed. -/
def Port.ShowsFailed (q : Port) (p : PortNo) : Prop := q.summary.mark .peerFailsafe ≠ .clear ∧ p ∈ q.summary.peers

/-- A summary shows that lane `n` has been orphaned. -/
def Port.ShowsOrphan (q : Port) (n : LaneNo) : Prop := q.summary.mark .laneOrphaned ≠ .clear ∧ n ∈ q.summary.orphanedLanes

theorem Port.Spared.failed {q q' : Port} (h : q.Spared q') (hq : q.ShowsFailed p) : q'.ShowsFailed p := ⟨h.marks _ hq.1, h.peers p hq.2⟩

theorem Port.Spared.orphan {q q' : Port} (h : q.Spared q') (hq : q.ShowsOrphan n) : q'.ShowsOrphan n := ⟨h.marks _ hq.1, h.orphans n hq.2⟩

theorem Port.raise_marks (q : Port) (f : Flag) (c : Carry) : ((q.summary.raise f).carry f c).mark f ≠ .clear := by
  rw [Summary.mark_carry, Summary.mark_raise, if_pos rfl]
  exact Mark.raise_ne_clear _

theorem mem_joinSet {α : Type} [DecidableEq α] (xs : List α) (x : α) : x ∈ joinSet xs x := by
  unfold joinSet
  split
  · assumption
  · exact List.mem_append_right _ List.mem_cons_self

theorem mem_foldl_joinSet_self {α : Type} [DecidableEq α] {x : α} (ns : List α) (h : x ∈ ns) : ∀ xs : List α, x ∈ ns.foldl joinSet xs := by
  induction ns with
  | nil => exact absurd h List.not_mem_nil
  | cons m ns ih =>
    intro xs
    rcases List.mem_cons.mp h with rfl | h
    · exact Summary.mem_foldl_joinSet ns _ (mem_joinSet xs x)
    · exact ih h _

theorem State.setFlag_port_ne (f : Flag) (c : Carry) (h : k ≠ p) : (s.setFlag p f c).port k = s.port k := by
  cases ha : s.attached p with
  | false => rw [State.setFlag_unattached f c ha]
  | true =>
    have hraise : (s.raiseAt p f c).port k = s.port k := State.port_modPort_ne _ _ _ h
    rcases State.setFlag_cases f c ha with ⟨_, e⟩ | ⟨_, _, _, e⟩ | ⟨_, _, _, e⟩
    · rw [e, hraise]
    · rw [e, State.ringPut_port_ne _ _ _ h, hraise]
    · rw [e, State.holdAttention, State.port_join_ne _ h, State.port_modPort_ne _ _ _ h, hraise]

theorem State.setFlags_port_ne {ps : List PortNo} (f : Flag) (c : Carry) (h : k ∉ ps) : ∀ s : State, (s.setFlags ps f c).port k = s.port k := by
  induction ps with
  | nil => exact fun _ => rfl
  | cons q ps ih =>
    intro s
    have hq : k ≠ q := fun e => h (e ▸ List.mem_cons_self)
    exact (ih (fun hk => h (List.mem_cons_of_mem q hk)) _).trans (State.setFlag_port_ne f c hq)

theorem State.laneWork_failFlags (s : State) (p : PortNo) (orphans : List LaneNo) : s.LaneWork (s.failFlags p orphans) := by
  unfold State.failFlags
  dsimp only
  split
  · exact State.laneWork_setFlags _ _ _ _
  · exact (State.laneWork_setFlags _ _ _ _).trans (State.laneWork_setFlags _ _ _ _)

theorem State.failFlags_frame (s : State) (p : PortNo) (orphans : List LaneNo) :
    s.failFlags p orphans = { s with ports := (s.failFlags p orphans).ports, memory := (s.failFlags p orphans).memory } := by
  unfold State.failFlags
  dsimp only
  split
  · exact State.setFlags_frame _ _ _ _
  · rw [State.setFlags_frame]
    rw [State.setFlags_frame s]

/-- The failed port's own unit takes no flag. -/
theorem State.failFlags_own (s : State) (p : PortNo) (orphans : List LaneNo) : (s.failFlags p orphans).port p = s.port p := by
  have hnot : p ∉ allPorts.filter fun q => decide (q ≠ p) := by simp
  unfold State.failFlags
  dsimp only
  split
  · exact State.setFlags_port_ne _ _ hnot s
  · exact (State.setFlags_port_ne _ _ hnot _).trans (State.setFlags_port_ne _ _ hnot s)

theorem State.failFlags_failed (hk : k ≠ p) (ha : s.attached k = true) (orphans : List LaneNo) :
    ((s.failFlags p orphans).port k).ShowsFailed p := by
  have hmem : k ∈ allPorts.filter fun q => decide (q ≠ p) := by simp [allPorts, hk]
  have hset := State.setFlags_shows (P := fun q => q.ShowsFailed p) (f := .peerFailsafe) (c := .port p)
    (fun q => ⟨q.raise_marks _ _, mem_joinSet _ p⟩) (fun _ _ h => h.failed) _ s hmem ha
  unfold State.failFlags
  dsimp only
  split
  · exact hset
  · exact ((State.laneWork_setFlags _ _ _ _).ports k).failed hset

theorem State.failFlags_orphan (hk : k ≠ p) (ha : s.attached k = true) {orphans : List LaneNo} (hn : n ∈ orphans) :
    ((s.failFlags p orphans).port k).ShowsOrphan n := by
  have hmem : k ∈ allPorts.filter fun q => decide (q ≠ p) := by simp [allPorts, hk]
  have hone := s.laneWork_setFlags (allPorts.filter fun q => decide (q ≠ p)) .peerFailsafe (.port p)
  unfold State.failFlags
  dsimp only
  rw [if_neg (List.ne_nil_of_mem hn)]
  exact State.setFlags_shows (P := fun q => q.ShowsOrphan n) (f := .laneOrphaned) (c := .lanes orphans)
    (fun q => ⟨q.raise_marks _ _, mem_foldl_joinSet_self orphans hn _⟩) (fun _ _ h => h.orphan) _ _ hmem ((hone.attached k).trans ha)

/-! ### The port's own unit (R158) -/

theorem State.strayHand_of_none (hs : s.settlings = []) (p : PortNo) :
    s.strayHand p = { s with strayReleases := (s.strayHand p).strayReleases } := by
  unfold State.strayHand
  split
  · rfl
  · rw [hs]
    rw [List.map_nil, ← hs]
  · rfl
  · rfl

theorem State.failPort_frame (hs : s.settlings = []) (p : PortNo) : s.failPort p = { s.modPort p fun q => q.fail s.now with
    strayReleases := (s.strayHand p).strayReleases
    scanner := { s.scanner with queue := s.scanner.queue.filter fun x => decide (x.port ≠ p) }
    discarded := min 4294967295 (min 4294967295 (s.discarded + (s.port p).waitingRecords) +
      (s.scanner.queue.filter fun x => decide (x.port = p)).length) } := by
  unfold State.failPort
  rw [State.discardReclaims_eq, State.strayHand_of_none hs]
  rfl

theorem Port.fail_gone (q : Port) (now : Nat) : (q.fail now).Gone := ⟨by simp [Port.fail], rfl, rfl⟩

/-! ### The held advance (R124) -/

theorem State.PartWork.requestStart (h : s.PartWork t) : s.requestStart.PartWork t.requestStart := by
  obtain ⟨h1, h2, h3, h4, h5, h6, h7⟩ := h.same
  exact ⟨⟨h1, h2, h3, h4, congrArg (· + 1) h5, h6, h7⟩, h.scanner, h.settlings, h.ports, h.gone⟩

theorem State.partWork_startEpochTimer (s : State) : s.PartWork s.startEpochTimer :=
  .of_ports ⟨rfl, rfl, rfl, rfl, rfl, rfl, rfl⟩ (.refl _) rfl rfl rfl

theorem State.partWork_advanceBody (s : State) : ({ s with epoch := countTo Config.max32 s.epoch } : State).PartWork s.advanceBody := by
  unfold State.advanceBody
  cases s.stagedPolicy with
  | none => exact .refl _
  | some q => exact State.partWork_activatePolicy _ q

/-- What an advance leaves alone. -/
theorem State.partWork_advance (s : State) :
    (State.requestStart { s with epoch := countTo Config.max32 s.epoch }).PartWork s.advance := by
  rw [State.advance_eq]
  exact ((s.partWork_advanceBody.trans (s.advanceBody.laneWork_setFlagAll .epochAdvanced .none).part).trans
    (State.partWork_startEpochTimer _)).requestStart

theorem State.activatePolicy_rest (s : State) (q : Policy) : (s.activatePolicy q).stagedPolicy = none ∧
    ((s.activatePolicy q).scanner = s.scanner ∨ (s.activatePolicy q).scanner = s.scanner.stop) := by
  rw [State.activatePolicy_eq]
  split
  · rw [((s.withPolicy q).laneWork_enterPassthrough).frame]
    exact ⟨rfl, .inr rfl⟩
  · exact ⟨rfl, .inl rfl⟩

/-- After an advance no policy is staged; the scanner goes on or stops; and without a staged policy the device stays in its state. -/
theorem State.advance_rest (s : State) : s.advance.stagedPolicy = none ∧
    (s.advance.scanner = s.scanner ∨ s.advance.scanner = s.scanner.stop) ∧ (s.stagedPolicy = none → s.advance.device = s.device) := by
  have hbody : s.advanceBody.stagedPolicy = none ∧ (s.advanceBody.scanner = s.scanner ∨ s.advanceBody.scanner = s.scanner.stop) ∧
      (s.stagedPolicy = none → s.advanceBody.device = s.device) := by
    unfold State.advanceBody
    cases hq : s.stagedPolicy with
    | none => exact ⟨rfl, .inl rfl, fun _ => rfl⟩
    | some q =>
      obtain ⟨hstaged, hscanner⟩ := State.activatePolicy_rest { s with epoch := countTo Config.max32 s.epoch } q
      exact ⟨hstaged, hscanner, fun h => absurd h (Option.some_ne_none q)⟩
  have hflags := s.advanceBody.setFlagAll_frame .epochAdvanced .none
  rw [State.advance_eq]
  generalize s.advanceBody.setFlagAll .epochAdvanced .none = v at hflags
  generalize s.advanceBody = u at *
  rw [hflags]
  exact hbody

/-! ### The proposal that a failed port leaves (R150) -/

/-- Nothing is left for an open proposal to wait for when the port has failed. -/
def State.LeavingApplies (s : State) (p : PortNo) : Prop :=
  ∃ q, s.proposal = some q ∧ q.proposer ≠ p ∧ p ∈ q.required ∧ q.LastIs p

/-- What the leaving of a proposal leaves alone, apart from the proposal and its ending. -/
theorem State.partWork_leaveProposal (s : State) (p : PortNo) :
    ({ s with proposal := (s.leaveProposal p).proposal, lastEnded := (s.leaveProposal p).lastEnded } : State).PartWork (s.leaveProposal p) := by
  have hof {e t : State} (h : e.PartWork t) (he : e = { s with proposal := e.proposal, lastEnded := e.lastEnded }) :
      ({ s with proposal := t.proposal, lastEnded := t.lastEnded } : State).PartWork t := by
    obtain ⟨-, -, -, -, -, hproposal, hended⟩ := h.same
    rw [hproposal, hended, ← he]
    exact h
  cases hq : s.proposal with
  | none =>
    rw [State.leaveProposal_of_none hq]
    exact .refl s
  | some q =>
    by_cases hp : q.proposer = p
    · rw [State.leaveProposal_of_own hq hp]
      exact hof (State.laneWork_endProposal hq .withdrawn).part rfl
    · by_cases hr : p ∈ q.required
      · by_cases hlast : q.LastIs p
        · rw [State.leaveProposal_of_last hq hp hr hlast]
          exact hof (State.partWork_applyProposal (s := { s with proposal := some (q.without p) }) rfl) rfl
        · rw [State.leaveProposal_of_required hq hp hr hlast]
          exact .refl _
      · rw [State.leaveProposal_of_not_required hq hp hr]
        exact .refl s

/-- A proposal that does not apply changes the summaries of the ports at most. -/
theorem State.leaveProposal_frame (h : ¬s.LeavingApplies p) : s.leaveProposal p = { s with
    ports := (s.leaveProposal p).ports, memory := (s.leaveProposal p).memory, proposal := (s.leaveProposal p).proposal
    lastEnded := (s.leaveProposal p).lastEnded } := by
  cases hq : s.proposal with
  | none => rw [State.leaveProposal_of_none hq]
  | some q =>
    by_cases hp : q.proposer = p
    · rw [State.leaveProposal_of_own hq hp, State.endProposal_frame hq]
    · by_cases hr : p ∈ q.required
      · rw [State.leaveProposal_of_required hq hp hr fun hlast => h ⟨q, hq, hp, hr, hlast⟩]
      · rw [State.leaveProposal_of_not_required hq hp hr]

/-- What becomes of the open proposal. -/
theorem State.leaveProposal_proposal (s : State) (p : PortNo) :
    (s.proposal = none → (s.leaveProposal p).proposal = none) ∧
    ∀ q, s.proposal = some q →
      (q.proposer = p → (s.leaveProposal p).proposal = none ∧
        (s.leaveProposal p).lastEnded = some { body := q.body, outcome := .withdrawn }) ∧
      (q.proposer ≠ p → p ∉ q.required → (s.leaveProposal p).proposal = some q) ∧
      (q.proposer ≠ p → p ∈ q.required → ¬q.LastIs p → (s.leaveProposal p).proposal = some (q.without p)) ∧
      (q.proposer ≠ p → p ∈ q.required → q.LastIs p → (s.leaveProposal p).proposal = none ∧ (s.leaveProposal p).lastEnded = some
        { body := q.body, outcome := if q.body = .serviceStart ∧ s.device ≠ .rebuild then .voided else .applied }) := by
  refine ⟨fun hq => by rw [State.leaveProposal_of_none hq, hq], fun q hq => ⟨fun hp => ?_, fun hp hr => ?_, fun hp hr hlast => ?_, fun hp hr hlast => ?_⟩⟩
  · rw [State.leaveProposal_of_own hq hp, State.endProposal_frame hq]
    exact ⟨rfl, rfl⟩
  · rw [State.leaveProposal_of_not_required hq hp hr, hq]
  · rw [State.leaveProposal_of_required hq hp hr hlast]
  · rw [State.leaveProposal_of_last hq hp hr hlast]
    obtain ⟨-, -, -, -, -, hnone, hended⟩ := (State.partWork_applyProposal (s := { s with proposal := some (q.without p) }) rfl).same
    exact ⟨hnone, hended⟩

end Sys2Proof.Machine

/-! PROOFS. The stages of a fail-safe entry, and its obligations (O52, O53). -/

namespace Sys2Proof.Machine

open Sys2Proof

variable {s t g h : State} {p k : PortNo} {n m : LaneNo} {errs : List DramError}

/-! ### The lanes (R160) -/

/-- The state in which a failed port's lanes have left its service. -/
def State.unserved (s : State) (p : PortNo) : State := allLanes.foldl (fun t n => t.failLane p n) (s.failPort p)

theorem State.failPort_settlings (hs : s.settlings = []) (p : PortNo) : (s.failPort p).settlings = [] := by
  rw [State.failPort_frame hs]
  exact hs

theorem State.failPort_own (hs : s.settlings = []) (p : PortNo) : (s.failPort p).port p = (s.port p).fail s.now := by
  rw [State.failPort_frame hs]
  exact State.port_modPort s p fun q => q.fail s.now

theorem State.failPort_other (hs : s.settlings = []) (hk : k ≠ p) : (s.failPort p).port k = s.port k := by
  rw [State.failPort_frame hs]
  exact State.port_modPort_ne s p (fun q => q.fail s.now) hk

theorem State.failPort_unattached (hs : s.settlings = []) (p : PortNo) : (s.failPort p).attached p = false := by
  rw [State.attached, State.failPort_own hs]
  rfl

theorem State.failWork_unserved (hs : s.settlings = []) (p : PortNo) : (s.failPort p).FailWork allLanes (s.unserved p) :=
  State.failWork_failLanes p allLanes _ (State.failPort_settlings hs p) (State.failPort_unattached hs p)

theorem State.unserved_own (hs : s.settlings = []) (p : PortNo) : (s.unserved p).port p = (s.port p).fail s.now := by
  have hgone : ((s.failPort p).port p).Gone := by
    rw [State.failPort_own hs]
    exact Port.fail_gone _ _
  rw [((State.failWork_unserved hs p).gone p hgone).1, State.failPort_own hs]

theorem State.unserved_other (hs : s.settlings = []) (hk : k ≠ p) : (s.port k).Spared ((s.unserved p).port k) := by
  have hports := (State.failWork_unserved hs p).ports k
  rwa [State.failPort_other hs hk] at hports

/-- What stands when the lanes have left service. -/
theorem State.unserved_frame (hs : s.settlings = []) (p : PortNo) : s.unserved p = { s with
    ports := (s.unserved p).ports, memory := (s.unserved p).memory, lanes := (s.unserved p).lanes
    orphanTimers := (s.unserved p).orphanTimers, table := (s.unserved p).table, turns := (s.unserved p).turns
    slots := (s.unserved p).slots, discarded := (s.unserved p).discarded, strayReleases := (s.strayHand p).strayReleases
    scanner := { s.scanner with queue := s.scanner.queue.filter fun x => decide (x.port ≠ p) } } := by
  have hframe := (State.failWork_unserved hs p).frame
  rw [State.failPort_frame hs] at hframe
  exact hframe

/-- What becomes of lane `n` of the failed port (R160). -/
theorem State.unserved_lane (hs : s.settlings = []) (p : PortNo) (n : LaneNo) :
    ∃ u : State, u.lane n = s.lane n ∧ u.settlings = [] ∧ u.attached p = false ∧ u.policy = s.policy ∧ u.orphanTimers[n] = s.orphanTimers[n] ∧
      (s.unserved p).lane n = (u.failLane p n).lane n ∧ (s.unserved p).orphanTimers[n] = (u.failLane p n).orphanTimers[n] := by
  obtain ⟨u, hlane, hsettlings, hattached, hpolicy, hstood, hfail, htimer⟩ :=
    State.failLanes_at (State.failPort_settlings hs p) (State.failPort_unattached hs p) n
  have hpolicy' : (s.failPort p).policy = s.policy := by rw [State.failPort_frame hs]; rfl
  have hlane' : (s.failPort p).lane n = s.lane n := by rw [State.failPort_frame hs]; rfl
  have htimer' : (s.failPort p).orphanTimers[n] = s.orphanTimers[n] := by rw [State.failPort_frame hs]; rfl
  exact ⟨u, hlane.trans hlane', hsettlings, hattached, hpolicy.trans hpolicy', hstood.trans htimer', hfail, htimer⟩

/-- A lane in service with fail-safe action SUSPEND is orphaned, and its orphan timer runs (R161, R163). -/
theorem State.unserved_suspends (hs : s.settlings = []) (ho : (s.lane n).owner = some p) (hserves : (s.lane n).state.serves = true)
    (ha : (s.lane n).action = .suspend) :
    (s.unserved p).lane n = (s.lane n).orphan ∧ (s.unserved p).orphanTimers[n] = some (s.policy.orphanLimit * 1000) := by
  obtain ⟨u, hlane, hsettlings, -, hpolicy, -, hfail, htimer⟩ := State.unserved_lane hs p n
  have hu : u.failLane p n = u.orphanLane n :=
    State.failLane_of_suspend (by rw [hlane]; exact ho) (by rw [hlane]; exact hserves) (by rw [hlane]; exact ha)
  rw [hfail, htimer, hu, State.orphanLane_lane, State.orphanLane_timer hsettlings, hlane, hpolicy]
  exact ⟨rfl, rfl⟩

/-- A lane in service with fail-safe action ABANDON is aborted (R162). -/
theorem State.unserved_abandons (hs : s.settlings = []) (ho : (s.lane n).owner = some p) (hserves : (s.lane n).state.serves = true)
    (ha : (s.lane n).action = .abandon) :
    ((s.unserved p).lane n).state = .aborting ∧ ((s.unserved p).lane n).run = none ∧ ((s.unserved p).lane n).held = none ∨
      ((s.unserved p).lane n).state = .free := by
  obtain ⟨u, hlane, hsettlings, hattached, -, -, hfail, -⟩ := State.unserved_lane hs p n
  have hu : u.failLane p n = u.abandonLane n :=
    State.failLane_of_abandon (by rw [hlane]; exact ho) (by rw [hlane]; exact hserves) (by rw [hlane]; exact ha)
  rw [hfail, hu]
  exact State.abandonLane_lane (by rw [hlane]; exact ho) hsettlings hattached

/-- The lanes of the other ports are left alone. -/
theorem State.unserved_others (hs : s.settlings = []) (ho : (s.lane m).owner ≠ some p) :
    (s.unserved p).lane m = s.lane m ∧ (s.unserved p).orphanTimers[m] = s.orphanTimers[m] := by
  obtain ⟨u, hlane, -, -, -, hstood, hfail, htimer⟩ := State.unserved_lane hs p m
  rw [hfail, htimer, State.failLane_of_other (by rw [hlane]; exact ho)]
  exact ⟨hlane, hstood⟩

/-! ### The freeze and the scanner -/

/-- The port's freeze is the last, and an advance is held (R124). -/
def State.HoldsLast (s : State) (p : PortNo) : Prop :=
  (s.port p).freeze = true ∧ (∀ q, q ≠ p → (s.port q).freeze = false) ∧ s.advancePending = true

/-- From `g` to `h` the failed port's freeze has been given up, which takes the held advance when `takes` (R124). -/
structure State.Thawed (g h : State) (p : PortNo) (takes : Prop) : Prop where
  own : h.port p = { g.port p with freeze := false, recent := (h.port p).recent }
  others : ∀ q, q ≠ p → (g.port q).Spared (h.port q)
  same : h.counter = g.counter ∧ h.holds = g.holds ∧ h.proposal = g.proposal ∧ h.settlings = []
  scanner : h.scanner = g.scanner ∨ h.scanner = g.scanner.stop
  taken : takes → h.advancePending = false ∧ h.epoch = countTo 4294967295 g.epoch ∧ h.startRequests = g.startRequests + 1 ∧
    h.stagedPolicy = none ∧ (g.stagedPolicy = none → h.device = g.device)
  kept : ¬takes → h = g.modPort p fun q => { q with freeze := false }

theorem State.thawed_clearFreeze (hs : g.settlings = []) (hgone : (g.port p).Gone) (hhand : (g.port p).hand = none) :
    g.Thawed (g.clearFreeze p) p (g.HoldsLast p) := by
  have hport : (g.modPort p fun q => { q with freeze := false }).port p = { g.port p with freeze := false } := State.port_modPort _ _ _
  have hother (q : PortNo) (hq : q ≠ p) : (g.modPort p fun q => { q with freeze := false }).port q = g.port q :=
    State.port_modPort_ne _ _ _ hq
  by_cases htakes : g.HoldsLast p
  · have hclear : g.clearFreeze p = State.advance { g.modPort p fun q => { q with freeze := false } with advancePending := false } := by
      obtain ⟨hfreeze, hothers, hpending⟩ := htakes
      refine State.clearFreeze_of_last hfreeze (State.frozen_eq_nil_iff.mpr fun q => ?_) hpending
      by_cases hq : q = p
      · rw [hq, hport]
      · rw [hother q hq]
        exact hothers q hq
    have hwork := State.partWork_advance { g.modPort p fun q => { q with freeze := false } with advancePending := false }
    obtain ⟨hstaged, hscanner, hdevice⟩ :=
      State.advance_rest { g.modPort p fun q => { q with freeze := false } with advancePending := false }
    rw [hclear]
    generalize State.advance { g.modPort p fun q => { q with freeze := false } with advancePending := false } = a at *
    obtain ⟨hepoch, hcounter, hholds, hadvance, hstart, hproposal, -⟩ := hwork.same
    refine ⟨?_, fun q hq => ?_, ⟨hcounter, hholds, hproposal, hwork.settlings hs⟩, hscanner,
      fun _ => ⟨hadvance, hepoch, hstart, hstaged, hdevice⟩, fun hno => absurd htakes hno⟩
    · have hown := (hwork.gone p (hport.symm ▸ hgone) (hport.symm ▸ hhand)).1
      exact hown.trans (congrArg (fun q : Port => { q with recent := (a.port p).recent }) hport)
    · have hothers := hwork.ports hs q
      exact (hother q hq) ▸ hothers
  · have hclear : g.clearFreeze p = g.modPort p fun q => { q with freeze := false } := by
      refine State.clearFreeze_of_no_advance ?_
      by_cases hfreeze : (g.port p).freeze = true
      · by_cases hpending : g.advancePending = true
        · refine .inr (.inl fun hnil => htakes ⟨hfreeze, fun q hq => ?_, hpending⟩)
          have hthawed := State.frozen_eq_nil_iff.mp hnil q
          rwa [hother q hq] at hthawed
        · exact .inr (.inr (Bool.not_eq_true _ ▸ hpending))
      · exact .inl (Bool.not_eq_true _ ▸ hfreeze)
    rw [hclear]
    refine ⟨?_, fun q hq => ?_, ⟨rfl, rfl, rfl, hs⟩, .inl rfl, fun h => absurd h htakes, fun _ => rfl⟩
    · rw [hport]
    · rw [hother q hq]
      exact .refl _

/-! ### The counts of discarded records (R158, R160, R181) -/

theorem State.failPort_discarded (hs : s.settlings = []) (p : PortNo) : (s.failPort p).discarded = min 4294967295
    (s.discarded + (s.port p).waitingRecords + (s.scanner.queue.filter fun x => decide (x.port = p)).length) := by
  rw [State.failPort_frame hs]
  dsimp only
  omega

/-- With no lane of the port in use, the port's own records are discarded. -/
theorem State.unserved_discarded_of_free (hs : s.settlings = []) (hl : ∀ n, (s.lane n).owner = some p → (s.lane n).state = .free) :
    (s.unserved p).discarded = min 4294967295
      (s.discarded + (s.port p).waitingRecords + (s.scanner.queue.filter fun x => decide (x.port = p)).length) := by
  have hlane (n : LaneNo) : (s.failPort p).lane n = s.lane n := by rw [State.failPort_frame hs]; rfl
  have hkept : s.unserved p = s.failPort p := by
    refine foldl_of_fixed fun n _ => ?_
    by_cases ho : (s.lane n).owner = some p
    · exact State.failLane_of_free (by rw [hlane]; exact hl n ho)
    · exact State.failLane_of_other (by rw [hlane]; exact ho)
  rw [hkept, State.failPort_discarded hs]

/-- With one lane of the port, aborted with containers left, the lane's run and held record are discarded as well. -/
theorem State.unserved_discarded_of_single (hs : s.settlings = []) (hn : ∀ m, (s.lane m).owner = some p ↔ m = n)
    (hserves : (s.lane n).state.serves = true) (ha : (s.lane n).action = .abandon) (hu : (s.lane n).unsettled ≠ []) :
    (s.unserved p).discarded = min 4294967295
      (s.discarded + (s.port p).waitingRecords + (s.scanner.queue.filter fun x => decide (x.port = p)).length +
        (bit (s.lane n).run.isSome + bit (s.lane n).held.isSome)) := by
  have hlane (m : LaneNo) : (s.failPort p).lane m = s.lane m := by rw [State.failPort_frame hs]; rfl
  have hown := (hn n).mpr rfl
  have hwork := State.failWork_failLane (State.failPort_settlings hs p) (State.failPort_unattached hs p) n
  have hfold : s.unserved p = (s.failPort p).failLane p n := by
    refine foldl_of_single (List.nodup_finRange 64) (List.mem_finRange n) fun m _ hm => ?_
    have hother : (s.lane m).owner ≠ some p := fun e => hm ((hn m).mp e)
    exact ⟨State.failLane_of_other (by rw [hlane]; exact hother),
      State.failLane_of_other (by rw [(hwork.others m (by simpa using hm)).1, hlane]; exact hother)⟩
  have hdiscard : ((s.failPort p).discard (bit (s.lane n).run.isSome + bit (s.lane n).held.isSome)).discarded =
      min 4294967295 ((s.failPort p).discarded + (bit (s.lane n).run.isSome + bit (s.lane n).held.isSome)) := rfl
  rw [hfold, State.failLane_of_abandon (by rw [hlane]; exact hown) (by rw [hlane]; exact hserves) (by rw [hlane]; exact ha),
    State.abandonLane_discarded (State.failPort_settlings hs p) (by rw [hlane]; exact hu), hlane, hdiscard, State.failPort_discarded hs]
  omega

/-! ### The stages -/

/-- The state in which the other ports have been told of the failure (R159). -/
def State.alarmed (s : State) (p : PortNo) : State := (s.unserved p).failFlags p (s.lanesToOrphan p)

/-- The state that the failed port leaves the open proposal in (R150). -/
def State.halted (s : State) (p : PortNo) : State := ((s.alarmed p).clearFreeze p).stopScannerOf p

theorem State.failSafe_eq (s : State) (p : PortNo) : s.failSafe p = (s.halted p).leaveProposal p := rfl

theorem State.alarmed_frame (hs : s.settlings = []) (p : PortNo) : s.alarmed p = { s with
    ports := (s.alarmed p).ports, memory := (s.alarmed p).memory, lanes := (s.unserved p).lanes
    orphanTimers := (s.unserved p).orphanTimers, table := (s.unserved p).table, turns := (s.unserved p).turns
    slots := (s.unserved p).slots, discarded := (s.unserved p).discarded, strayReleases := (s.strayHand p).strayReleases
    scanner := { s.scanner with queue := s.scanner.queue.filter fun x => decide (x.port ≠ p) } } := by
  have hframe := (s.unserved p).failFlags_frame p (s.lanesToOrphan p)
  have hunserved := State.unserved_frame hs p
  unfold State.alarmed
  generalize (s.unserved p).failFlags p (s.lanesToOrphan p) = g at *
  obtain ⟨ports, memory, hg⟩ : ∃ ports memory, g = { s.unserved p with ports := ports, memory := memory } := ⟨_, _, hframe⟩
  clear hframe
  generalize s.unserved p = u at *
  subst hg
  exact congrArg (fun u : State => { u with ports := ports, memory := memory }) hunserved

theorem State.alarmed_own (hs : s.settlings = []) (p : PortNo) : (s.alarmed p).port p = (s.port p).fail s.now :=
  (State.failFlags_own _ p _).trans (State.unserved_own hs p)

theorem State.alarmed_other (hs : s.settlings = []) (hk : k ≠ p) : (s.port k).Spared ((s.alarmed p).port k) :=
  (State.unserved_other hs hk).trans ((State.laneWork_failFlags _ p _).ports k)

theorem State.alarmed_holdsLast (hs : s.settlings = []) : (s.alarmed p).HoldsLast p ↔ s.HoldsLast p := by
  have hpending : (s.alarmed p).advancePending = s.advancePending := by rw [State.alarmed_frame hs]
  have hother (q : PortNo) (hq : q ≠ p) : ((s.alarmed p).port q).freeze = (s.port q).freeze :=
    (State.alarmed_other hs hq).same.2.2.2.1
  unfold State.HoldsLast
  rw [State.alarmed_own hs, hpending]
  refine and_congr Iff.rfl (and_congr (forall_congr' fun q => ?_) Iff.rfl)
  exact ⟨fun h hq => (hother q hq).symm.trans (h hq), fun h hq => (hother q hq).trans (h hq)⟩

theorem State.thawed (hs : s.settlings = []) (p : PortNo) : (s.alarmed p).Thawed ((s.alarmed p).clearFreeze p) p (s.HoldsLast p) := by
  have hsettlings : (s.alarmed p).settlings = [] := by rw [State.alarmed_frame hs]; exact hs
  have hown := State.alarmed_own hs p
  have hthawed := State.thawed_clearFreeze (p := p) hsettlings (by rw [hown]; exact Port.fail_gone _ _) (by rw [hown]; rfl)
  rwa [propext (State.alarmed_holdsLast hs)] at hthawed

/-- The scanner sweeps for the failed port no more, and has no record for its ring (R158). -/
theorem State.halted_scanner (hs : s.settlings = []) (p : PortNo) : (∀ x ∈ (s.halted p).scanner.queue, x.port ≠ p) ∧
    (s.scanner.requester = some p → (s.halted p).scanner.state = .idle ∧ (s.halted p).scanner.requester = none) := by
  have hscanner : (s.alarmed p).scanner = { s.scanner with queue := s.scanner.queue.filter fun x => decide (x.port ≠ p) } := by
    rw [State.alarmed_frame hs]
  have hkept : ∀ x ∈ (s.alarmed p).scanner.queue, x.port ≠ p := by
    rw [hscanner]
    exact fun x hx => of_decide_eq_true (List.mem_filter.mp hx).2
  have hrequester : (s.alarmed p).scanner.requester = s.scanner.requester := by rw [hscanner]
  unfold State.halted State.stopScannerOf
  rcases (State.thawed hs p).scanner with h | h
  · split
    · rw [h]
      exact ⟨hkept, fun _ => ⟨rfl, rfl⟩⟩
    · next hne =>
      rw [h]
      exact ⟨hkept, fun hr => absurd ((congrArg Scanner.requester h).trans (hrequester.trans hr)) hne⟩
  · split
    · rw [h]
      exact ⟨hkept, fun _ => ⟨rfl, rfl⟩⟩
    · rw [h]
      exact ⟨hkept, fun _ => ⟨rfl, rfl⟩⟩

theorem State.halted_frame (s : State) (p : PortNo) :
    s.halted p = { (s.alarmed p).clearFreeze p with scanner := (s.halted p).scanner } := State.stopScannerOf_frame _ p

end Sys2Proof.Machine

/-! PROOFS. Port failures (O52, O53). -/

namespace Sys2Proof.Machine

open Sys2Proof

variable {s t : State} {p k : PortNo} {n m : LaneNo} {errs : List DramError}

/-! ### What a fail-safe entry leaves (R158) -/

theorem State.halted_same (hs : s.settlings = []) (p : PortNo) : (s.halted p).counter = s.counter ∧ (s.halted p).holds = s.holds ∧
    (s.halted p).proposal = s.proposal ∧ (s.halted p).settlings = [] := by
  obtain ⟨hcounter, hholds, hproposal, hsettlings⟩ := (State.thawed hs p).same
  have hframe := s.halted_frame p
  have halarmed := State.alarmed_frame hs p
  generalize (s.alarmed p).clearFreeze p = h at *
  rw [hframe]
  exact ⟨hcounter.trans (by rw [halarmed]), hholds.trans (by rw [halarmed]), hproposal.trans (by rw [halarmed]), hsettlings⟩

theorem State.halted_port (s : State) (p k : PortNo) : (s.halted p).port k = ((s.alarmed p).clearFreeze p).port k := by
  rw [s.halted_frame p]
  rfl

/-- The failed port's unit: as its failure leaves it, with no freeze. -/
theorem State.failSafe_own (hs : s.settlings = []) (p : PortNo) :
    ∃ recent, (s.failSafe p).port p = { (s.port p).fail s.now with freeze := false, recent := recent } := by
  have hhalted : (s.halted p).port p = { (s.port p).fail s.now with freeze := false, recent := ((s.halted p).port p).recent } := by
    have hown := (State.thawed hs p).own
    rw [State.alarmed_own hs, ← s.halted_port] at hown
    exact hown
  have hgone : ((s.halted p).port p).Gone ∧ ((s.halted p).port p).hand = none := by
    rw [hhalted]
    exact ⟨Port.fail_gone (s.port p) s.now, rfl⟩
  have hleft := ((s.halted p).partWork_leaveProposal p).gone p hgone.1 hgone.2
  rw [← State.failSafe_eq] at hleft
  refine ⟨((s.failSafe p).port p).recent, hleft.1.trans ?_⟩
  exact congrArg (fun q : Port => { q with recent := ((s.failSafe p).port p).recent }) hhalted

/-- The other ports keep their state and their commands. -/
theorem State.failSafe_from_alarmed (hs : s.settlings = []) (hk : k ≠ p) : ((s.alarmed p).port k).Spared ((s.failSafe p).port k) := by
  have hthawed := (State.thawed hs p).others k hk
  rw [← s.halted_port] at hthawed
  exact hthawed.trans (((s.halted p).partWork_leaveProposal p).ports (State.halted_same hs p).2.2.2 k)

theorem State.failSafe_other (hs : s.settlings = []) (hk : k ≠ p) : (s.port k).Spared ((s.failSafe p).port k) :=
  (State.alarmed_other hs hk).trans (State.failSafe_from_alarmed hs hk)

/-- The other ATTACHED ports see the failure (R159). -/
theorem State.failSafe_failed (hs : s.settlings = []) (hk : k ≠ p) (ha : s.attached k = true) : ((s.failSafe p).port k).ShowsFailed p := by
  have hattached : (s.unserved p).attached k = true := by
    rw [State.attached, (State.unserved_other hs hk).same.1]
    exact ha
  exact (State.failSafe_from_alarmed hs hk).failed (State.failFlags_failed hk hattached _)

theorem State.failSafe_orphan (hs : s.settlings = []) (hk : k ≠ p) (ha : s.attached k = true) (hn : n ∈ s.lanesToOrphan p) :
    ((s.failSafe p).port k).ShowsOrphan n := by
  have hattached : (s.unserved p).attached k = true := by
    rw [State.attached, (State.unserved_other hs hk).same.1]
    exact ha
  exact (State.failSafe_from_alarmed hs hk).orphan (State.failFlags_orphan hk hattached hn)

theorem State.failSafe_scanner (hs : s.settlings = []) (p : PortNo) : (∀ x ∈ (s.failSafe p).scanner.queue, x.port ≠ p) ∧
    (s.scanner.requester = some p → (s.failSafe p).scanner.state = .idle ∧ (s.failSafe p).scanner.requester = none) := by
  obtain ⟨hqueue, hidle⟩ := State.halted_scanner hs p
  have hslowed := ((s.halted p).partWork_leaveProposal p).scanner
  rw [← State.failSafe_eq] at hslowed
  exact ⟨fun x hx => hqueue x (hslowed.queue hx), fun hr => ⟨hslowed.idle (hidle hr).1, hslowed.requester (hidle hr).2⟩⟩

/-- The counters and holds stand, and the epoch advances when the last freeze is given up (R124). -/
theorem State.failSafe_epoch (hs : s.settlings = []) (p : PortNo) :
    (s.failSafe p).counter = s.counter ∧ (s.failSafe p).holds = s.holds ∧
    (s.HoldsLast p → (s.failSafe p).advancePending = false ∧ (s.failSafe p).epoch = countTo 4294967295 s.epoch ∧
      (s.failSafe p).startRequests = s.startRequests + 1 ∧ (¬s.LeavingApplies p → (s.failSafe p).stagedPolicy = none)) ∧
    (¬s.HoldsLast p → (s.failSafe p).advancePending = s.advancePending ∧ (s.failSafe p).epoch = s.epoch ∧
      (s.failSafe p).startRequests = s.startRequests) := by
  obtain ⟨hepoch, hcounter, hholds, hadvance, hstart, -, -⟩ := ((s.halted p).partWork_leaveProposal p).same
  obtain ⟨hcounter', hholds', hproposal', -⟩ := State.halted_same hs p
  have hthawed := State.thawed hs p
  have hframe := s.halted_frame p
  have halarmed := State.alarmed_frame hs p
  rw [← State.failSafe_eq] at hepoch hcounter hholds hadvance hstart
  refine ⟨hcounter.trans hcounter', hholds.trans hholds', fun htakes => ?_, fun hno => ?_⟩
  · obtain ⟨hpending, hraised, hrequested, hstaged, -⟩ := hthawed.taken htakes
    have hepochA : (s.alarmed p).epoch = s.epoch := by rw [halarmed]
    have hstartA : (s.alarmed p).startRequests = s.startRequests := by rw [halarmed]
    rw [hepochA] at hraised
    rw [hstartA] at hrequested
    refine ⟨hadvance.trans ?_, hepoch.trans ?_, hstart.trans ?_, fun hwait => ?_⟩
    · exact (congrArg State.advancePending hframe).trans hpending
    · exact (congrArg State.epoch hframe).trans hraised
    · exact (congrArg State.startRequests hframe).trans hrequested
    · have hleft : ¬(s.halted p).LeavingApplies p := by
        unfold State.LeavingApplies
        rw [hproposal']
        exact hwait
      rw [State.failSafe_eq, State.leaveProposal_frame hleft]
      exact (congrArg State.stagedPolicy hframe).trans hstaged
  · have hkept := hthawed.kept hno
    rw [hkept] at hframe
    refine ⟨hadvance.trans ?_, hepoch.trans ?_, hstart.trans ?_⟩
    · exact (congrArg State.advancePending hframe).trans (by rw [State.modPort_advancePending, halarmed])
    · exact (congrArg State.epoch hframe).trans (by rw [State.modPort_epoch, halarmed])
    · exact (congrArg State.startRequests hframe).trans (by rw [State.modPort_startRequests, halarmed])

/-- What becomes of the open proposal (R150). -/
theorem State.failSafe_proposal (hs : s.settlings = []) (p : PortNo) : (s.proposal = none → (s.failSafe p).proposal = none) ∧
    ∀ q, s.proposal = some q →
      (q.proposer = p → (s.failSafe p).proposal = none ∧ (s.failSafe p).lastEnded = some { body := q.body, outcome := .withdrawn }) ∧
      (q.proposer ≠ p → p ∉ q.required → (s.failSafe p).proposal = some q) ∧
      (q.proposer ≠ p → p ∈ q.required → ¬q.LastIs p → (s.failSafe p).proposal = some (q.without p)) ∧
      (q.proposer ≠ p → p ∈ q.required → q.LastIs p → (s.failSafe p).proposal = none ∧
        (¬s.HoldsLast p ∨ s.stagedPolicy = none → (s.failSafe p).lastEnded = some
          { body := q.body, outcome := if q.body = .serviceStart ∧ s.device ≠ .rebuild then .voided else .applied })) := by
  obtain ⟨-, -, hproposal, -⟩ := State.halted_same hs p
  obtain ⟨hnone, hsome⟩ := (s.halted p).leaveProposal_proposal p
  rw [← State.failSafe_eq] at hnone hsome
  refine ⟨fun hq => hnone (hproposal.trans hq), fun q hq => ?_⟩
  obtain ⟨hown, hnot, hwait, hlast⟩ := hsome q (hproposal.trans hq)
  refine ⟨hown, hnot, hwait, fun hp hr hl => ⟨(hlast hp hr hl).1, fun hstays => ?_⟩⟩
  have hdevice : (s.halted p).device = s.device := by
    have halarmed : (s.alarmed p).device = s.device := by rw [State.alarmed_frame hs]
    have hstaged : (s.alarmed p).stagedPolicy = s.stagedPolicy := by rw [State.alarmed_frame hs]
    have hthawed := State.thawed hs p
    rw [s.halted_frame p]
    by_cases htakes : s.HoldsLast p
    · obtain ⟨-, -, -, -, hkept⟩ := hthawed.taken htakes
      exact (hkept (hstaged.trans (hstays.resolve_left (not_not.mpr htakes)))).trans halarmed
    · exact (congrArg State.device (hthawed.kept htakes)).trans halarmed
  rw [(hlast hp hr hl).2, hdevice]

/-- An unattached port takes no flag. -/
theorem State.setFlags_unattached (ps : List PortNo) (f : Flag) (c : Carry) : ∀ s : State, s.attached k = false →
    (s.setFlags ps f c).port k = s.port k := by
  induction ps with
  | nil => exact fun _ _ => rfl
  | cons q ps ih =>
    intro s ha
    have hone : (s.setFlag q f c).port k = s.port k := by
      by_cases hq : k = q
      · rw [hq] at ha ⊢
        rw [State.setFlag_unattached f c ha]
      · exact State.setFlag_port_ne f c hq
    have hattached : (s.setFlag q f c).attached k = false := ((s.laneWork_setFlag q f c).attached k).trans ha
    exact (ih _ hattached).trans hone

theorem State.leaveProposal_unattached (h : ¬s.LeavingApplies p) (ha : s.attached p = false) : (s.leaveProposal p).port p = s.port p := by
  cases hq : s.proposal with
  | none => rw [State.leaveProposal_of_none hq]
  | some q =>
    by_cases hp : q.proposer = p
    · rw [State.leaveProposal_of_own hq hp, State.endProposal_eq hq]
      exact State.setFlags_unattached _ _ _ _ ha
    · by_cases hr : p ∈ q.required
      · rw [State.leaveProposal_of_required hq hp hr fun hlast => h ⟨q, hq, hp, hr, hlast⟩]
        rfl
      · rw [State.leaveProposal_of_not_required hq hp hr]

/-- A fail-safe entry that takes no advance and lets no proposal apply changes lanes, ports, the scanner's queue and consent. -/
theorem State.failSafe_frame (hs : s.settlings = []) (htakes : ¬s.HoldsLast p) (happlies : ¬s.LeavingApplies p) :
    s.failSafe p = { s with
      ports := (s.failSafe p).ports, memory := (s.failSafe p).memory, lanes := (s.unserved p).lanes
      orphanTimers := (s.unserved p).orphanTimers, table := (s.unserved p).table, turns := (s.unserved p).turns
      slots := (s.unserved p).slots, discarded := (s.unserved p).discarded, strayReleases := (s.strayHand p).strayReleases
      scanner := (s.failSafe p).scanner, proposal := (s.failSafe p).proposal, lastEnded := (s.failSafe p).lastEnded } := by
  have hleft : ¬(s.halted p).LeavingApplies p := by
    unfold State.LeavingApplies
    rw [(State.halted_same hs p).2.2.1]
    exact happlies
  have hleave := State.leaveProposal_frame hleft
  rw [← State.failSafe_eq] at hleave
  obtain ⟨scanner, hhalted⟩ : ∃ scanner, s.halted p =
      { (s.alarmed p).modPort p fun q => { q with freeze := false } with scanner := scanner } := by
    have hframe := s.halted_frame p
    rw [(State.thawed hs p).kept htakes] at hframe
    exact ⟨_, hframe⟩
  obtain ⟨ports, memory, halarmed⟩ : ∃ ports memory, s.alarmed p = { s with
      ports := ports, memory := memory, lanes := (s.unserved p).lanes
      orphanTimers := (s.unserved p).orphanTimers, table := (s.unserved p).table, turns := (s.unserved p).turns
      slots := (s.unserved p).slots, discarded := (s.unserved p).discarded, strayReleases := (s.strayHand p).strayReleases
      scanner := { s.scanner with queue := s.scanner.queue.filter fun x => decide (x.port ≠ p) } } := ⟨_, _, State.alarmed_frame hs p⟩
  rw [halarmed] at hhalted
  obtain ⟨ports', memory', proposal, ended, ht⟩ : ∃ ports memory proposal ended, s.failSafe p = { s.halted p with
    ports := ports, memory := memory, proposal := proposal, lastEnded := ended } := ⟨_, _, _, _, hleave⟩
  rw [hhalted] at ht
  rw [ht]
  generalize s.unserved p = u
  generalize s.strayHand p = v
  rfl

/-- The failed port keeps its recently-withdrawn list, where nothing else goes on. -/
theorem State.failSafe_recent (hs : s.settlings = []) (htakes : ¬s.HoldsLast p) (happlies : ¬s.LeavingApplies p) :
    ((s.failSafe p).port p).recent = (s.port p).recent := by
  have hleft : ¬(s.halted p).LeavingApplies p := by
    unfold State.LeavingApplies
    rw [(State.halted_same hs p).2.2.1]
    exact happlies
  have hport : (s.halted p).port p = { (s.port p).fail s.now with freeze := false } := by
    rw [s.halted_port, (State.thawed hs p).kept htakes, State.port_modPort, State.alarmed_own hs]
  have hattached : (s.halted p).attached p = false := by
    rw [State.attached, hport]
    rfl
  rw [State.failSafe_eq, State.leaveProposal_unattached hleft hattached, hport]
  rfl

/-! ### The events (R156, R157) -/

/-- The state in which a port's failure is taken: errors of the accesses, and for a failed ring write the record it loses. -/
def State.Struck (s e : State) (errs : List DramError) : Prop :=
  e = { s with damage := s.damage ++ errs, memory := e.memory, discarded := e.discarded }

theorem exec_linkReset_of_attached (ha : s.attached p = true) (errs : List DramError) :
    exec (.linkReset p errs) s = .next ((s.arise errs).failSafe p) := by
  have hreset : (s.arise errs).linkReset p = (s.arise errs).failSafe p := if_pos ha
  rw [← hreset]
  rfl

theorem exec_dmaFailure (p : PortNo) (a : DmaAccess) (errs : List DramError) (s : State) :
    exec (.dmaFailure p a errs) s = execDmaFailure p a errs s := rfl

theorem exec_watchdogExpiry (p : PortNo) (errs : List DramError) (s : State) :
    exec (.watchdogExpiry p errs) s = execWatchdogExpiry p errs s := rfl

theorem State.loseRecord_frame (s : State) (p : PortNo) :
    s.loseRecord p = { s with memory := (s.loseRecord p).memory, discarded := (s.loseRecord p).discarded } := by
  unfold State.loseRecord
  split
  · rfl
  · dsimp only
    split <;> rfl

/-- Each failure of an ATTACHED port is a fail-safe entry. -/
theorem exec_portFailure {c : Instr} (ha : s.attached p = true)
    (hc : c = .linkReset p errs ∨ c = .dmaFailure p .extentRead errs ∨ c = .dmaFailure p .ringWrite errs ∨
      c = .watchdogExpiry p errs ∧ (s.port p).watchdog = some 0) :
    ∃ memory discarded, exec c s =
        .next (State.failSafe { s with damage := s.damage ++ errs, memory := memory, discarded := discarded } p) ∧
      (c ≠ .dmaFailure p .ringWrite errs → discarded = s.discarded) := by
  have hreset : (s.arise errs).linkReset p = (s.arise errs).failSafe p := if_pos ha
  rcases hc with rfl | rfl | rfl | ⟨rfl, hw⟩
  · exact ⟨s.memory, s.discarded, congrArg _ hreset, fun _ => rfl⟩
  · exact ⟨s.memory, s.discarded, congrArg _ hreset, fun _ => rfl⟩
  · have hlose := (s.arise errs).loseRecord_frame p
    have hattached : ((s.arise errs).loseRecord p).attached p = true := by rw [hlose]; exact ha
    refine ⟨((s.arise errs).loseRecord p).memory, ((s.arise errs).loseRecord p).discarded, ?_, fun h => absurd rfl h⟩
    have hreset' : ((s.arise errs).loseRecord p).linkReset p = ((s.arise errs).loseRecord p).failSafe p := if_pos hattached
    have hexec : exec (.dmaFailure p .ringWrite errs) s = .next (((s.arise errs).loseRecord p).linkReset p) := by
      rw [exec_dmaFailure, execDmaFailure]
      exact congrArg (fun e : State => Host.Outcome.next (e.linkReset p)) (if_pos ha)
    rw [hexec, hreset']
    exact congrArg (fun e : State => Host.Outcome.next (e.failSafe p)) hlose
  · refine ⟨s.memory, s.discarded, ?_, fun _ => rfl⟩
    rw [exec_watchdogExpiry, execWatchdogExpiry, ha, hw]
    rfl

/-! ### The obligations -/

theorem State.mem_lanesToOrphan (ho : (s.lane n).owner = some p) (hs : (s.lane n).state.serves = true) (ha : (s.lane n).action = .suspend) :
    n ∈ s.lanesToOrphan p := by
  refine List.mem_filter.mpr ⟨List.mem_finRange n, ?_⟩
  dsimp only
  rw [ho, ha]
  rcases LaneState.serves_cases hs with h | h | h <;> rw [h] <;> simp

/-- Settles O53: the failing port's lanes change one by one, and the orphaned one changes by its own record alone. -/
theorem orphanedLaneKeepsItsStream : Obligations.OrphanedLaneKeepsItsStream := by
  intro s p n errs c ha hc hs hproposal hpending ho hserves hsuspend
  obtain ⟨memory, discarded, hexec, -⟩ := exec_portFailure (c := c) (errs := errs) ha (by
    rcases hc with h | h | h
    · exact .inl h
    · exact .inr (.inl h)
    · exact .inr (.inr (.inr h)))
  generalize he : ({ s with damage := s.damage ++ errs, memory := memory, discarded := discarded } : State) = e at hexec
  have hse : e.settlings = [] := by rw [← he]; exact hs
  have hlane (m : LaneNo) : e.lane m = s.lane m := by rw [← he]; rfl
  have htakes : ¬e.HoldsLast p := fun h => Bool.false_ne_true (hpending.symm.trans (by rw [← h.2.2, ← he]))
  have happlies : ¬e.LeavingApplies p := fun ⟨q, hq, _⟩ => Option.some_ne_none q (hq.symm.trans (by rw [← he]; exact hproposal))
  have hframe := State.failSafe_frame hse htakes happlies
  obtain ⟨horphan, htimer⟩ := State.unserved_suspends (n := n) (p := p) hse (by rw [hlane]; exact ho) (by rw [hlane]; exact hserves)
    (by rw [hlane]; exact hsuspend)
  have hlanes (m : LaneNo) : (e.failSafe p).lane m = (e.unserved p).lane m := by
    have hall : (e.failSafe p).lanes = (e.unserved p).lanes := by rw [hframe]
    rw [State.lane, State.lane, hall]
  have htimers : (e.failSafe p).orphanTimers = (e.unserved p).orphanTimers := by rw [hframe]
  refine ⟨e.failSafe p, hexec, ?_, ?_, fun m hm => ?_, fun q hq hattached => ?_⟩
  · rw [hlanes, horphan, hlane, Lane.orphan, ho]
  · rw [htimers, htimer, ← he]
  · obtain ⟨hkept, hstood⟩ := State.unserved_others (m := m) (p := p) hse (by rw [hlane]; exact hm)
    rw [hlanes, htimers, hkept, hstood, hlane, ← he]
    exact ⟨rfl, rfl⟩
  · have hmem : n ∈ e.lanesToOrphan p := State.mem_lanesToOrphan (by rw [hlane]; exact ho) (by rw [hlane]; exact hserves)
      (by rw [hlane]; exact hsuspend)
    exact State.failSafe_orphan hse hq (by rw [← he]; exact hattached) hmem

/-- A failed port with nothing in hand, no notices and no ATTENTION record held has no record of its own to discard. -/
theorem Port.waitingRecords_eq_zero {q : Port} (hh : q.hand = none) (hn : q.notices = []) (ha : q.attnHeld = false) : q.waitingRecords = 0 := by
  rw [Port.waitingRecords, hh, hn, ha]
  rfl

/-- Settles O52: the port unit is halted, then the alarm, the lanes, the held advance and the proposal follow in turn. -/
theorem portFailureEntersFailSafe : Obligations.PortFailureEntersFailSafe := by
  intro s p errs c takes applies ha hc hs htakes happlies
  obtain ⟨memory, discarded, hexec, hdiscarded⟩ := exec_portFailure (c := c) (errs := errs) ha hc
  generalize he : ({ s with damage := s.damage ++ errs, memory := memory, discarded := discarded } : State) = e at hexec
  have hse : e.settlings = [] := by rw [← he]; exact hs
  have hlane (m : LaneNo) : e.lane m = s.lane m := by rw [← he]; rfl
  have hport (q : PortNo) : e.port q = s.port q := by rw [← he]; rfl
  have hattached (q : PortNo) : e.attached q = s.attached q := by rw [← he]; rfl
  have hscannerE : e.scanner = s.scanner := by rw [← he]
  have hproposalE : e.proposal = s.proposal := by rw [← he]
  have hdiscardedE : e.discarded = discarded := by rw [← he]
  have htakes' : takes ↔ e.HoldsLast p := by rw [htakes, ← he]; exact Iff.rfl
  have happlies' : applies ↔ e.LeavingApplies p := by rw [happlies, ← he]; exact Iff.rfl
  obtain ⟨recent, hown⟩ := State.failSafe_own hse p
  obtain ⟨hqueue, hidle⟩ := State.failSafe_scanner hse p
  obtain ⟨hcounter, hholds, hadvances, hstays⟩ := State.failSafe_epoch hse p
  obtain ⟨hnone, hsome⟩ := State.failSafe_proposal hse p
  refine ⟨e.failSafe p, hexec, ?_, ?_, ?_, ?_, ?_, ?_, ?_, ?_, ?_, ?_, hqueue, ?_, fun q hq hatt => ?_, ?_, ?_, fun h => ?_, fun h => ?_, ?_,
    fun q hq => ?_, fun hno hwait => ?_⟩
  · rw [hown]; rfl
  · rw [hown]; rfl
  · rw [hown, ← he]; rfl
  · rw [hown]; rfl
  · rw [hown]; rfl
  · rw [hown]; rfl
  · rw [hown]; rfl
  · rw [hown]; rfl
  · rw [hown]; rfl
  · rw [hown]
  · rw [hscannerE] at hidle
    exact hidle
  · have hspared := State.failSafe_other (p := p) hse hq
    obtain ⟨hmark, hpeer⟩ := State.failSafe_failed hse hq ((hattached q).trans hatt)
    rw [hport] at hspared
    obtain ⟨hstate, hqueue', hhand, -⟩ := hspared.same
    exact ⟨by rw [State.attached, hstate]; exact hatt, hmark, hpeer, hqueue', hhand⟩
  · rw [hcounter, ← he]
  · rw [hholds, ← he]
  · obtain ⟨hpending, hepoch, hstart, hstaged⟩ := hadvances (htakes'.mp h)
    refine ⟨hpending, ?_, ?_, fun hno => hstaged (mt happlies'.mpr hno)⟩
    · rw [hepoch, ← he]; rfl
    · rw [hstart, ← he]
  · obtain ⟨hpending, hepoch, hstart⟩ := hstays (mt htakes'.mpr h)
    refine ⟨?_, ?_, ?_⟩
    · rw [hpending, ← he]
    · rw [hepoch, ← he]
    · rw [hstart, ← he]
  · exact fun hq => hnone (hproposalE.trans hq)
  · obtain ⟨hproposer, hnot, hkept, hlast⟩ := hsome q (hproposalE.trans hq)
    have hopen (h : applies) : q.proposer ≠ p ∧ p ∈ q.required ∧ q.LastIs p := by
      obtain ⟨q', hq', hp', hr', hl'⟩ := happlies.mp h
      obtain rfl : q = q' := Option.some.inj (hq.symm.trans hq')
      exact ⟨hp', hr', hl'⟩
    refine ⟨hproposer, hnot, fun hp hr hno => hkept hp hr fun hl => hno (happlies.mpr ⟨q, hq, hp, hr, hl⟩), fun h => ?_, fun h hstaged => ?_⟩
    · obtain ⟨hp, hr, hl⟩ := hopen h
      exact (hlast hp hr hl).1
    · obtain ⟨hp, hr, hl⟩ := hopen h
      have hended := (hlast hp hr hl).2 (hstaged.imp (mt htakes'.mpr) fun hst => by rw [← he]; exact hst)
      rw [hended, ← he]
  · have hno' : ¬e.HoldsLast p := mt htakes'.mpr hno
    have hwait' : ¬e.LeavingApplies p := mt happlies'.mpr hwait
    have hframe := State.failSafe_frame hse hno' hwait'
    have hlanes (m : LaneNo) : (e.failSafe p).lane m = (e.unserved p).lane m := by
      have hall : (e.failSafe p).lanes = (e.unserved p).lanes := by rw [hframe]
      rw [State.lane, State.lane, hall]
    have hcount : (e.failSafe p).discarded = (e.unserved p).discarded := by rw [hframe]
    refine ⟨fun n ho hserves => ⟨fun hact => ?_, fun hact => ?_⟩, ?_, ?_, ?_, ?_, fun hfree hne => ?_, fun n hn hserves hact hu hne hh hnotices hattn hrec => ?_⟩
    · rw [hlanes, (State.unserved_suspends (n := n) (p := p) hse (by rw [hlane]; exact ho) (by rw [hlane]; exact hserves)
        (by rw [hlane]; exact hact)).1]
      rfl
    · rw [hlanes]
      exact State.unserved_abandons hse (by rw [hlane]; exact ho) (by rw [hlane]; exact hserves) (by rw [hlane]; exact hact)
    · rw [State.failSafe_recent hse hno' hwait', hport]
    · rw [hframe, ← he]
    · rw [hframe, ← he]
    · rw [hframe, ← he]
    · have hall : ∀ n, (e.lane n).owner = some p → (e.lane n).state = .free := fun n => by rw [hlane]; exact hfree n
      rw [hcount, State.unserved_discarded_of_free hse hall, hdiscardedE, hdiscarded hne, hscannerE, hport, Port.waitingRecords]
      rw [← Nat.add_assoc, ← Nat.add_assoc]
      rfl
    · rw [hcount, State.unserved_discarded_of_single (n := n) hse (fun m => by rw [hlane]; exact hn m) (by rw [hlane]; exact hserves)
        (by rw [hlane]; exact hact) (by rw [hlane]; exact hu), hdiscardedE, hdiscarded hne, hscannerE, hport,
        Port.waitingRecords_eq_zero hh hnotices hattn, List.filter_eq_nil_iff.mpr fun x hx => by simpa using hrec x hx, hlane, List.length_nil,
        Nat.add_zero, ← Nat.add_assoc]
      rfl

end Sys2Proof.Machine

/-! PROOFS. Reads of a bucket that meet errors (R188, R189; O26). -/

namespace Sys2Proof.Machine

open Sys2Proof

variable {s t : State} {p : PortNo} {r : CommandRecord} {b : Nat} {errs : List DramError}

/-! ### A read and what it finds -/

/-- An operation that reads bucket `b`: `bad` where the bucket is poisoned, and what it finds in the state after the read otherwise. -/
structure BucketRead {α : Type} (find : State → α × State) (bad : α) (b : Nat) : Prop where
  poisoned : ∀ e t : State, e.readBucket b = (true, t) → find e = (bad, t)
  clean : ∀ e t : State, e.readBucket b = (false, t) → t.readBucket b = (false, t) → find e = find t

/-- What a QUERY or an INSERT finds, its state apart. -/
def answerOf (found : Outcome × List Field × State) : (Outcome × List Field) × State := ((found.1, found.2.1), found.2.2)

theorem bucketRead_queryFingerprint (fp : List Byte) :
    BucketRead (fun e => answerOf (e.queryFingerprint fp)) (.poisoned, []) (bucketOf fp) where
  poisoned e t h := by simp only [State.queryFingerprint, h, answerOf]
  clean e t h h' := by simp only [State.queryFingerprint, h, h']

theorem bucketRead_queryId (id : Nat) : BucketRead (fun e => answerOf (e.queryId id)) (.poisoned, []) (id / 262144) where
  poisoned e t h := by
    have h : e.readBucket (decodeId id).bucket = (true, t) := h
    simp only [State.queryId, h, answerOf]
  clean e t h h' := by
    have h : e.readBucket (decodeId id).bucket = (false, t) := h
    have h' : t.readBucket (decodeId id).bucket = (false, t) := h'
    simp only [State.queryId, h, h']

theorem bucketRead_insertAt (r : CommandRecord) :
    BucketRead (fun e => answerOf (e.insertAt r)) (.poisoned, []) (bucketOf (recFingerprint r)) where
  poisoned e t h := by simp only [State.insertAt, h, answerOf]
  clean e t h h' := by simp only [State.insertAt, h, h']

theorem bucketRead_decrement (id : Nat) : BucketRead (fun e => e.decrement id) .poisoned (id / 262144) where
  poisoned e t h := by
    have h : e.readBucket (decodeId id).bucket = (true, t) := h
    simp only [State.decrement, h]
  clean e t h h' := by
    have h : e.readBucket (decodeId id).bucket = (false, t) := h
    have h' : t.readBucket (decodeId id).bucket = (false, t) := h'
    simp only [State.decrement, h, h']

theorem State.passCheck_congr {u v : State} (h : u.poisonCount = v.poisonCount) : t.passCheck u = t.passCheck v := by
  unfold State.passCheck
  rw [h]

/-- The state in which a command reads: the errors that arise have arisen, and an INSERT has raised the container counter. -/
def State.reading (s : State) (units : Vector Port 4) (up : Nat → Nat) (errs : List DramError) : State :=
  { s with ports := units, damage := s.damage ++ errs, counter := up s.counter }

/-- The command `c` reads bucket `b` and goes on with what it finds, in `s` and wherever other errors stand. -/
structure State.ReadBy (s : State) (c : List DramError → Instr) (b : Nat) (units : Vector Port 4) (up : Nat → Nat) {α : Type}
    (find : State → α × State) (bad : α) (finish : α → State → State) : Prop where
  read : BucketRead find bad b
  exec : ∀ (correctable : Nat) (damage errs : List DramError) (e : State),
    e = State.reading { s with correctable := correctable, damage := damage } units up errs →
    exec (c errs) { s with correctable := correctable, damage := damage } = .next (finish (find e).1 ((find e).2.passCheck e))

section Read

variable {c : List DramError → Instr} {units : Vector Port 4} {up : Nat → Nat} {α : Type} {find : State → α × State} {bad : α}
  {finish : α → State → State}

theorem State.ReadBy.exec_self (h : s.ReadBy c b units up find bad finish) (errs : List DramError) :
    Machine.exec (c errs) s = .next (finish (find (s.reading units up errs)).1
      ((find (s.reading units up errs)).2.passCheck (s.reading units up errs))) :=
  h.exec s.correctable s.damage errs _ rfl

/-- A single-bit error is corrected and counted, and the command goes on as without it (R188). -/
theorem State.ReadBy.corrects (h : s.ReadBy c b units up find bad finish) (hb : b ∉ s.poisonList)
    (hnot : { place := .bucket b, error := .uncorrectable } ∉ s.damage ++ errs)
    (hsingle : { place := .bucket b, error := .single } ∈ s.damage ++ errs) :
    Machine.exec (c errs) s = Machine.exec (c []) { s with
      correctable := if s.correctable < 4294967295 then s.correctable + 1 else 4294967295
      damage := (s.damage ++ errs).filter fun d => decide (d ≠ { place := .bucket b, error := .single }) } := by
  generalize hd : ((s.damage ++ errs).filter fun d => decide (d ≠ { place := .bucket b, error := .single })) = damage
  generalize hk : (if s.correctable < 4294967295 then s.correctable + 1 else 4294967295) = correctable
  have hfilter : ((s.damage ++ errs).filter fun d => !(decide (d.place = .bucket b) && decide (d.error = .single))) = damage := by
    rw [← hd]
    refine List.filter_congr fun d _ => ?_
    obtain ⟨place, error⟩ := d
    rw [Bool.eq_iff_iff]
    simp [DramError.mk.injEq]
  have hread : (s.reading units up errs).readBucket b =
      (false, State.reading { s with correctable := correctable, damage := damage } units up []) := by
    have hun : (s.reading units up errs).hasError (.bucket b) .uncorrectable = false := by
      rw [← Bool.not_eq_true, State.hasError_iff]
      exact hnot
    have hone : (s.reading units up errs).hasError (.bucket b) .single = true := State.hasError_iff.mpr hsingle
    unfold State.readBucket
    rw [if_neg (by exact hb), hun, hone]
    dsimp only [State.correct, State.reading]
    rw [hfilter, List.append_nil, ← hk]
    rfl
  have hclean : (State.reading { s with correctable := correctable, damage := damage } units up []).readBucket b =
      (false, State.reading { s with correctable := correctable, damage := damage } units up []) := by
    have hstands {x : DramError} (hx : x ∈ damage ++ []) : x ∈ s.damage ++ errs ∧ x ≠ { place := .bucket b, error := .single } := by
      rw [List.append_nil, ← hd] at hx
      obtain ⟨hmem, hne⟩ := List.mem_filter.mp hx
      exact ⟨hmem, of_decide_eq_true hne⟩
    refine State.readBucket_clean (by exact hb) fun x hx hplace => ?_
    obtain ⟨hmem, hne⟩ := hstands hx
    obtain ⟨place, error⟩ := x
    cases error with
    | single => exact hne (by rw [← show place = .bucket b from hplace])
    | uncorrectable => exact hnot (by rw [← show place = .bucket b from hplace]; exact hmem)
  rw [h.exec_self, h.exec correctable damage [] _ rfl, h.read.clean _ _ hread hclean, State.passCheck_congr (u := s.reading units up errs)]
  rfl

/-- The read of a bucket with an uncorrectable error poisons it (R189). -/
theorem State.ReadBy.poisons (h : s.ReadBy c b units up find bad finish) (hb : b ∉ s.poisonList)
    (hbad : { place := .bucket b, error := .uncorrectable } ∈ s.damage ++ errs) :
    Machine.exec (c errs) s = .next (finish bad (((s.reading units up errs).poison b).passCheck (s.reading units up errs))) := by
  have hread : (s.reading units up errs).readBucket b = (true, (s.reading units up errs).poison b) := by
    have hun : (s.reading units up errs).hasError (.bucket b) .uncorrectable = true := State.hasError_iff.mpr hbad
    unfold State.readBucket
    rw [if_neg (by exact hb), hun]
    rfl
  rw [h.exec_self, h.read.poisoned _ _ hread]

/-- The device is in PASSTHROUGH with its table empty and its scanner idle, and has given up nothing else (R191). -/
structure State.PassedFrom (v t : State) : Prop where
  device : t.device = .passthrough
  table : t.table = []
  idle : t.scanner.state = .idle
  requester : t.scanner.requester = none
  poisonCount : v.poisonCount ≤ 4294967295 → v.poisonCount ≤ t.poisonCount
  epoch : t.epoch = v.epoch
  counter : t.counter = v.counter

theorem State.passedFrom_enterPassthrough (v : State) : v.PassedFrom v.enterPassthrough := by
  have hwork := v.laneWork_enterPassthrough
  have htable := v.enterPassthrough_table
  have hcount : v.passing.poisonCount = v.poisonCount := rfl
  have hepoch : v.passing.epoch = v.epoch := rfl
  have hcounter : v.passing.counter = v.counter := rfl
  have hdevice : v.passing.device = .passthrough := rfl
  have hidle : v.passing.scanner.state = .idle := rfl
  have hrequester : v.passing.scanner.requester = none := rfl
  generalize v.passing = u at *
  generalize v.enterPassthrough = t at *
  have hpoison := hwork.poison
  have hframe := hwork.frame
  refine ⟨?_, htable, ?_, ?_, fun _ => by omega, ?_, ?_⟩
  all_goals rw [hframe]
  · exact hdevice
  · exact hidle
  · exact hrequester
  · exact hepoch
  · exact hcounter

theorem State.PassedFrom.of_written {v t : State} (h : v.PassedFrom t) {ports : Vector Port 4}
    {memory : Vector (List (Nat × List Byte)) 4} {discarded : Nat} :
    v.PassedFrom { t with ports := ports, memory := memory, discarded := discarded } :=
  ⟨h.device, h.table, h.idle, h.requester, h.poisonCount, h.epoch, h.counter⟩

/-- The poisoning that brings the count to the threshold brings PASSTHROUGH (R189, R191). -/
theorem State.passedFrom_poison (e : State) (b : Nat) (hd : e.device ≠ .passthrough) (hth : e.policy.threshold ≤ e.poisonCount + 1)
    (hcount : e.poisonCount < 4294967295) :
    ∃ v : State, v.poisonCount = e.poisonCount + 1 ∧ v.epoch = e.epoch ∧ v.counter = e.counter ∧
      v.PassedFrom ((e.poison b).passCheck e) := by
  have hcounted : (e.struck b).poisonCount = e.poisonCount + 1 := if_pos hcount
  have hpolicy : (e.struck b).policy = e.policy := rfl
  have hdevice : (e.struck b).device = e.device := rfl
  have hepoch : (e.struck b).epoch = e.epoch := rfl
  have hcounter : (e.struck b).counter = e.counter := rfl
  have hframe := (e.struck b).setFlagAll_frame .poison .none
  rw [State.poison_eq]
  generalize e.struck b = u at *
  generalize u.setFlagAll .poison .none = v at *
  have hsame : v.poisonCount = u.poisonCount ∧ v.policy = u.policy ∧ v.device = u.device ∧ v.epoch = u.epoch ∧
      v.counter = u.counter := by
    obtain ⟨ports, memory, hv⟩ : ∃ ports memory, v = { u with ports := ports, memory := memory } := ⟨_, _, hframe⟩
    rw [hv]
    exact ⟨rfl, rfl, rfl, rfl, rfl⟩
  obtain ⟨hvcount, hvpolicy, hvdevice, hvepoch, hvcounter⟩ := hsame
  have hvcount := hvcount.trans hcounted
  have hpass : v.passCheck e = v.enterPassthrough := by
    refine if_pos ⟨by omega, ?_, ?_⟩
    · rw [hvpolicy, hpolicy, hvcount]
      exact hth
    · rw [hvdevice, hdevice]
      exact hd
  rw [hpass]
  exact ⟨v, hvcount, hvepoch.trans hepoch, hvcounter.trans hcounter, v.passedFrom_enterPassthrough⟩

theorem State.ReadBy.passes (h : s.ReadBy c b units up find bad finish) (hb : b ∉ s.poisonList)
    (hbad : { place := .bucket b, error := .uncorrectable } ∈ s.damage ++ errs) (hd : s.device ≠ .passthrough)
    (hth : s.policy.threshold ≤ s.poisonCount + 1) (hcount : s.poisonCount < 4294967295)
    (hfinish : ∀ v, ∃ ports memory discarded, finish bad v = { v with ports := ports, memory := memory, discarded := discarded }) :
    ∃ t, Machine.exec (c errs) s = .next t ∧ t.device = .passthrough ∧ t.table = [] ∧ t.scanner.state = .idle ∧
      t.scanner.requester = none ∧ s.poisonCount + 1 ≤ t.poisonCount ∧ t.epoch = s.epoch ∧ t.counter = up s.counter := by
  have hexec := h.poisons hb hbad
  obtain ⟨v, hvcount, hvepoch, hvcounter, hpassed⟩ :=
    (s.reading units up errs).passedFrom_poison b (by exact hd) (by exact hth) (by exact hcount)
  generalize ((s.reading units up errs).poison b).passCheck (s.reading units up errs) = w at *
  obtain ⟨ports, memory, discarded, hend⟩ := hfinish w
  have hpassed := hpassed.of_written (ports := ports) (memory := memory) (discarded := discarded)
  rw [← hend] at hpassed
  have hvcount : v.poisonCount = s.poisonCount + 1 := hvcount
  refine ⟨_, hexec, hpassed.device, hpassed.table, hpassed.idle, hpassed.requester, ?_, hpassed.epoch.trans hvepoch,
    hpassed.counter.trans hvcounter⟩
  rw [← hvcount]
  exact hpassed.poisonCount (by omega)

/-- A poisoning below the threshold strikes the bucket's slots and sets POISON at every port (R189). -/
theorem State.ReadBy.strikes (h : s.ReadBy c b units up find bad finish) (hb : b ∉ s.poisonList)
    (hbad : { place := .bucket b, error := .uncorrectable } ∈ s.damage ++ errs)
    (hth : s.poisonCount + 1 < s.policy.threshold) (hmax : s.policy.threshold ≤ 64) (ha : (s.reading units up errs).Alert) :
    Machine.exec (c errs) s = .next (finish bad (((s.reading units up errs).struck b).flaggedAt (fun _ => true) .poison .none)) := by
  rw [h.poisons hb hbad, State.poison_eq, State.setFlagAll_loud _ _ (by exact ha)]
  have hcount : (((s.reading units up errs).struck b).flaggedAt (fun _ => true) .poison .none).poisonCount = s.poisonCount + 1 :=
    if_pos (show s.poisonCount < 4294967295 by omega)
  have hpolicy : (((s.reading units up errs).struck b).flaggedAt (fun _ => true) .poison .none).policy = s.policy := rfl
  generalize ((s.reading units up errs).struck b).flaggedAt (fun _ => true) .poison .none = v at *
  unfold State.passCheck
  rw [if_neg]
  rintro ⟨-, hreached, -⟩
  rw [hpolicy] at hreached
  omega

end Read

/-- The bucket on the poison list and its slots struck, the ports' flags apart (R189). -/
def State.struckAt (s : State) (b counter : Nat) (errs : List DramError) : State :=
  { s with
    damage := s.damage ++ errs, poisonList := s.poisonList ++ [b], poisonCount := s.poisonCount + 1, counter := counter
    table := s.table.map fun k => { k with members := k.members.filter fun m => decide (m.bucket ≠ b) } }

theorem State.struck_reading (hb : b ∉ s.poisonList) (hlen : s.poisonList.length < 64) (hcount : s.poisonCount < 4294967295)
    (units : Vector Port 4) (up : Nat → Nat) (errs : List DramError) :
    (s.reading units up errs).struck b = { s.struckAt b (up s.counter) errs with ports := units } := by
  have hlist : (if b ∉ s.poisonList ∧ s.poisonList.length < 64 then s.poisonList ++ [b] else s.poisonList) = s.poisonList ++ [b] :=
    if_pos ⟨hb, hlen⟩
  have hcounted : countTo 4294967295 s.poisonCount = s.poisonCount + 1 := if_pos hcount
  unfold State.struck State.reading
  dsimp only
  rw [hlist, hcounted]
  rfl

/-! ### The commands that read (R23, R20, R114) -/

theorem readBy_queryByFingerprint (h : s.Takes p r 0x0E) (hk : byteAt r 4 = 0) :
    s.ReadBy (.queryByFingerprint p) (bucketOf (recFingerprint r)) (s.popQueue p).ports id
      (fun e => answerOf (e.queryFingerprint (recFingerprint r))) (.poisoned, []) fun a v => v.reply p r a.1 a.2 where
  read := bucketRead_queryFingerprint _
  exec correctable damage errs e he := by
    rw [exec_queryByFingerprint_of_takes (s := { s with correctable := correctable, damage := damage }) h errs hk, he]
    rfl

theorem readBy_queryByChunkId (h : s.Takes p r 0x0E) (hk : byteAt r 4 = 1) :
    s.ReadBy (.queryByChunkId p) (recChunkId r / 262144) (s.popQueue p).ports id
      (fun e => answerOf (e.queryId (recChunkId r))) (.poisoned, []) fun a v => v.reply p r a.1 a.2 where
  read := bucketRead_queryId _
  exec correctable damage errs e he := by
    rw [exec_queryByChunkId_of_takes (s := { s with correctable := correctable, damage := damage }) h errs hk, he]
    rfl

theorem readBy_insert (h : s.Takes p r 0x0D) (hd : s.device ≠ .passthrough) (hr : InsertParams r) :
    s.ReadBy (.insert p) (bucketOf (recFingerprint r)) (s.popQueue p).ports (fun k => max k (numAt r 8 4 + 1))
      (fun e => answerOf (e.insertAt r)) (.poisoned, []) fun a v => v.reply p r a.1 a.2 where
  read := bucketRead_insertAt r
  exec correctable damage errs e he := by
    rw [exec_insert_of_passing (s := { s with correctable := correctable, damage := damage }) h errs hd hr
      (o := (e.insertAt r).1) (fs := (e.insertAt r).2.1) (t := (e.insertAt r).2.2) (by rw [he]; rfl), he]
    rfl

/-- What a decrement's result does to the RELEASE in hand (R114). -/
def decremented (p : PortNo) (w : ReleaseWork) (rest : List Nat) (res : DecResult) (v : State) : State :=
  if rest = [] then v.complete p (ReleaseWork.completion { w with ids := rest, results := w.results ++ [res] })
  else v.modPort p fun q => { q with hand := some (.release { w with ids := rest, results := w.results ++ [res] }) }

theorem readBy_releaseDecrement {w : ReleaseWork} {id : Nat} {rest : List Nat} (hw : (s.port p).hand = some (.release w))
    (hids : w.ids = id :: rest) :
    s.ReadBy (.releaseDecrement (.inHand p)) (id / 262144) s.ports (fun k => k) (fun e => e.decrement id) .poisoned
      (decremented p w rest) where
  read := bucketRead_decrement id
  exec correctable damage errs e he := by
    have hw' : (State.port { s with correctable := correctable, damage := damage } p).hand = some (.release w) := hw
    have hone := State.releaseOne_eq (s := State.arise { s with correctable := correctable, damage := damage } errs)
      (w := w) hids rfl
    rw [exec_releaseDecrement]
    simp only [execReleaseDecrement, hw', hone]
    rw [he]
    rfl

/-- What is written in a command's last step is a record, or one discarded. -/
theorem State.reply_written (v : State) (p : PortNo) (r : CommandRecord) (o : Outcome) (fs : List Field) :
    ∃ ports memory discarded, v.reply p r o fs = { v with ports := ports, memory := memory, discarded := discarded } :=
  ⟨_, _, _, v.complete_frame p _⟩

theorem decremented_written (p : PortNo) (w : ReleaseWork) (rest : List Nat) (res : DecResult) (v : State) :
    ∃ ports memory discarded, decremented p w rest res v = { v with ports := ports, memory := memory, discarded := discarded } := by
  unfold decremented
  split
  · exact ⟨_, _, _, v.complete_frame p _⟩
  · exact ⟨_, _, _, rfl⟩

/-- A command whose read poisons the bucket is answered POISONED (R189). -/
theorem State.Takes.strikes {kind : Nat} {c : List DramError → Instr} {up : Nat → Nat} {find : State → (Outcome × List Field) × State}
    (h : s.Takes p r kind)
    (hread : s.ReadBy c b (s.popQueue p).ports up find (.poisoned, []) fun a v => v.reply p r a.1 a.2)
    (hb : b ∉ s.poisonList) (hbad : { place := .bucket b, error := .uncorrectable } ∈ s.damage ++ errs)
    (hlen : s.poisonList.length < 64) (hth : s.poisonCount + 1 < s.policy.threshold) (hmax : s.policy.threshold ≤ 64) (ha : s.Alert) :
    ∃ t, Machine.exec (c errs) s = .next t ∧ (s.flaggedAt (fun _ => true) .poison .none).Answered t p r .poisoned [] ∧
      t = { s.struckAt b (up s.counter) errs with ports := t.ports, memory := t.memory } := by
  have hexec := hread.strikes hb hbad hth hmax (by exact ha.popQueue p)
  rw [State.struck_reading hb hlen (by omega)] at hexec
  obtain ⟨hanswered, hframe⟩ := h.answers_flagged (fun _ => true) .poison .none
    (State.flaggedAt { s.struckAt b (up s.counter) errs with ports := (s.popQueue p).ports } (fun _ => true) .poison .none)
    (fun _ => rfl) rfl .poisoned []
  exact ⟨_, hexec, hanswered, hframe.trans rfl⟩

/-- A decrement that poisons the bucket goes on with POISONED (R189, R114). -/
theorem decrement_strikes {w : ReleaseWork} {id : Nat} {rest : List Nat} (hatt : s.attached p = true)
    (hw : (s.port p).hand = some (.release w)) (hids : w.ids = id :: rest) (hb : id / 262144 ∉ s.poisonList)
    (hbad : { place := .bucket (id / 262144), error := .uncorrectable } ∈ s.damage ++ errs)
    (hlen : s.poisonList.length < 64) (hth : s.poisonCount + 1 < s.policy.threshold) (hmax : s.policy.threshold ≤ 64) (ha : s.Alert) :
    ∃ t, exec (.releaseDecrement (.inHand p) errs) s = .next t ∧
      (rest ≠ [] →
        t.port p = { (s.flaggedAt (fun _ => true) .poison .none).port p with
          hand := some (.release { w with ids := rest, results := w.results ++ [.poisoned] }) } ∧
        (∀ q, q ≠ p → t.port q = (s.flaggedAt (fun _ => true) .poison .none).port q) ∧ t.memory = s.memory) ∧
      t = { s.struckAt (id / 262144) s.counter errs with ports := t.ports, memory := t.memory } := by
  have hexec := (readBy_releaseDecrement hw hids).strikes hb hbad hth hmax (by exact ha)
  rw [State.struck_reading hb hlen (by omega)] at hexec
  generalize hv : State.flaggedAt { s.struckAt (id / 262144) s.counter errs with ports := s.ports } (fun _ => true) .poison .none = v at hexec
  have hports : v.ports = (s.flaggedAt (fun _ => true) .poison .none).ports := by rw [← hv]; rfl
  have hport (q : PortNo) : v.port q = (s.flaggedAt (fun _ => true) .poison .none).port q := by rw [← hv]; rfl
  have hmemory : v.memory = s.memory := by rw [← hv]; rfl
  have hframe : v = { s.struckAt (id / 262144) s.counter errs with ports := v.ports } := by rw [← hv]; rfl
  have hdiscarded : v.discarded = s.discarded := by rw [← hv]; rfl
  refine ⟨_, hexec, fun hrest => ?_, ?_⟩
  · rw [decremented, if_neg hrest]
    refine ⟨?_, fun q hq => ?_, hmemory⟩
    · rw [State.port_modPort, hport]
    · rw [State.port_modPort_ne _ _ _ hq, hport]
  · unfold decremented
    split
    · have hatt' : v.attached p = true := by rw [State.attached, hport, State.flaggedAt_port_eq]; exact hatt
      have hwritten := v.complete_frame p (ReleaseWork.completion { w with ids := rest, results := w.results ++ [.poisoned] })
      rw [State.complete_discarded_of_attached hatt', hdiscarded] at hwritten
      generalize v.complete p (ReleaseWork.completion { w with ids := rest, results := w.results ++ [.poisoned] }) = t at *
      rw [hwritten, hframe]
      rfl
    · rw [hframe]
      rfl

/-- Settles O26: each command reads one bucket and goes on with what it finds, so that the three kinds of error are judged once for all. -/
theorem readErrorsPoisonOrAreCorrected : Obligations.ReadErrorsPoisonOrAreCorrected := by
  unfold Obligations.ReadErrorsPoisonOrAreCorrected
  intro s p r errs b counter c hb hread
  rcases hread with ⟨rfl, h, hk, rfl, rfl⟩ | ⟨rfl, h, hk, rfl, rfl⟩ | ⟨rfl, h, rfl, hd, h1, h2, h3, h4, h5, h6, h7, h8, rfl⟩ |
    ⟨w, id, rest, rfl, hatt, hw, hids, rfl, rfl⟩
  case inl =>
    have hread := readBy_queryByFingerprint h hk
    refine ⟨hread.corrects hb, fun hbad hlen hth hmax ha => ?_, fun hbad hd hth hcount =>
      hread.passes hb hbad hd hth hcount fun v => v.reply_written p r _ _⟩
    obtain ⟨t, hexec, hanswered, hframe⟩ := h.strikes hread hb hbad hlen hth hmax ha
    exact ⟨t, hexec, fun _ => hanswered, fun _ _ _ _ hc => (by cases congrFun hc []), hframe⟩
  case inr.inl =>
    have hread := readBy_queryByChunkId h hk
    refine ⟨hread.corrects hb, fun hbad hlen hth hmax ha => ?_, fun hbad hd hth hcount =>
      hread.passes hb hbad hd hth hcount fun v => v.reply_written p r _ _⟩
    obtain ⟨t, hexec, hanswered, hframe⟩ := h.strikes hread hb hbad hlen hth hmax ha
    exact ⟨t, hexec, fun _ => hanswered, fun _ _ _ _ hc => (by cases congrFun hc []), hframe⟩
  case inr.inr.inl =>
    have hread := readBy_insert h hd ⟨h1, h2, h3, h4, h5, h6, h7, h8⟩
    refine ⟨hread.corrects hb, fun hbad hlen hth hmax ha => ?_, fun hbad hd hth hcount =>
      hread.passes hb hbad hd hth hcount fun v => v.reply_written p r _ _⟩
    obtain ⟨t, hexec, hanswered, hframe⟩ := h.strikes hread hb hbad hlen hth hmax ha
    exact ⟨t, hexec, fun _ => hanswered, fun _ _ _ _ hc => (by cases congrFun hc []), hframe⟩
  case inr.inr.inr =>
    have hread := readBy_releaseDecrement hw hids
    refine ⟨hread.corrects hb, fun hbad hlen hth hmax ha => ?_, fun hbad hd hth hcount =>
      hread.passes hb hbad hd hth hcount (decremented_written p w rest _)⟩
    obtain ⟨t, hexec, hnext, hframe⟩ := decrement_strikes hatt hw hids hb hbad hlen hth hmax ha
    refine ⟨t, hexec, fun hne => absurd rfl hne, fun w' id' next rest' _ hw' hids' => ?_, hframe⟩
    obtain rfl : w = w' := by
      rw [hw] at hw'
      injection hw' with hw'
      injection hw'
    obtain ⟨rfl, rfl⟩ : id = id' ∧ rest = next :: rest' := List.cons.inj (hids.symm.trans hids')
    exact hnext (List.cons_ne_nil _ _)

end Sys2Proof.Machine

/-! PROOFS. The disposal of a chunk in general (R66, R69 to R73). -/

namespace Sys2Proof.Machine

open Sys2Proof

variable {s t u : State} {n : LaneNo} {p : PortNo} {l : Lane}

/-! ### What a lane's report of a verdict can change -/

/-- Port units, ring records and lane `n` alone change, and the lane keeps its items and takes no engine. -/
structure State.ByLane (n : LaneNo) (s t : State) : Prop where
  frame : t = { s with ports := t.ports, memory := t.memory, lanes := t.lanes }
  items : (t.lane n).items = (s.lane n).items
  grant : (s.lane n).grant = none → (t.lane n).grant = none
  others : ∀ m, m ≠ n → t.lane m = s.lane m

theorem State.ByLane.refl (s : State) : s.ByLane n s := ⟨rfl, rfl, id, fun _ _ => rfl⟩

theorem State.ByLane.trans (h : State.ByLane n s t) (h' : State.ByLane n t u) : State.ByLane n s u := by
  refine ⟨?_, h'.items.trans h.items, fun hg => h'.grant (h.grant hg), fun m hm => (h'.others m hm).trans (h.others m hm)⟩
  rw [h'.frame, h.frame]

theorem State.byLane_of_lanes (h : t = { s with ports := t.ports, memory := t.memory }) : State.ByLane n s t := by
  have hlane (m : LaneNo) : t.lane m = s.lane m := by rw [h]; rfl
  refine ⟨?_, by rw [hlane], fun hg => by rw [hlane]; exact hg, fun m _ => hlane m⟩
  rw [h]

theorem State.byLane_setLane (hi : l.items = (s.lane n).items) (hg : (s.lane n).grant = none → l.grant = none) :
    State.ByLane n s (s.setLane n l) where
  frame := rfl
  items := by rw [State.lane_setLane_self]; exact hi
  grant := by rw [State.lane_setLane_self]; exact hg
  others := (State.laneBecomes_setLane l).2

theorem State.byLane_modLane {f : Lane → Lane} (hi : ∀ l, (f l).items = l.items) (hg : ∀ l, l.grant = none → (f l).grant = none) :
    State.ByLane n s (s.modLane n f) :=
  State.byLane_setLane (hi _) (hg _)

theorem State.byLane_ringPut (s : State) (r : Response) : State.ByLane n s (s.ringPut p r) :=
  State.byLane_of_lanes (State.ringPut_frame s p r)

theorem State.byLane_laneJoin (s : State) : State.ByLane n s (s.laneJoin n) := by
  unfold State.laneJoin
  split
  · exact State.byLane_of_lanes rfl
  · exact .refl s

theorem State.byLane_closeRun (s : State) : State.ByLane n s (s.closeRun n) := by
  unfold State.closeRun
  split
  · exact .refl s
  split
  · exact .refl s
  split
  · exact (State.byLane_ringPut s _).trans (State.byLane_modLane (fun _ => rfl) fun _ => id)
  · refine .trans ?_ (State.byLane_laneJoin _)
    exact State.byLane_modLane (fun _ => rfl) fun _ _ => rfl

theorem State.byLane_writeVerdict (s : State) (v : Verdict) : State.ByLane n s (s.writeVerdict n v) := by
  unfold State.writeVerdict
  split
  · exact State.byLane_ringPut s _
  · refine .trans ?_ (State.byLane_laneJoin _)
    exact State.byLane_modLane (fun _ => rfl) fun _ _ => rfl

/-- The run under construction with verdict `v` as its next element (R72). -/
def Lane.grownRun (l : Lane) (v : Verdict) : Run :=
  match l.run with
  | some r => { r with elems := r.elems ++ [(v.chunkId.getD 0, v.length)] }
  | none => { first := v, elems := [(v.chunkId.getD 0, v.length)], closed := false }

theorem State.addToRun_eq (hl : s.lane n = l) (v : Verdict) :
    s.addToRun n v =
      if (l.grownRun v).elems.length = 12 then (s.setLane n { l with run := some (l.grownRun v) }).closeRun n
      else s.setLane n { l with run := some (l.grownRun v) } := by
  subst hl
  rfl

theorem State.byLane_addToRun (s : State) (v : Verdict) : State.ByLane n s (s.addToRun n v) := by
  have hgrown : State.ByLane n s (s.setLane n { s.lane n with run := some ((s.lane n).grownRun v) }) := State.byLane_setLane rfl id
  rw [State.addToRun_eq rfl]
  split
  · exact hgrown.trans (State.byLane_closeRun _)
  · exact hgrown

theorem State.byLane_report (s : State) (v : Verdict) : State.ByLane n s (s.report n v) := by
  unfold State.report
  split
  · exact State.byLane_addToRun s v
  · exact (State.byLane_closeRun s).trans (State.byLane_writeVerdict _ v)

/-- A lane with items to go on with and no engine is neither starved nor stripped of one. -/
theorem State.ByLane.settled (h : State.ByLane n s t) (hi : (s.lane n).items ≠ []) (hg : (s.lane n).grant = none) :
    (t.starveCheck n).grantCheck n = t := by
  rw [State.starveCheck_none (.inl (by rw [h.items]; exact hi)), State.grantCheck_none (h.grant hg)]

/-! ### Closing a run (R73) -/

/-- The lane record as its verdict is reported: the pending tag is delivered, and no ended chunk remains (R69). -/
def Lane.delivered (l : Lane) : Lane := { l with tag := none, chunk := none }

theorem State.laneJoin_setLane_of_owner (hp : l.owner = some p) : (s.setLane n l).laneJoin n = (s.join p (.lane n)).setLane n l := by
  unfold State.laneJoin
  rw [State.lane_setLane_self, hp]
  rfl

/-- The lane record as its run, which finds no position, waits for the ring (R65). -/
def Lane.runWaits (l : Lane) (r : Run) : Lane :=
  { l with run := some { r with closed := true }, stalls := { l.stalls with ringFull := true }, grant := none }

theorem State.closeRun_waits {r : Run} (hl : s.lane n = l) (hr : l.run = some r) (ho : r.closed = false) (hp : l.owner = some p)
    (hc : s.canWrite p = false) : s.closeRun n = (s.join p (.lane n)).setLane n (l.runWaits r) := by
  have hmay : s.mayWrite n = none := by
    unfold State.mayWrite
    rw [hl, hp]
    exact if_neg (by rw [hc]; exact Bool.false_ne_true)
  unfold State.closeRun
  rw [hl, hr]
  dsimp only
  rw [ho, hmay, if_neg Bool.false_ne_true]
  dsimp only
  rw [State.modLane, hl]
  exact State.laneJoin_setLane_of_owner hp

theorem State.closeRun_closed {r : Run} (hr : (s.lane n).run = some r) (ho : r.closed = true) : s.closeRun n = s := by
  unfold State.closeRun
  rw [hr]
  exact if_pos ho

theorem State.ringPut_setLane (r : Response) : (s.setLane n l).ringPut p r = (s.ringPut p r).setLane n l := by
  unfold State.ringPut
  have hport : (s.setLane n l).port p = s.port p := rfl
  rw [hport]
  split <;> rfl

/-- What becomes of a run that is open, if there is one, as it is closed: its record, and whether it stays until the ring takes it. -/
theorem State.closeRun_cases (hl : s.lane n = l) (hp : l.owner = some p) (hopen : ∀ r, l.run = some r → r.closed = false) :
    l.run = none ∧ s.closeRun n = s ∨
    (∃ r, l.run = some r ∧ s.canWrite p = true ∧ s.closeRun n = (s.ringPut p (.run r)).setLane n { l with run := none }) ∨
    ∃ r, l.run = some r ∧ s.canWrite p = false ∧ s.closeRun n = (s.join p (.lane n)).setLane n (l.runWaits r) := by
  cases hr : l.run with
  | none => exact .inl ⟨rfl, State.closeRun_none (by rw [hl]; exact hr)⟩
  | some r =>
    refine .inr ?_
    cases hc : s.canWrite p with
    | true => exact .inl ⟨r, rfl, rfl, State.closeRun_written hl hr (hopen r hr) hp hc⟩
    | false => exact .inr ⟨r, rfl, rfl, State.closeRun_waits hl hr (hopen r hr) hp hc⟩

/-- A run that is closed as the class is judged is closed before the verdict's report all the same (R71, R72). -/
theorem State.closeRun_delivered (hp : l.owner = some p) (hopen : ∀ r, l.run = some r → r.closed = false) :
    (((s.setLane n l).closeRun n).modLane n Lane.delivered).closeRun n = (s.setLane n l.delivered).closeRun n := by
  have hdelivered := State.closeRun_cases (s := s.setLane n l.delivered) (n := n) (l := l.delivered) (p := p)
    (State.lane_setLane_self _) hp hopen
  rcases State.closeRun_cases (s := s.setLane n l) (State.lane_setLane_self l) hp hopen with
    ⟨hr, heq⟩ | ⟨r, hr, hc, heq⟩ | ⟨r, hr, hc, heq⟩
  · rw [heq, State.modLane, State.lane_setLane_self, State.setLane_setLane]
  · rw [heq, State.modLane, State.lane_setLane_self, State.setLane_setLane,
      State.closeRun_none (by rw [State.lane_setLane_self]; rfl)]
    rw [State.closeRun_written (State.lane_setLane_self _) (by exact hr) (hopen r hr) (by exact hp) (by exact hc)]
    rw [State.ringPut_setLane, State.ringPut_setLane, State.setLane_setLane, State.setLane_setLane]
    rfl
  · rw [heq, State.modLane, State.lane_setLane_self, State.setLane_setLane,
      State.closeRun_closed (r := { r with closed := true }) (by rw [State.lane_setLane_self]; rfl) rfl]
    rw [State.closeRun_waits (State.lane_setLane_self _) (by exact hr) (hopen r hr) (by exact hp) (by exact hc)]
    have hjoin (e : State) (k : Lane) : (e.setLane n k).join p (.lane n) = (e.join p (.lane n)).setLane n k := rfl
    rw [hjoin, hjoin, State.setLane_setLane, State.setLane_setLane]
    rfl

/-- Closing a run changes the lane's run, and its stall causes and grant where the ring does not take the run. -/
theorem State.closeRun_lane (s : State) (n : LaneNo) :
    ∃ run stalls grant, (s.closeRun n).lane n = { s.lane n with run := run, stalls := stalls, grant := grant } := by
  have hjoin (t : State) : (t.laneJoin n).lane n = t.lane n := by unfold State.laneJoin; split <;> rfl
  unfold State.closeRun
  split
  · exact ⟨_, _, _, rfl⟩
  split
  · exact ⟨_, _, _, rfl⟩
  split
  · rw [State.lane_modLane, State.lane_ringPut]
    exact ⟨_, _, _, rfl⟩
  · rw [hjoin, State.lane_modLane]
    exact ⟨_, _, _, rfl⟩

/-! ### The disposal of a chunk (R66 steps 3 to 6) -/

/-- The lane record with the chunk's journal entry and the next sequence number (R66 steps 3 and 4). -/
def Lane.journalled (l : Lane) (q : Nat) (e : JournalEntry) : Lane := { l with nextSeq := some (q + 1), journal := l.journal ++ [e] }

theorem Lane.count_frame (l : Lane) (dup : Bool) :
    l.count dup = { l with
      cls := (l.count dup).cls, candidate := (l.count dup).candidate, agreement := (l.count dup).agreement
      windowChunks := (l.count dup).windowChunks, windowDups := (l.count dup).windowDups } := by
  unfold Lane.count Lane.judge
  dsimp only
  split
  · split
    · rfl
    · split
      · split <;> rfl
      · rfl
  · rfl

theorem Lane.judged_delivered (l : Lane) (d : Nat) : (l.judged d).delivered = l.delivered.judged d := by
  unfold Lane.judged
  dsimp only
  generalize (if d ≤ 63 then LaneClass.cold else if d ≤ 191 then .mixed else .hot) = w
  by_cases hw : w = l.cls
  · simp only [Lane.delivered, hw, if_true]
  · by_cases hc : l.candidate = some w
    · by_cases ha : l.agreement = 2 <;> simp [Lane.delivered, hw, hc, ha]
    · simp [Lane.delivered, hw, hc]

/-- A verdict within a window is counted (R70). -/
theorem Lane.delivered_count_of_lt {q : Nat} {e : JournalEntry} {dup : Bool} (h : l.windowChunks < 255) :
    ((l.journalled q e).count dup).delivered = l.disposed q e dup := by
  have hne : (l.journalled q e).windowChunks + 1 ≠ 256 := by
    have : (l.journalled q e).windowChunks = l.windowChunks := rfl
    omega
  unfold Lane.count
  rw [if_neg hne]
  rfl

/-- The verdict that ends a window has the window's class judged (R70, R71). -/
theorem Lane.delivered_count_of_eq {q : Nat} {e : JournalEntry} (h : l.windowChunks = 255) :
    ((l.journalled q e).count true).delivered = (l.disposed q e true).judged (l.windowDups + 1) := by
  have heq : (l.journalled q e).windowChunks + 1 = 256 := by
    have : (l.journalled q e).windowChunks = l.windowChunks := rfl
    omega
  unfold Lane.count
  rw [if_pos heq, Lane.judge_windowClass, Lane.judged_delivered]
  rfl

/-- Below JOURNAL_HIGH the sequence number is taken and the entry appended, and its place is free of errors (R66, R188). -/
theorem State.journalChunk_below {q : Nat} {c : Chunk} {r : Result} (hl : s.lane n = l) (hq : q < 4294967295)
    (hj : l.journal.length ≠ 229375) :
    s.journalChunk n q c r = (s.writeJournalPlace n l.journal.length).setLane n (l.journalled q (journalEntry q c r)) := by
  subst hl
  unfold State.journalChunk
  have hhigh : (s.lane n).journal.length + 1 ≠ Config.journalHigh := by
    simp only [Config.journalHigh]
    omega
  have hmax : q ≠ Config.max32 := by
    simp only [Config.max32]
    omega
  dsimp only
  rw [if_neg hhigh]
  simp only [if_neg hmax]
  rfl

/-- The entry that fills the journal to 229,376 sets JOURNAL_HIGH at the owner port (R99). -/
theorem State.journalChunk_high {q : Nat} {c : Chunk} {r : Result} (hl : s.lane n = l) (hq : q < 4294967295)
    (hj : l.journal.length = 229375) (hp : l.owner = some p) (ha : s.Alert) :
    s.journalChunk n q c r =
      ((s.writeJournalPlace n l.journal.length).flaggedAt (fun k => decide (k = p)) .journalHigh (.lanes [n])).setLane n
        (l.journalled q (journalEntry q c r)) := by
  subst hl
  unfold State.journalChunk
  have hhigh : (s.lane n).journal.length + 1 = Config.journalHigh := by
    simp only [Config.journalHigh]
    omega
  have hmax : q ≠ Config.max32 := by
    simp only [Config.max32]
    omega
  dsimp only
  rw [if_pos hhigh, State.modLane, State.lane_setLane_self]
  simp only [if_neg hmax]
  split
  · next k hk =>
    obtain rfl : p = k := Option.some.inj (hp.symm.trans hk)
    rw [State.setFlag_loud _ _ (by exact ha p)]
    rfl
  · next hk => exact nomatch hp.symm.trans hk

theorem verdictOf_congr {l' : Lane} {c : Chunk} {r : Result} {q : Nat} (ht : l'.tag = l.tag) (hc : l'.cls = l.cls) :
    verdictOf n l' q c r = verdictOf n l q c r := by
  unfold verdictOf
  rw [ht, hc]

theorem Lane.joinsRun_of_not_hot {v : Verdict} (h : l.cls ≠ .hot) : l.joinsRun v = false := by
  simp [Lane.joinsRun, h]

/-- Once journalled, a chunk is counted, and its verdict reported by the lane record with its tag delivered (R66 steps 5 and 6). A
run that the class's fall closes is closed before the report in any case. -/
theorem State.dispose_reports {base : State} {lj : Lane} {q : Nat} {c : Chunk} {r : Result} (hl : s.lane n = l)
    (hseq : l.nextSeq = some q) (hbase : s.journalChunk n q c r = base.setLane n lj) (hp : lj.owner = some p)
    (hopen : ∀ r, lj.run = some r → r.closed = false) (hi : lj.items ≠ []) (hg : lj.grant = none) :
    s.dispose n c r = (base.setLane n (lj.count (decide (r.kind = .dup))).delivered).report n
      (verdictOf n (lj.count (decide (r.kind = .dup))) q c r) := by
  have hframe := lj.count_frame (decide (r.kind = .dup))
  unfold State.dispose
  simp only [hl, hseq, Option.getD_some, hbase]
  unfold State.countVerdict
  dsimp only
  have hcount : ((base.setLane n lj).modLane n fun l => l.count (decide (r.kind = .dup))) =
      base.setLane n (lj.count (decide (r.kind = .dup))) := by
    rw [State.modLane, State.lane_setLane_self, State.setLane_setLane]
  rw [hcount, State.lane_setLane_self, State.lane_setLane_self]
  clear hcount
  generalize lj.count (decide (r.kind = .dup)) = lc at *
  have hcp : lc.owner = some p := by rw [hframe]; exact hp
  have hcopen : ∀ r, lc.run = some r → r.closed = false := by rw [hframe]; exact hopen
  have hci : lc.items ≠ [] := by rw [hframe]; exact hi
  have hcg : lc.grant = none := by rw [hframe]; exact hg
  have hsettled (v : Verdict) : (((base.setLane n lc.delivered).report n v).starveCheck n).grantCheck n =
      (base.setLane n lc.delivered).report n v :=
    (State.byLane_report _ v).settled (by rw [State.lane_setLane_self]; exact hci) (by rw [State.lane_setLane_self]; exact hcg)
  by_cases hleaves : lj.cls = .hot ∧ lc.cls ≠ .hot
  · rw [if_pos hleaves]
    obtain ⟨run, stalls, grant, hlane⟩ := (base.setLane n lc).closeRun_lane n
    rw [State.lane_setLane_self] at hlane
    have hverdict : verdictOf n (((base.setLane n lc).closeRun n).lane n) q c r = verdictOf n lc q c r :=
      verdictOf_congr (by rw [hlane]) (by rw [hlane])
    have hreport (v : Verdict) : (((base.setLane n lc).closeRun n).modLane n Lane.delivered).report n v =
        (base.setLane n lc.delivered).report n v := by
      have hnot : (base.setLane n lc.delivered).lane n = lc.delivered := State.lane_setLane_self _
      unfold State.report
      rw [if_neg, if_neg, State.closeRun_delivered hcp hcopen]
      · rw [hnot, Lane.joinsRun_of_not_hot (by exact hleaves.2)]
        exact Bool.false_ne_true
      · rw [State.lane_modLane, hlane, Lane.joinsRun_of_not_hot (by exact hleaves.2)]
        exact Bool.false_ne_true
    rw [hverdict]
    exact (congrArg (fun e : State => (e.starveCheck n).grantCheck n) (hreport _)).trans (hsettled _)
  · rw [if_neg hleaves, State.modLane, State.lane_setLane_self, State.setLane_setLane]
    exact hsettled _

theorem State.byLane_setFlag (s : State) (f : Flag) (c : Carry) : State.ByLane n s (s.setFlag p f c) :=
  State.byLane_of_lanes (State.setFlag_frame s p f c)

theorem State.byLane_journalChunk (s : State) (q : Nat) (c : Chunk) (r : Result) :
    State.ByLane n (s.writeJournalPlace n (s.lane n).journal.length) (s.journalChunk n q c r) := by
  unfold State.journalChunk
  dsimp only
  split
  · split
    · refine .trans ?_ (State.byLane_setFlag _ _ _)
      exact State.byLane_modLane (fun _ => rfl) fun _ => id
    · exact State.byLane_modLane (fun _ => rfl) fun _ => id
  · exact State.byLane_modLane (fun _ => rfl) fun _ => id

theorem State.byLane_countVerdict (s : State) (dup : Bool) : State.ByLane n s (s.countVerdict n dup) := by
  have hcount : State.ByLane n s (s.modLane n fun l => l.count dup) :=
    State.byLane_modLane (fun l => by rw [l.count_frame]) fun l hl => by rw [l.count_frame]; exact hl
  unfold State.countVerdict
  dsimp only
  split
  · exact hcount.trans (State.byLane_closeRun _)
  · exact hcount

/-- The disposal of a chunk by a lane with items to go on with and no engine changes port units, ring records, the lane and the
errors of the journal place written (R66). -/
theorem State.byLane_dispose (c : Chunk) (r : Result) (hi : (s.lane n).items ≠ []) (hg : (s.lane n).grant = none) :
    State.ByLane n (s.writeJournalPlace n (s.lane n).journal.length) (s.dispose n c r) := by
  unfold State.dispose
  dsimp only
  have hcounted := (s.byLane_journalChunk (n := n) ((s.lane n).nextSeq.getD 0) c r).trans
    (State.byLane_countVerdict _ (decide (r.kind = .dup)))
  generalize ((s.journalChunk n ((s.lane n).nextSeq.getD 0) c r).countVerdict n (decide (r.kind = .dup))) = t at *
  have hdelivered : State.ByLane n t (t.modLane n fun l => { l with tag := none, chunk := none }) :=
    State.byLane_modLane (fun _ => rfl) fun _ => id
  have hreported := (hcounted.trans hdelivered).trans (State.byLane_report _ (verdictOf n (t.lane n) ((s.lane n).nextSeq.getD 0) c r))
  rw [hreported.settled (by exact hi) (by exact hg)]
  exact hreported

/-! ### The report of a verdict (R65, R72, R73) -/

section Report

variable {v : Verdict}

theorem State.writeVerdict_written (hp : (s.lane n).owner = some p) (hc : s.canWrite p = true) (hr : (s.lane n).run = none)
    (hh : (s.lane n).held = none) : s.writeVerdict n v = s.ringPut p (.verdict v) := by
  unfold State.writeVerdict
  rw [State.mayWrite_of_owner hp hc, hr, hh]

/-- The lane record as its verdict, which finds no position, is held (R65). -/
def Lane.verdictWaits (l : Lane) (v : Verdict) : Lane :=
  { l with held := some (.verdict v), stalls := { l.stalls with ringFull := true }, grant := none }

theorem State.writeVerdict_waits (hl : s.lane n = l) (hp : l.owner = some p) (hc : s.canWrite p = false) :
    s.writeVerdict n v = (s.join p (.lane n)).setLane n (l.verdictWaits v) := by
  have hmay : s.mayWrite n = none := by
    unfold State.mayWrite
    rw [hl, hp]
    exact if_neg (by rw [hc]; exact Bool.false_ne_true)
  subst hl
  unfold State.writeVerdict
  rw [hmay]
  exact State.laneJoin_setLane_of_owner (l := (s.lane n).verdictWaits v) hp

theorem State.report_of_not_joins (hl : s.lane n = l) (hj : l.joinsRun v = false) :
    s.report n v = (s.closeRun n).writeVerdict n v := by
  unfold State.report
  rw [hl, if_neg (by rw [hj]; exact Bool.false_ne_true)]

/-- With no run open the VERDICT is written where the ring takes it. -/
theorem State.report_written (hl : s.lane n = l) (hj : l.joinsRun v = false) (hp : l.owner = some p) (hc : s.canWrite p = true)
    (hr : l.run = none) (hh : l.held = none) : s.report n v = s.ringPut p (.verdict v) := by
  rw [State.report_of_not_joins hl hj, State.closeRun_none (by rw [hl]; exact hr)]
  exact State.writeVerdict_written (by rw [hl]; exact hp) hc (by rw [hl]; exact hr) (by rw [hl]; exact hh)

/-- The lane record as its verdict waits for the ring behind its run, which is closed (R65, R73). -/
def Lane.bothWait (l : Lane) (v : Verdict) : Lane :=
  { l with
    run := l.run.map fun r => { r with closed := true }, held := some (.verdict v), stalls := { l.stalls with ringFull := true }
    grant := none }

theorem joinSet_joinSet {α : Type} [DecidableEq α] (xs : List α) (x : α) : joinSet (joinSet xs x) x = joinSet xs x := by
  unfold joinSet
  by_cases h : x ∈ xs
  · rw [if_pos h, if_pos h]
  · rw [if_neg h, if_pos (List.mem_append_right _ (List.mem_singleton.mpr rfl))]

theorem State.canWrite_join (s : State) (p : PortNo) (w : Writer) : (s.join p w).canWrite p = false := by
  rw [Bool.eq_false_iff]
  intro hw
  have hwaiting : ((s.join p w).port p).waiting.isEmpty = true := by
    unfold State.canWrite at hw
    simp only [Bool.and_eq_true] at hw
    exact hw.1.2
  rw [State.port_join] at hwaiting
  have hmem : w ∈ joinSet (s.port p).waiting w := by
    unfold joinSet
    split
    · assumption
    · exact List.mem_append_right _ (List.mem_singleton.mpr rfl)
  have hempty : joinSet (s.port p).waiting w = [] := List.isEmpty_iff.mp hwaiting
  rw [hempty] at hmem
  exact absurd hmem List.not_mem_nil

/-- Where the ring takes nothing, an open run and the verdict behind it wait (R65). -/
theorem State.report_waits (hl : s.lane n = l) (hj : l.joinsRun v = false) (hp : l.owner = some p) (hc : s.canWrite p = false)
    (hopen : ∀ r, l.run = some r → r.closed = false) :
    (s.report n v).lane n = l.bothWait v ∧
      (s.report n v).port p = { s.port p with waiting := joinSet (s.port p).waiting (.lane n) } ∧
      (∀ k, k ≠ p → (s.report n v).port k = s.port k) ∧ (s.report n v).memory = s.memory := by
  rw [State.report_of_not_joins hl hj]
  cases hr : l.run with
  | none =>
    rw [State.closeRun_none (by rw [hl]; exact hr), State.writeVerdict_waits hl hp hc]
    refine ⟨?_, State.port_join _, fun k hk => State.port_join_ne _ hk, rfl⟩
    rw [State.lane_setLane_self]
    unfold Lane.bothWait Lane.verdictWaits
    rw [hr]
    rfl
  | some r =>
    rw [State.closeRun_waits hl hr (hopen r hr) hp hc,
      State.writeVerdict_waits (State.lane_setLane_self _) (by exact hp) (by exact State.canWrite_join s p _)]
    refine ⟨?_, ?_, fun k hk => ?_, rfl⟩
    · rw [State.lane_setLane_self]
      unfold Lane.bothWait Lane.verdictWaits Lane.runWaits
      rw [hr]
      rfl
    · have hport := State.port_join (s := (s.join p (.lane n)).setLane n (l.runWaits r)) (p := p) (.lane n)
      refine hport.trans ?_
      have hjoined : ((s.join p (.lane n)).setLane n (l.runWaits r)).port p = (s.join p (.lane n)).port p := rfl
      rw [hjoined, State.port_join, joinSet_joinSet]
    · have hport := State.port_join_ne (s := (s.join p (.lane n)).setLane n (l.runWaits r)) (p := p) (.lane n) hk
      exact hport.trans (State.port_join_ne (s := s) (.lane n) hk)

theorem State.report_joins (hl : s.lane n = l) (hj : l.joinsRun v = true) :
    s.report n v =
      if (l.grownRun v).elems.length = 12 then (s.setLane n { l with run := some (l.grownRun v) }).closeRun n
      else s.setLane n { l with run := some (l.grownRun v) } := by
  unfold State.report
  rw [hl, if_pos hj, State.addToRun_eq hl]

end Report

end Sys2Proof.Machine

/-! PROOFS. Lookups that find a duplicate (R12, R16; O46). -/

namespace Sys2Proof.Machine

open Sys2Proof

variable {s t u : State} {n : LaneNo} {p : PortNo} {l : Lane} {c : Chunk} {q b : Nat} {i : Fin 16} {x : Entry}
  {errs : List DramError} {stalls : Stalls}

/-! ### A lookup begins (R66) -/

theorem exec_lookup (n : LaneNo) (errs : List DramError) (s : State) : exec (.lookup n errs) s = execLookup n errs s := rfl

theorem State.leaveTurn_nil (h : s.turns = []) (n : LaneNo) : s.leaveTurn n = s := by
  obtain ⟨turns, hturns⟩ : ∃ turns, s.turns = turns := ⟨_, rfl⟩
  unfold State.leaveTurn State.settleTurns
  rw [h]
  calc _ = { s with turns := [] } := rfl
    _ = s := by rw [← h]

theorem State.Seeks.exec_lookup (h : s.Seeks n p c q Stalls.clear) (hj : (s.lane n).journal.length < 262144) :
    Machine.exec (.lookup n errs) s = .next ((s.arise errs).lookup n c) := by
  have hlooks : s.looksUp n = true := by
    unfold State.looksUp State.hasTurn
    rw [h.active, h.stalls, h.turns]
    rfl
  have hstops : (s.arise errs).seekStops n = none :=
    State.seekStops_none (s := s.arise errs) (by have := h.seq.1; exact fun hnone => nomatch this.symm.trans hnone) hj
  rw [Machine.exec_lookup, execLookup, h.chunk]
  dsimp only
  rw [hlooks, State.leaveTurn_nil (by exact h.turns), hstops]
  rfl

/-- A lookup that finds the chunk's entry, not PENDING for another lane, is a DUP (R12, R15). -/
theorem State.lookup_dup (hd : s.device ≠ .passthrough) (hread : s.readBucket (bucketOf c.fingerprint) = (false, s))
    (hfirst : (s.bucket (bucketOf c.fingerprint)).FirstWith c.fingerprint i x) (hcheck : x.check = c.check)
    (hpending : ∀ m, x.state = .pending m → m = n) : s.lookup n c = s.lookupDup n c (bucketOf c.fingerprint) i x := by
  unfold State.lookup
  rw [if_neg hd]
  dsimp only
  rw [hread]
  dsimp only
  rw [findFingerprint_first hfirst]
  dsimp only
  unfold State.lookupFound
  rw [if_neg (fun hne => hne hcheck)]
  split
  · next m hm => rw [if_pos (hpending m hm)]
  · rfl
  · rfl
  · rfl

/-- A verdict joins a run unless its lane is not HOT or does not coalesce, or it is RESURRECTED, WAITED or tagged (R72). -/
theorem Lane.joinsRun_iff {v : Verdict} (hk : v.kind = .dup) (hopen : ∀ r, l.run = some r → r.closed = false) :
    l.joinsRun v = true ↔ ¬(l.cls ≠ .hot ∨ l.coalescing = .off ∨ v.waited = true ∨ v.tag ≠ none ∨ v.resurrected = true) := by
  have hauto : l.coalescing = .auto ↔ ¬l.coalescing = .off := by
    cases l.coalescing <;> simp
  unfold Lane.joinsRun
  cases hr : l.run with
  | none =>
    simp only [Bool.and_eq_true, decide_eq_true_eq, Bool.not_eq_true', Option.isNone_iff_eq_none, hk, hauto, not_or,
      Bool.not_eq_true, ne_eq, not_not]
    tauto
  | some r =>
    simp only [Bool.and_eq_true, decide_eq_true_eq, Bool.not_eq_true', Option.isNone_iff_eq_none, hk, hauto, hopen r hr,
      not_or, Bool.not_eq_true, ne_eq, not_not, Bool.not_false]
    tauto

/-- The lookup gives the entry its reference, and then disposes of the chunk (R16, R66). -/
theorem State.Seeks.lookup_dup (h : s.Seeks n p c q Stalls.clear) (hj : (s.lane n).journal.length < 262144)
    (hd : s.device ≠ .passthrough) (hread : s.Readable errs (bucketOf c.fingerprint))
    (hfirst : (s.bucket (bucketOf c.fingerprint)).FirstWith c.fingerprint i x) (hcheck : x.check = c.check)
    (hpending : ∀ m, x.state = .pending m → m = n) :
    ∃ u, Machine.exec (.lookup n errs) s =
        .next (u.dispose n c (x.result .dup (idIn (bucketOf c.fingerprint) (s.bucket (bucketOf c.fingerprint)) i) x.isZero)) ∧
      s.SlotBecomes u (bucketOf c.fingerprint) i
        { generation := (s.bucket (bucketOf c.fingerprint))[i].generation, entry := some (x.increment 1 s.epoch) } ∧
      u = { s with index := u.index, damage := s.damage ++ errs } := by
  refine ⟨(s.arise errs).updateEntry (bucketOf c.fingerprint) i (x.increment 1 s.epoch), ?_, ?_, rfl⟩
  · rw [h.exec_lookup hj, State.lookup_dup (s := s.arise errs) hd (State.readBucket_arise hread) hfirst hcheck hpending]
    rfl
  · exact State.slotBecomes_updateEntry (s := s.arise errs) (x.increment 1 s.epoch)

/-! ### What the ring shows of a report -/

theorem State.canWrite_of_ports (h : t.ports = s.ports) (p : PortNo) : t.canWrite p = s.canWrite p := by
  unfold State.canWrite State.attached
  rw [State.port_of_ports h p]

section Report

variable {e : State} {v : Verdict}

theorem State.Wrote.report (hl : e.lane n = l) (hports : e.ports = s.ports) (hmemory : e.memory = s.memory)
    (hj : l.joinsRun v = false) (hp : l.owner = some p) (hc : s.canWrite p = true) (hr : l.run = none) (hh : l.held = none) :
    (e.report n v).lane n = l ∧ s.Wrote (e.report n v) p (.verdict v) (s.port p).advanced := by
  have hce : e.canWrite p = true := by
    rw [← hc]
    exact State.canWrite_of_ports hports p
  rw [State.report_written hl hj hp hce hr hh]
  exact ⟨by rw [State.lane_ringPut, hl], State.wrote_ringPut_of hc hports hmemory (.verdict v)⟩

/-- The VERDICT follows a flag set at its port without an ATTENTION record (R99). -/
theorem State.Wrote.report_flagged {X : State} (hports : X.ports = s.ports) (hmemory : X.memory = s.memory)
    (hj : l.joinsRun v = false) (hp : l.owner = some p) (hc : s.canWrite p = true) (hr : l.run = none) (hh : l.held = none)
    (f : Flag) (carry : Carry) :
    (((X.flaggedAt (fun k => decide (k = p)) f carry).setLane n l).report n v).lane n = l ∧
      s.Wrote (((X.flaggedAt (fun k => decide (k = p)) f carry).setLane n l).report n v) p (.verdict v)
        ((s.port p).flagged f carry).advanced := by
  have hport (k : PortNo) : (X.flaggedAt (fun k => decide (k = p)) f carry).port k =
      if k = p then (s.port p).flagged f carry else s.port k := by
    rw [State.flaggedAt_port, State.port_of_ports hports]
    by_cases hkp : k = p
    · rw [hkp, if_pos (decide_eq_true rfl), if_pos rfl]
    · rw [if_neg (by simpa using hkp), if_neg hkp]
  have hself := (hport p).trans (if_pos rfl)
  have hunit := (s.port p).flagged_eq f carry
  have hFm : (X.flaggedAt (fun k => decide (k = p)) f carry).memory = s.memory := hmemory
  generalize X.flaggedAt (fun k => decide (k = p)) f carry = F at *
  have hcF : F.canWrite p = true := by
    rw [← hc]
    apply State.canWrite_congr <;> rw [hself, hunit]
  have hwrote := State.wrote_ringPut_of (s := F) (e := F.setLane n l) hcF rfl rfl (.verdict v)
  rw [State.report_written (State.lane_setLane_self _) hj hp (by exact hcF) hr hh, ← hself]
  refine ⟨by rw [State.lane_ringPut, State.lane_setLane_self], hwrote.of_units ?_ ?_ ?_ (fun k hk => ?_) hFm⟩
  · rw [hself, hunit]
  · rw [hself, hunit]
  · rw [hself, hunit]
  · exact (hport k).trans (if_neg hk)

/-- An open run is written before the VERDICT (R72). -/
theorem State.report_both {r : Run} {g : Ring} (hl : e.lane n = l) (hports : e.ports = s.ports) (hmemory : e.memory = s.memory)
    (hj : l.joinsRun v = false) (hp : l.owner = some p) (hc : s.canWrite p = true) (hr : l.run = some r) (ho : r.closed = false)
    (hh : l.held = none) (hg : (s.port p).Rings g) (hfree : 2 ≤ (s.port p).free) :
    (e.report n v).lane n = { l with run := none } ∧
      (e.report n v).ringRecord p (s.port p).producer = (Response.run r).bytes p (s.port p).pass ∧
      (e.report n v).ringRecord p (s.port p).advanced.producer = (Response.verdict v).bytes p (s.port p).advanced.pass ∧
      (e.report n v).port p = (s.port p).advanced.advanced ∧
      ∀ k, k ≠ p → (e.report n v).port k = s.port k ∧ (e.report n v).memory[k] = s.memory[k] := by
  have hce : e.canWrite p = true := by
    rw [← hc]
    exact State.canWrite_of_ports hports p
  have hfirst := State.wrote_ringPut_of hc hports hmemory (.run r)
  rw [State.report_of_not_joins hl hj, State.closeRun_written hl hr ho hp hce]
  generalize e.ringPut p (.run r) = f at *
  have hcf : f.canWrite p = true := State.canWrite_advanced hc hg hfree hfirst.port
  rw [State.writeVerdict_written (by rw [State.lane_setLane_self]; exact hp) (by exact hcf) (by rw [State.lane_setLane_self])
    (by rw [State.lane_setLane_self]; exact hh)]
  have hsecond := State.wrote_ringPut_of (e := f.setLane n { l with run := none }) hcf rfl rfl (.verdict v)
  have hlane : ((f.setLane n { l with run := none }).ringPut p (.verdict v)).lane n = { l with run := none } := by
    rw [State.lane_ringPut, State.lane_setLane_self]
  generalize (f.setLane n { l with run := none }).ringPut p (.verdict v) = t at *
  have hring : (s.port p).advanced.ring = some g := hg.advanced.ring
  have hadvanced : f.port p = (s.port p).advanced := hfirst.port
  obtain ⟨hrecord, hrecord'⟩ := hfirst.pair hsecond hg hring (by rw [hadvanced]; exact hg.advanced.advanced.ring) rfl rfl
  refine ⟨hlane, hrecord, hrecord', by rw [hsecond.port, hadvanced], fun k hk => ?_⟩
  obtain ⟨hport, hmem⟩ := hsecond.otherPorts k hk
  obtain ⟨hport', hmem'⟩ := hfirst.otherPorts k hk
  exact ⟨hport.trans hport', hmem.trans hmem'⟩

/-- The twelfth element closes the run, which is written where the ring takes it (R72, R73). -/
theorem State.report_twelfth (hl : e.lane n = l) (hports : e.ports = s.ports) (hmemory : e.memory = s.memory)
    (hj : l.joinsRun v = true) (hp : l.owner = some p) (hc : s.canWrite p = true) (ho : (l.grownRun v).closed = false)
    (hlen : (l.grownRun v).elems.length = 12) :
    (e.report n v).lane n = { l with run := none } ∧
      s.Wrote (e.report n v) p (.run (l.grownRun v)) (s.port p).advanced := by
  have hce : e.canWrite p = true := by
    rw [← hc]
    exact State.canWrite_of_ports hports p
  rw [State.report_joins hl hj, if_pos hlen,
    State.closeRun_written (State.lane_setLane_self _) rfl ho (by exact hp) (by exact hce)]
  refine ⟨State.lane_setLane_self _, ?_⟩
  exact State.Wrote.result_of_same (State.wrote_ringPut_of hc (e := e.setLane n { l with run := some (l.grownRun v) }) hports hmemory _)
    rfl rfl

/-- The run that a verdict opens, or the one it joins (R72). -/
theorem Lane.grownRun_eq {id len : Nat} {run : Run} (hid : v.chunkId = some id) (hlen : v.length = len)
    (hrun : l.run = none ∧ run = { first := v, elems := [(id, len)], closed := false } ∨
      ∃ r, l.run = some r ∧ run = { r with elems := r.elems ++ [(id, len)] }) : l.grownRun v = run := by
  unfold Lane.grownRun
  rw [hid, hlen]
  rcases hrun with ⟨hr, rfl⟩ | ⟨r, hr, rfl⟩
  · rw [hr]
    rfl
  · rw [hr]
    rfl

theorem State.report_grows (hl : e.lane n = l) (hj : l.joinsRun v = true) (hlen : (l.grownRun v).elems.length ≤ 11) :
    e.report n v = e.setLane n { l with run := some (l.grownRun v) } := by
  rw [State.report_joins hl hj, if_neg (by omega)]

end Report

/-! ### O46 -/

/-- What the disposal of a duplicate leaves of its lane record (R66, R69 to R71). -/
theorem Lane.delivered_count_frame (l : Lane) (q : Nat) (e : JournalEntry) (dup : Bool) {after : Lane}
    (h : ((l.journalled q e).count dup).delivered = after) :
    after = { l with
      nextSeq := after.nextSeq, journal := after.journal, cls := after.cls, candidate := after.candidate
      agreement := after.agreement, windowChunks := after.windowChunks, windowDups := after.windowDups, tag := none, chunk := none } := by
  rw [← h, (l.journalled q e).count_frame dup]
  rfl

theorem Entry.isZero_iff (x : Entry) : x.isZero = true ↔ ∃ z, x.state = .zero z := by
  unfold Entry.isZero
  cases x.state <;> simp

/-- Settles O46: the disposal is the report of its verdict, whose five ends are told apart by the ring, the run and the journal. -/
theorem lookupFindsDuplicate : Obligations.LookupFindsDuplicate := by
  unfold Obligations.LookupFindsDuplicate
  rintro s n p c q errs b i x id l after verdict apart damage hseeks hd rfl hread hfirst hcheck hpending hid hl hafter hverdict hapart
    hdamage hopen hj
  obtain ⟨u, hexec, hslot, hu⟩ := hseeks.lookup_dup (by rw [hl]; exact hj) hd hread hfirst hcheck hpending
  obtain ⟨hactive, hchunk, hstalls, hp, hheld, hgrant, hitems, ⟨hseq, hq⟩, hturns⟩ := hseeks
  rw [hl] at hactive hchunk hstalls hp hheld hgrant hitems hseq
  have hidIn : idIn (bucketOf c.fingerprint) (s.bucket (bucketOf c.fingerprint)) i = id := hid.symm
  rw [hidIn] at hexec
  have hul : u.lane n = l := by rw [hu]; exact hl
  have hby := u.byLane_dispose (n := n) c (x.result .dup id x.isZero) (by rw [hul]; exact hitems) (by rw [hul]; exact hgrant)
  have hcount : ((l.journalled q { seq := q, what := .ref id, length := c.length }).count true).delivered = after := by
    rcases hafter with ⟨hlt, rfl⟩ | ⟨heq, rfl⟩
    · exact Lane.delivered_count_of_lt hlt
    · exact Lane.delivered_count_of_eq heq
  have hkept := Lane.delivered_count_frame l q _ true hcount
  have hverdictOf : verdictOf n ((l.journalled q { seq := q, what := .ref id, length := c.length }).count true) q c
      (x.result .dup id x.isZero) = verdict := by
    have htag : ((l.journalled q { seq := q, what := .ref id, length := c.length }).count true).tag = l.tag := by
      rw [Lane.count_frame]
      rfl
    have hcls : ((l.journalled q { seq := q, what := .ref id, length := c.length }).count true).cls = after.cls := by
      rw [← hcount]
      rfl
    unfold verdictOf
    rw [htag, hcls, hverdict]
    rfl
  have hreports (base : State)
      (hbase : u.journalChunk n q c (x.result .dup id x.isZero) =
        base.setLane n (l.journalled q { seq := q, what := .ref id, length := c.length })) :
      u.dispose n c (x.result .dup id x.isZero) = (base.setLane n after).report n verdict := by
    rw [State.dispose_reports hul hseq hbase hp hopen hitems hgrant]
    have hdup : decide ((x.result VerdictKind.dup id x.isZero).kind = VerdictKind.dup) = true := rfl
    rw [hdup, hcount, hverdictOf]
  have hbelow (hne : l.journal.length ≠ 229375) :=
    hreports _ (State.journalChunk_below (c := c) (r := x.result .dup id x.isZero) hul hq hne)
  have hhigh (heq : l.journal.length = 229375) (ha : s.Alert) :=
    hreports _ (State.journalChunk_high (c := c) (r := x.result .dup id x.isZero) hul hq heq hp (by rw [hu]; exact ha))
  rw [hul] at hby
  clear hreports hverdictOf
  generalize u.dispose n c (x.result .dup id x.isZero) = t at *
  generalize hX : u.writeJournalPlace n l.journal.length = X at *
  have hXframe : X = { s with index := u.index, damage := damage } := by
    rw [← hX, hu, hdamage]
    rfl
  have hports : X.ports = s.ports := by rw [hXframe]
  have hmemory : X.memory = s.memory := by rw [hXframe]
  have hothers (m : LaneNo) (hm : m ≠ n) : t.lane m = s.lane m := by
    rw [hby.others m hm, hXframe]
    rfl
  have hindex : t.index = u.index := by rw [hby.frame, hXframe]
  have hbecomes {l' : Lane} (h : t.lane n = l') : s.LaneBecomes t n l' := ⟨h, hothers⟩
  have hap : after.owner = some p := by rw [hkept]; exact hp
  have hah : after.held = none := by rw [hkept]; exact hheld
  have har : after.run = l.run := by rw [hkept]
  have hao : ∀ r, after.run = some r → r.closed = false := by rw [har]; exact hopen
  have hjoins : after.joinsRun verdict = true ↔ ¬apart := by
    have hzero : verdict.resurrected = true ↔ ∃ z, x.state = .zero z := by
      rw [hverdict]
      exact x.isZero_iff
    have hcoalescing : after.coalescing = l.coalescing := by rw [hkept]
    rw [Lane.joinsRun_iff (by rw [hverdict]) hao, hapart, hzero, hcoalescing, hverdict]
  have hnot (h : apart) : after.joinsRun verdict = false := by
    rw [← Bool.not_eq_true, hjoins]
    exact fun hno => hno h
  refine ⟨t, hexec, ⟨?_, ?_⟩, ?_, fun ha hr hne hc => ?_, fun r g ha hr hne hc hg hfree => ?_, fun ha hne hc => ?_,
    fun run ha hne hrun => ?_, fun ha hr heq hc halert => ?_⟩
  · rw [State.bucket, hindex]
    exact hslot.1
  · intro b' j hne
    rw [State.bucket, hindex]
    exact hslot.2 b' j hne
  · rw [hby.frame, hXframe]
  · have ht := hbelow hne
    obtain ⟨hlane, hwrote⟩ := State.Wrote.report (s := s) (e := X.setLane n after) (n := n) (v := verdict) (State.lane_setLane_self _)
      hports hmemory (hnot ha) hap hc (har.trans hr) hah
    rw [← ht] at hlane hwrote
    exact ⟨hbecomes hlane, hwrote⟩
  · have ht := hbelow hne
    obtain ⟨hlane, hrest⟩ := State.report_both (s := s) (e := X.setLane n after) (n := n) (v := verdict) (State.lane_setLane_self _)
      hports hmemory (hnot ha) hap hc (har.trans hr) (hopen r hr) hah hg hfree
    rw [← ht] at hlane hrest
    exact ⟨hbecomes hlane, hrest⟩
  · have ht := hbelow hne
    have hce : (X.setLane n after).canWrite p = false := by
      rw [← hc]
      exact State.canWrite_of_ports hports p
    obtain ⟨hlane, hport, hother, hmem⟩ := State.report_waits (s := X.setLane n after) (n := n) (v := verdict)
      (State.lane_setLane_self _) (hnot ha) hap hce hao
    rw [← ht] at hlane hport hother hmem
    have hk (k : PortNo) : (X.setLane n after).port k = s.port k := State.port_of_ports hports k
    have hwaits : after.bothWait verdict = { after with
        run := l.run.map fun r => { r with closed := true }, held := some (.verdict verdict)
        stalls := { Stalls.clear with ringFull := true } } := by
      unfold Lane.bothWait
      rw [har]
      have hstalls' : after.stalls = Stalls.clear := by rw [hkept]; exact hstalls
      have hgrant' : after.grant = none := by rw [hkept]; exact hgrant
      rw [hstalls', ← hgrant']
    refine ⟨hbecomes (hlane.trans hwaits), ?_, fun k hkp => ?_, hmem.trans hmemory⟩
    · rw [hport, hk]
      rfl
    · rw [hother k hkp, hk]
  · have ht := hbelow hne
    have hgrown : after.grownRun verdict = run := by
      refine Lane.grownRun_eq (by rw [hverdict]) (by rw [hverdict]) ?_
      rw [har]
      exact hrun
    have hclosed : run.closed = false := by
      rcases hrun with ⟨hr, rfl⟩ | ⟨r, hr, rfl⟩
      · rfl
      · exact hopen r hr
    refine ⟨fun hlen => ?_, fun hlen hc => ?_⟩
    · have hgrows := State.report_grows (e := X.setLane n after) (n := n) (v := verdict) (State.lane_setLane_self _) (hjoins.mpr ha)
        (by rw [hgrown]; exact hlen)
      rw [← ht, hgrown, State.setLane_setLane] at hgrows
      refine ⟨hbecomes ?_, ?_, ?_⟩
      · rw [hgrows, State.lane_setLane_self]
      · rw [hgrows]
        exact hports
      · rw [hgrows]
        exact hmemory
    · obtain ⟨hlane, hwrote⟩ := State.report_twelfth (s := s) (e := X.setLane n after) (n := n) (v := verdict)
        (State.lane_setLane_self _) hports hmemory (hjoins.mpr ha) hap hc (by rw [hgrown]; exact hclosed) (by rw [hgrown]; exact hlen)
      rw [← ht] at hlane hwrote
      rw [hgrown] at hwrote
      exact ⟨hbecomes hlane, hwrote⟩
  · have ht := hhigh heq halert
    obtain ⟨hlane, hwrote⟩ := State.Wrote.report_flagged hports hmemory (hnot ha) hap hc (har.trans hr) hah .journalHigh (.lanes [n])
    rw [← ht] at hlane hwrote
    exact ⟨hbecomes hlane, hwrote⟩

end Sys2Proof.Machine

/-! PROOFS. Lookups that place a new chunk (R12, R77, R78; O47). -/

namespace Sys2Proof.Machine

open Sys2Proof

variable {s t u v : State} {n : LaneNo} {p : PortNo} {l : Lane} {c : Chunk} {q b number place : Nat} {i : Fin 16} {x : Entry}
  {errs : List DramError} {stalls : Stalls}

/-! ### A chunk placed is created and disposed of (R12, R66, R80) -/

/-- A lookup that finds no entry and a FREE slot is NEW (R12). -/
theorem State.lookup_new (hd : s.device ≠ .passthrough) (hread : s.readBucket (bucketOf c.fingerprint) = (false, s))
    (hlacks : (s.bucket (bucketOf c.fingerprint)).Lacks c.fingerprint) (hfree : (s.bucket (bucketOf c.fingerprint)).FirstFree i) :
    s.lookup n c = s.lookupNew n c (bucketOf c.fingerprint) i := by
  unfold State.lookup
  rw [if_neg hd]
  dsimp only
  rw [hread]
  dsimp only
  rw [findFingerprint_lacks hlacks]
  dsimp only
  rw [freeSlot?_first hfree]

theorem State.canWrite_flaggedAt (s : State) (among : PortNo → Bool) (f : Flag) (carry : Carry) (p : PortNo) :
    (s.flaggedAt among f carry).canWrite p = s.canWrite p := by
  have hport := s.flaggedAt_port_eq among f carry p
  apply State.canWrite_congr <;> rw [hport]

/-- A lane stays poised where its record changes in its containers alone. -/
theorem State.Poised.of_lane (h : s.Poised n p c q stalls) {openC : Option Nat} {unsettled : List Nat}
    (hlane : v.lane n = { s.lane n with openC := openC, unsettled := unsettled }) (hcan : v.canWrite p = true) (hturns : v.turns = []) :
    v.Poised n p c q stalls where
  active := by rw [hlane]; exact h.active
  chunk := by rw [hlane]; exact h.chunk
  stalls := by rw [hlane]; exact h.stalls
  owner := by rw [hlane]; exact h.owner
  held := by rw [hlane]; exact h.held
  grant := by rw [hlane]; exact h.grant
  items := by rw [hlane]; exact h.items
  seq := by rw [hlane]; exact h.seq
  turns := hturns
  ring := hcan
  run := by rw [hlane]; exact h.run
  cls := by rw [hlane]; exact h.cls
  window := by rw [hlane]; exact h.window
  journal := by rw [hlane]; exact h.journal

/-- A chunk of a poised lane is disposed of: the lane record takes the verdict, which is written (R66). -/
theorem State.Poised.dispose (h : s.Poised n p c q stalls) (r : Result) :
    s.dispose n c r =
      ((s.writeJournalPlace n (s.lane n).journal.length).setLane n
        ((s.lane n).disposed q (journalEntry q c r) (decide (r.kind = .dup)))).ringPut p (.verdict (verdictOf n (s.lane n) q c r)) :=
  State.dispose_plain h.owner h.ring h.run h.held h.cls h.window h.grant h.items h.seq.1 h.seq.2 h.journal

/-- The verdict of a new chunk (R13, R68). -/
def newVerdict (n : LaneNo) (l : Lane) (c : Chunk) (q id number place : Nat) : Verdict :=
  { lane := n, seq := q, kind := .new, resurrected := false, waited := c.waited, reason := .none, cut := c.cut
    offset := c.first, length := c.length, chunkId := some id, container := number, place := place
    fingerprint := c.fingerprint, check := c.check, tag := l.tag, cls := .cold }

/-- From `v`, in which chunk `c` has its place, to `t`, in which its entry stands and its verdict is written. -/
structure State.Created (v t : State) (n : LaneNo) (p : PortNo) (c : Chunk) (q b : Nat) (i : Fin 16) (number place : Nat)
    (ref : SlotRef) : Prop where
  slot : v.SlotBecomes t b i { generation := ref.generation, entry := some (newEntry n c v.epoch number place) }
  lane : v.LaneBecomes t n ((v.lane n).disposed q { seq := q, what := .ref (chunkId ref), length := c.length } false)
  wrote : (v.crossed (v.occupancy + 1)).Wrote t p (.verdict (newVerdict n (v.lane n) c q (chunkId ref) number place))
    ((v.crossed (v.occupancy + 1)).port p).advanced
  frame : t = { v with
    ports := t.ports, memory := t.memory, lanes := t.lanes, index := t.index, occupancy := v.occupancy + 1
    damage := v.damage.filter fun d => decide (d.place ≠ .journal n (v.lane n).journal.length)
    table := v.table.map fun k => if k.number = number then { k with members := k.members ++ [ref] } else k }

theorem State.Poised.created (h : v.Poised n p c q stalls) (hquiet : v.CrossesQuietly (v.occupancy + 1))
    (hplace : s.place n c.length = (some (number, place), v)) {ref : SlotRef}
    (href : ref = { bucket := b, slot := i, generation := (v.bucket b)[i].generation }) :
    v.Created (s.lookupNew n c b i) n p c q b i number place ref := by
  have hslot := State.slotBecomes_updateEntry (s := v) (b := b) (i := i) (newEntry n c v.epoch number place)
  have hcreate : v.createEntry b i (newEntry n c v.epoch number place) =
      { (v.updateEntry b i (newEntry n c v.epoch number place)).crossed (v.occupancy + 1) with occupancy := v.occupancy + 1 } :=
    State.changeOccupancy_quiet (s := v.updateEntry b i (newEntry n c v.epoch number place)) hquiet
  have hgen : (v.bucket b)[i].generation = ref.generation := by rw [href]
  rw [hgen] at hslot
  obtain ⟨u, hu⟩ : ∃ u, u = v.updateEntry b i (newEntry n c v.epoch number place) := ⟨_, rfl⟩
  have huframe : u = { v with index := u.index } := by rw [hu]; rfl
  rw [← hu] at hslot hcreate
  obtain ⟨w, hw⟩ : ∃ w : State, w = { v with
    ports := (v.crossed (v.occupancy + 1)).ports, index := u.index, occupancy := v.occupancy + 1
    table := v.table.map fun k => if k.number = number then { k with members := k.members ++ [ref] } else k } := ⟨_, rfl⟩
  have hlookup : s.lookupNew n c b i = w.dispose n c ((newEntry n c v.epoch number place).result .new (chunkId ref) false) := by
    have hmod : (v.createEntry b i (newEntry n c v.epoch number place)).modContainer number
        (fun k => { k with members := k.members ++ [ref] }) = w := by
      rw [hcreate, hw, huframe]
      rfl
    unfold State.lookupNew
    rw [hplace]
    dsimp only
    rw [← href, hmod]
  have hcan : w.canWrite p = true := by
    rw [← h.ring, ← v.canWrite_flaggedAt _ .occupancy .none]
    exact State.canWrite_of_ports (by rw [hw]; rfl) p
  have hposed : w.Poised n p c q stalls := h.of_lane (openC := (v.lane n).openC) (unsettled := (v.lane n).unsettled)
    (by rw [hw]; rfl) hcan (by rw [hw]; exact h.turns)
  have hwlane (m : LaneNo) : w.lane m = v.lane m := by rw [hw]; rfl
  rw [hlookup, hposed.dispose, hwlane]
  have hverdict : verdictOf n (v.lane n) q c ((newEntry n c v.epoch number place).result .new (chunkId ref) false) =
      newVerdict n (v.lane n) c q (chunkId ref) number place := by
    unfold verdictOf
    rw [h.cls]
    rfl
  have hdup : decide (((newEntry n c v.epoch number place).result VerdictKind.new (chunkId ref) false).kind = .dup) = false := rfl
  have hentry : journalEntry q c ((newEntry n c v.epoch number place).result .new (chunkId ref) false) =
      { seq := q, what := .ref (chunkId ref), length := c.length } := rfl
  rw [hverdict, hdup, hentry]
  generalize hl : (v.lane n).disposed q { seq := q, what := .ref (chunkId ref), length := c.length } false = l
  obtain ⟨e, he⟩ : ∃ e, e = (w.writeJournalPlace n (v.lane n).journal.length).setLane n l := ⟨_, rfl⟩
  rw [← he]
  have hwrote := State.wrote_ringPut_of (s := v.crossed (v.occupancy + 1)) (e := e)
    ((v.canWrite_flaggedAt _ _ _ p).trans h.ring) (by rw [he, hw]; rfl) (by rw [he, hw]; rfl)
    (.verdict (newVerdict n (v.lane n) c q (chunkId ref) number place))
  have hframe := State.ringPut_frame e p (.verdict (newVerdict n (v.lane n) c q (chunkId ref) number place))
  generalize e.ringPut p (.verdict (newVerdict n (v.lane n) c q (chunkId ref) number place)) = t at *
  have hlane (m : LaneNo) : t.lane m = e.lane m := by rw [hframe]; rfl
  have hindex : t.index = u.index := by rw [hframe, he, hw]; rfl
  refine ⟨⟨?_, fun b' j hne => ?_⟩, ⟨?_, fun m hm => ?_⟩, hwrote, ?_⟩
  · rw [State.bucket, hindex]
    exact hslot.1
  · rw [State.bucket, hindex]
    exact hslot.2 b' j hne
  · rw [hlane, he, State.lane_setLane_self, hl]
  · rw [hlane, he, (State.laneBecomes_setLane (s := w.writeJournalPlace n (v.lane n).journal.length) l).2 m hm]
    exact hwlane m
  · rw [hframe, he, hw]
    rfl

/-! ### Changes of the containers of a number -/

theorem mapNumbered_mapNumbered {k : Nat} (cs : List Container) {f : Container → Container} (g : Container → Container)
    (hf : ∀ d, (f d).number = d.number) :
    ((cs.map fun d => if d.number = k then f d else d).map fun d => if d.number = k then g d else d) =
      cs.map fun d => if d.number = k then g (f d) else d := by
  rw [List.map_map]
  refine List.map_congr_left fun d _ => ?_
  by_cases hd : d.number = k
  · simp only [Function.comp, hd, if_true, hf]
  · simp only [Function.comp, hd, if_false]

/-- A change of the container newly taken leaves the earlier ones (R74). -/
theorem mapNumbered_newest {k : Nat} {cs : List Container} {f : Container → Container} (hbelow : ∀ d ∈ cs, d.number < k)
    {new : Container} (hnew : new.number = k) :
    ((cs ++ [new]).map fun d => if d.number = k then f d else d) = cs ++ [f new] := by
  have hkept : (cs.map fun d => if d.number = k then f d else d) = cs := by
    refine (List.map_congr_left fun d hd => ?_).trans (List.map_id cs)
    exact if_neg (Nat.ne_of_lt (hbelow d hd))
  rw [List.map_append, hkept, List.map_cons, List.map_nil, if_pos hnew]

/-! ### The place of a chunk (R75, R77, R78) -/

theorem State.place_fits {k : Container} (ho : (s.lane n).openC = some k.number) (hk : s.container? k.number = some k) {len : Nat}
    (hfits : k.fill + len ≤ 4194304) :
    s.place n len = (some (k.number, k.fill), s.modContainer k.number fun d => { d with fill := d.fill + roundUp64 len }) := by
  unfold State.place
  rw [ho, Option.bind_some, hk]
  exact if_pos hfits

theorem State.canTake_iff : s.canTake (some p) = true ↔
    s.counter ≤ 4294967295 ∧ s.table.length < 256 ∧ (s.port p).notices.length < 256 := by
  unfold State.canTake
  rw [Bool.and_eq_true, Bool.and_eq_true, and_assoc]
  exact and_congr decide_eq_true_iff (and_congr decide_eq_true_iff decide_eq_true_iff)

/-- A chunk that needs a new container goes to the start of the one taken for it (R75, R77). -/
theorem State.placeInNew_taken (hp : (s.lane n).owner = some p) (hc : s.counter ≤ 4294967295)
    (ht : s.table.length < 256) (hn : (s.port p).notices.length < 256) (len : Nat) :
    s.placeInNew n len = (some (s.counter, 0), s.takeContainer n p (roundUp64 len)) := by
  unfold State.placeInNew
  rw [hp]
  exact if_pos (State.canTake_iff.mpr ⟨hc, ht, hn⟩)

/-- With no open container the chunk needs a new one. -/
theorem State.place_new (ho : (s.lane n).openC = none) (len : Nat) : s.place n len = s.placeInNew n len := by
  unfold State.place
  rw [ho]
  rfl

/-- An open container that the chunk does not fit is sealed FULL before a new one is taken (R78, R83). -/
theorem State.place_full {k : Container} (ho : (s.lane n).openC = some k.number) (hk : s.container? k.number = some k) {len : Nat}
    (hfull : 4194304 < k.fill + len) : s.place n len = (s.sealContainer k.number .full).placeInNew n len := by
  unfold State.place
  rw [ho, Option.bind_some, hk]
  exact if_neg (by simp only [Config.containerSize]; omega)

theorem mapNumbered_below {k j : Nat} {cs : List Container} {f : Container → Container} (hbelow : ∀ d ∈ cs, d.number < k)
    (hf : ∀ d, (f d).number = d.number) : ∀ d ∈ cs.map fun d => if d.number = j then f d else d, d.number < k := by
  intro d hd
  obtain ⟨d', hd', rfl⟩ := List.mem_map.mp hd
  split
  · rw [hf]
    exact hbelow d' hd'
  · exact hbelow d' hd'

/-- The open container that a chunk does not fit is sealed, its notice written, and the chunk placed at the start of the next one. -/
theorem State.place_sealed {k : Container} {len : Nat} (howner : (s.lane n).owner = some p) (hc : s.canWrite p = true)
    (hopen : (s.lane n).openC = some k.number) (hk : s.container? k.number = some k) (ho : k.state = .opened) (hn : k.ownerLane = n)
    (hp : k.ownerPort = p) (hover : 4194304 < k.fill + len) (hcounter : s.counter ≤ 4294967295) (htable : s.table.length < 256)
    (hnotices : (s.port p).notices = []) (hstarved : s.NoneStarvedOfContainers) :
    ∃ v, s.place n len = (some (s.counter, 0), v) ∧
      v.lane n = { s.lane n with openC := some s.counter, unsettled := (s.lane n).unsettled ++ [s.counter] } ∧
      (∀ m, m ≠ n → v.lane m = s.lane m) ∧
      s.Wrote v p (.container { kind := .sealed .full s.policy.settleLimit, lane := n, container := k.number, fill := k.fill
                                members := k.members.length }) (s.port p).advanced ∧
      v = { s with
        ports := v.ports, memory := v.memory, lanes := v.lanes, counter := s.counter + 1
        table := (s.table.map fun d =>
            if d.number = k.number then { d with state := .sealed .full (some (s.policy.settleLimit * 1000)) } else d) ++
          [{ number := s.counter, ownerLane := n, ownerPort := p, state := .opened, fill := roundUp64 len, members := [], waiters := [] }] } := by
  obtain ⟨hsealed, hsealedFrame⟩ := State.sealContainer_written hk ho (by rw [hp]; exact hc) (by rw [hp]; exact hnotices)
    hstarved .full rfl
  have hsealNotice : s.sealNotice k .full =
      { kind := .sealed .full s.policy.settleLimit, lane := n, container := k.number, fill := k.fill, members := k.members.length } := by
    rw [State.sealNotice, hn]
  rw [hp, hsealNotice] at hsealed
  have hlanes := State.sealing_lanes (k := k) .full rfl (by rw [hn]; exact hopen)
  rw [hn] at hlanes
  have hplace := State.place_full hopen hk hover
  generalize s.sealContainer k.number .full = e at *
  have helane (m : LaneNo) : e.lane m = (s.setLane n { s.lane n with openC := none }).lane m := by
    rw [State.lane, hsealedFrame]
    exact congrArg (fun ls : Vector Lane 64 => ls[m]) hlanes
  have hen : e.lane n = { s.lane n with openC := none } := by rw [helane, State.lane_setLane_self]
  have hetable : e.table = s.table.map fun d =>
      if d.number = k.number then { d with state := .sealed .full (some (s.policy.settleLimit * 1000)) } else d := by
    rw [hsealedFrame]
    rfl
  have hecounter : e.counter = s.counter := by rw [hsealedFrame]; rfl
  have henotices : (e.port p).notices = [] := by
    obtain ⟨producer, pass, hadvanced⟩ := Port.advanced_eq (s.port p)
    rw [hsealed.port, hadvanced]
    exact hnotices
  have htaken := State.placeInNew_taken (s := e) (n := n) (p := p) (by rw [hen]; exact howner) (by rw [hecounter]; exact hcounter)
    (by rw [hetable, List.length_map]; exact htable) (by rw [henotices]; exact Nat.zero_lt_succ _) len
  rw [htaken, hecounter] at hplace
  have hself : (e.takeContainer n p (roundUp64 len)).lane n =
      { e.lane n with openC := some e.counter, unsettled := (e.lane n).unsettled ++ [e.counter] } := State.lane_setLane_self _
  refine ⟨_, hplace, ?_, fun m hm => ?_, hsealed.result_of_same rfl rfl, ?_⟩
  · rw [hself, hen, hecounter]
  · exact ((State.laneBecomes_setLane _).2 m hm).trans ((helane m).trans ((State.laneBecomes_setLane _).2 m hm))
  · have hframe : e.takeContainer n p (roundUp64 len) = { e with
        lanes := (e.takeContainer n p (roundUp64 len)).lanes, counter := e.counter + 1
        table := e.table ++ [{ number := e.counter, ownerLane := n, ownerPort := p, state := .opened, fill := roundUp64 len
                               members := [], waiters := [] }] } := rfl
    rw [hframe, hetable, hecounter, hsealedFrame]
    rfl

/-! ### O47 -/

section Created

variable {ref : SlotRef}

theorem State.Created.slot_of (h : v.Created t n p c q b i number place ref) (hindex : v.index = s.index) (hepoch : v.epoch = s.epoch)
    (hx : newEntry n c s.epoch number place = x) : s.SlotBecomes t b i { generation := ref.generation, entry := some x } := by
  have hbucket (b' : Nat) : v.bucket b' = s.bucket b' := by rw [State.bucket, hindex]; rfl
  refine ⟨?_, fun b' j hne => ?_⟩
  · rw [h.slot.1, hepoch, hx]
  · rw [h.slot.2 b' j hne, hbucket]

theorem State.Created.lane_of (h : v.Created t n p c q b i number place ref) (hl : v.lane n = l)
    (hother : ∀ m, m ≠ n → v.lane m = s.lane m) {id : Nat} (hid : chunkId ref = id) :
    s.LaneBecomes t n (l.disposed q { seq := q, what := .ref id, length := c.length } false) := by
  subst hl hid
  exact ⟨h.lane.1, fun m hm => (h.lane.2 m hm).trans (hother m hm)⟩

theorem State.crossed_ports (hports : v.ports = s.ports) (hocc : v.occupancy = s.occupancy) (k : Nat) :
    (v.crossed k).ports = (s.crossed k).ports := by
  unfold State.crossed State.flaggedAt State.port
  rw [hports, hocc]

theorem State.Created.wrote_of (h : v.Created t n p c q b i number place ref) (hports : v.ports = s.ports) (hmemory : v.memory = s.memory)
    (hocc : v.occupancy = s.occupancy) {id : Nat} (hid : chunkId ref = id) {vd : Verdict}
    (hvd : newVerdict n (v.lane n) c q id number place = vd) :
    (s.crossed (s.occupancy + 1)).Wrote t p (.verdict vd) ((s.crossed (s.occupancy + 1)).port p).advanced := by
  have hwrote := h.wrote
  rw [hid, hvd, hocc] at hwrote
  have hsame := State.crossed_ports hports hocc (s.occupancy + 1)
  rw [State.port_of_ports hsame p] at hwrote
  exact hwrote.of_same hsame hmemory

end Created

/-! ### Two records with a crossing between them -/

/-- Flags without an ATTENTION record leave what was written (R182). -/
theorem State.Wrote.flaggedAt {a : Response} {q : Port} (h : s.Wrote t p a q) (among : PortNo → Bool) (f : Flag) (carry : Carry) :
    (s.flaggedAt among f carry).Wrote (t.flaggedAt among f carry) p a (if among p then q.flagged f carry else q) where
  record := by
    have hs := s.flaggedAt_port_eq among f carry p
    have ht := t.flaggedAt_port_eq among f carry p
    have hrecord := h.record
    unfold State.ringRecord at hrecord ⊢
    rw [hs, ht]
    exact hrecord
  port := by rw [State.flaggedAt_port, h.port]
  otherPorts k hk := by
    obtain ⟨hport, hmem⟩ := h.otherPorts k hk
    rw [State.flaggedAt_port, State.flaggedAt_port, hport]
    exact ⟨rfl, hmem⟩
  ring g b hg hb := by
    have hs := s.flaggedAt_port_eq among f carry p
    rw [hs] at hg hb
    exact h.ring g b hg hb

/-- A port unit whose ring has moved on sees the crossings it saw (R25). -/
theorem Port.sees_advanced (q : Port) (a b : Nat) : q.advanced.sees a b = q.sees a b := by
  obtain ⟨producer, pass, h⟩ := Port.advanced_eq q
  rw [h]
  rfl

theorem State.Wrote.sees {a : Response} (h : s.Wrote t p a (s.port p).advanced) (k j : Nat) (r : PortNo) :
    (t.port r).sees k j = (s.port r).sees k j := by
  by_cases hr : r = p
  · rw [hr, h.port, Port.sees_advanced]
  · rw [(h.otherPorts r hr).1]

theorem State.Wrote.crossesQuietly {a : Response} (h : s.Wrote t p a (s.port p).advanced) (hocc : t.occupancy = s.occupancy) {k : Nat}
    (hquiet : s.CrossesQuietly k) : t.CrossesQuietly k := by
  rcases hquiet with hloud | hunseen
  · refine .inl fun r hr => ?_
    by_cases hrp : r = p
    · subst hrp
      obtain ⟨producer, pass, hadvanced⟩ := Port.advanced_eq (s.port r)
      rw [State.attached, h.port, hadvanced] at hr
      rw [h.port, hadvanced]
      exact hloud r hr
    · have hport := (h.otherPorts r hrp).1
      rw [State.attached, hport] at hr
      rw [hport]
      exact hloud r hr
  · exact .inr fun r => by rw [h.sees, hocc]; exact hunseen r

/-- The crossing falls between two records of the ring. -/
theorem State.Wrote.crossed {a : Response} (h : s.Wrote t p a (s.port p).advanced) (hocc : t.occupancy = s.occupancy) (k : Nat) :
    (s.crossed k).Wrote (t.crossed k) p a ((s.crossed k).port p).advanced := by
  have hamong : (fun r => (t.port r).sees t.occupancy k) = fun r => (s.port r).sees s.occupancy k :=
    funext fun r => by rw [h.sees, hocc]
  have hport : ((s.crossed k).port p).advanced =
      if (s.port p).sees s.occupancy k then (s.port p).advanced.flagged .occupancy .none else (s.port p).advanced := by
    rw [State.crossed, State.flaggedAt_port]
    split
    · exact Port.flagged_advanced _ _ _
    · rfl
  rw [hport]
  unfold State.crossed
  rw [hamong]
  exact h.flaggedAt _ _ _

/-- Settles O47: the chunk's place in the open container, a new one, or a new one after a FULL seal; its creation is the same in all. -/
theorem lookupPlacesNewChunk : Obligations.LookupPlacesNewChunk := by
  unfold Obligations.LookupPlacesNewChunk
  rintro s n p c q errs b i ref id entry verdict damage full hposed hd rfl hread hquiet hlacks hfree href hid hentry hverdict rfl
    hdamage
  have hj := hposed.journal
  have hexec : exec (.lookup n errs) s = .next ((s.arise errs).lookupNew n c (bucketOf c.fingerprint) i) := by
    rw [hposed.toSeeks.exec_lookup (by omega)]
    rw [State.lookup_new (s := s.arise errs) hd (State.readBucket_arise hread) hlacks hfree]
  have hchunkId : chunkId ref = id := by rw [hid, href]; rfl
  have hnewEntry (number place : Nat) : newEntry n c s.epoch number place = entry number place := (hentry number place).symm
  have hnewVerdict {l : Lane} (hl : l.tag = (s.lane n).tag) (number place : Nat) :
      newVerdict n l c q id number place = verdict number place := by
    rw [hverdict, newVerdict, hl]
  refine ⟨fun k hopen hk hfits => ?_, fun hopen hcounter htable hnotices hbelow => ?_,
    fun k g hopen hk ho hn hp hover hcounter htable hnotices hstarved hg hfree2 hbelow => ?_⟩
  · have hplace := State.place_fits (s := s.arise errs) hopen hk hfits
    generalize hv : (s.arise errs).modContainer k.number (fun d => { d with fill := d.fill + roundUp64 c.length }) = v at hplace
    have hlane (m : LaneNo) : v.lane m = s.lane m := by rw [← hv]; rfl
    have hvposed : v.Poised n p c q Stalls.clear := hposed.of_lane (openC := (s.lane n).openC) (unsettled := (s.lane n).unsettled)
      (hlane n) (by rw [← hv]; exact hposed.ring) (by rw [← hv]; exact hposed.turns)
    have h := hvposed.created (by rw [← hv]; exact hquiet) hplace (b := bucketOf c.fingerprint) (i := i) (ref := ref)
      (by rw [← hv]; exact href)
    generalize (s.arise errs).lookupNew n c (bucketOf c.fingerprint) i = t at *
    refine ⟨t, hexec, h.slot_of (by rw [← hv]; rfl) (by rw [← hv]; rfl) (hnewEntry _ _), h.lane_of (hlane n) (fun m _ => hlane m) hchunkId,
      h.wrote_of (by rw [← hv]; rfl) (by rw [← hv]; rfl) (by rw [← hv]; rfl) hchunkId (hnewVerdict (by rw [hlane]) _ _), ?_⟩
    have htable : (v.table.map fun d => if d.number = k.number then { d with members := d.members ++ [ref] } else d) =
        s.table.map fun d =>
          if d.number = k.number then { d with fill := d.fill + (c.length + 63) / 64 * 64, members := d.members ++ [ref] } else d := by
      rw [← hv]
      exact mapNumbered_mapNumbered _ _ (fun d => rfl)
    rw [h.frame, htable, hlane, hdamage, ← hv]
    rfl
  · have hplace : (s.arise errs).place n c.length = (some (s.counter, 0), (s.arise errs).takeContainer n p (roundUp64 c.length)) :=
      (State.place_new (s := s.arise errs) hopen _).trans
        (State.placeInNew_taken (s := s.arise errs) hposed.owner hcounter htable hnotices _)
    generalize hv : (s.arise errs).takeContainer n p (roundUp64 c.length) = v at hplace
    have hlane : v.lane n = { s.lane n with openC := some s.counter, unsettled := (s.lane n).unsettled ++ [s.counter] } := by
      rw [← hv]
      exact State.lane_setLane_self _
    have hother (m : LaneNo) (hm : m ≠ n) : v.lane m = s.lane m := by
      rw [← hv]
      exact (State.laneBecomes_setLane _).2 m hm
    have hvposed : v.Poised n p c q Stalls.clear :=
      hposed.of_lane hlane (by rw [← hv]; exact hposed.ring) (by rw [← hv]; exact hposed.turns)
    have h := hvposed.created (by rw [← hv]; exact hquiet) hplace (b := bucketOf c.fingerprint) (i := i) (ref := ref)
      (by rw [← hv]; exact href)
    generalize (s.arise errs).lookupNew n c (bucketOf c.fingerprint) i = t at *
    refine ⟨t, hexec, h.slot_of (by rw [← hv]; rfl) (by rw [← hv]; rfl) (hnewEntry _ _), h.lane_of hlane hother hchunkId,
      h.wrote_of (by rw [← hv]; rfl) (by rw [← hv]; rfl) (by rw [← hv]; rfl) hchunkId (hnewVerdict (by rw [hlane]) _ _), ?_⟩
    have hmembers := mapNumbered_newest (f := fun d => { d with members := d.members ++ [ref] }) hbelow
      (new := { number := s.counter, ownerLane := n, ownerPort := p, state := .opened, fill := roundUp64 c.length
                members := [], waiters := [] }) rfl
    have htable : (v.table.map fun d => if d.number = s.counter then { d with members := d.members ++ [ref] } else d) =
        s.table ++ [{ number := s.counter, ownerLane := n, ownerPort := p, state := .opened, fill := (c.length + 63) / 64 * 64
                      members := [ref], waiters := [] }] := by
      rw [← hv]
      exact hmembers
    rw [h.frame, htable, hlane, hdamage, ← hv]
    rfl
  · obtain ⟨v, hplace, hlane, hother, hnoticeAt, hvframe⟩ := State.place_sealed (s := s.arise errs) hposed.owner hposed.ring hopen hk ho
      hn hp hover hcounter htable hnotices hstarved
    have hplace : (s.arise errs).place n c.length = (some (s.counter, 0), v) := hplace
    have hlane : v.lane n = { s.lane n with openC := some s.counter, unsettled := (s.lane n).unsettled ++ [s.counter] } := hlane
    have hnotice := hnoticeAt.of_same (s := s) rfl rfl
    have hkeep : ((s.arise errs).port p).advanced = (s.port p).advanced := rfl
    rw [hkeep] at hnotice
    clear hnoticeAt hkeep
    have hocc : v.occupancy = s.occupancy := by rw [hvframe]; rfl
    have hindex : v.index = s.index := by rw [hvframe]; rfl
    have hepoch : v.epoch = s.epoch := by rw [hvframe]; rfl
    have hvposed : v.Poised n p c q Stalls.clear := hposed.of_lane hlane (State.canWrite_advanced hposed.ring hg hfree2 hnotice.port)
      (by rw [hvframe]; exact hposed.turns)
    have hvbucket : v.bucket (bucketOf c.fingerprint) = s.bucket (bucketOf c.fingerprint) := by rw [State.bucket, hindex]; rfl
    have h := hvposed.created (by rw [hocc]; exact hnotice.crossesQuietly hocc hquiet) hplace (b := bucketOf c.fingerprint) (i := i)
      (ref := ref) (by rw [hvbucket]; exact href)
    generalize (s.arise errs).lookupNew n c (bucketOf c.fingerprint) i = t at *
    have hvd := hnewVerdict (l := v.lane n) (by rw [hlane]) s.counter 0
    have hfirst := hnotice.crossed hocc (s.occupancy + 1)
    have hsecond := h.wrote
    rw [hchunkId, hvd, hocc] at hsecond
    have hunit := s.flaggedAt_port_eq (fun r => (s.port r).sees s.occupancy (s.occupancy + 1)) .occupancy .none p
    have hfullMemory : (s.crossed (s.occupancy + 1)).memory = s.memory := rfl
    have hcrossed : (s.crossed (s.occupancy + 1)).port p = { s.port p with summary := ((s.crossed (s.occupancy + 1)).port p).summary } :=
      hunit
    generalize s.crossed (s.occupancy + 1) = full at *
    generalize v.crossed (s.occupancy + 1) = w at *
    have hrings : (full.port p).Rings g := by
      rw [hcrossed]
      exact ⟨hg.ring, hg.size, hg.producer, hg.consumer⟩
    obtain ⟨hrecord, hrecord'⟩ := hfirst.pair hsecond hrings hrings.advanced.ring
      (by rw [hfirst.port]; exact hrings.advanced.advanced.ring) rfl rfl
    have hadvanced : (full.port p).advanced = { (s.port p).advanced with summary := (full.port p).summary } := by
      rw [hcrossed, Port.advanced_of_ring (q := { s.port p with summary := (full.port p).summary }) hg.ring, Port.advanced_of_ring hg.ring]
    have hproducer : (full.port p).producer = (s.port p).producer := by rw [hcrossed]
    have hpass : (full.port p).pass = (s.port p).pass := by rw [hcrossed]
    have hproducer' : (full.port p).advanced.producer = (s.port p).advanced.producer := by rw [hadvanced]
    have hpass' : (full.port p).advanced.pass = (s.port p).advanced.pass := by rw [hadvanced]
    rw [hproducer, hpass] at hrecord
    rw [hproducer', hpass'] at hrecord'
    refine ⟨t, hexec, h.slot_of hindex hepoch (hnewEntry _ _), h.lane_of hlane hother hchunkId, hrecord, hrecord', ?_, fun m hm => ?_, ?_⟩
    · rw [hsecond.port, hfirst.port]
    · obtain ⟨hport, hmem⟩ := hsecond.otherPorts m hm
      obtain ⟨hport', hmem'⟩ := hfirst.otherPorts m hm
      refine ⟨hport.trans hport', (hmem.trans hmem').trans ?_⟩
      rw [hfullMemory]
    · have hnewest := mapNumbered_newest (f := fun d => { d with members := d.members ++ [ref] })
        (cs := s.table.map fun d =>
          if d.number = k.number then { d with state := .sealed .full (some (s.policy.settleLimit * 1000)) } else d)
        (mapNumbered_below (f := fun d => { d with state := .sealed .full (some (s.policy.settleLimit * 1000)) }) hbelow fun d => rfl)
        (new := { number := s.counter, ownerLane := n, ownerPort := p, state := .opened, fill := roundUp64 c.length
                  members := [], waiters := [] }) rfl
      have hvtable : v.table = (s.table.map fun d =>
          if d.number = k.number then { d with state := .sealed .full (some (s.policy.settleLimit * 1000)) } else d) ++
          [{ number := s.counter, ownerLane := n, ownerPort := p, state := .opened, fill := roundUp64 c.length
             members := [], waiters := [] }] := by rw [hvframe]; rfl
      rw [h.frame, hvtable, hnewest, hlane, hdamage, hvframe]
      rfl

end Sys2Proof.Machine

/-! PROOFS. Lookups without an entry, that wait on another lane's chunk, or that stall for a container (R12, R14, R15, R75; O48). -/

namespace Sys2Proof.Machine

open Sys2Proof

variable {s t u v : State} {n m : LaneNo} {p : PortNo} {l : Lane} {c : Chunk} {q b : Nat} {i : Fin 16} {x : Entry} {k : Container}
  {errs : List DramError} {stalls : Stalls} {why : UnindexedReason}

/-- What a poised lane's disposal of a chunk does to the lane, to the ring, and to the journal place (R66). -/
theorem State.Poised.disposes (h : s.Poised n p c q stalls) {r : Result} (ht : s.dispose n c r = t) :
    s.LaneBecomes t n ((s.lane n).disposed q (journalEntry q c r) (decide (r.kind = .dup))) ∧
      s.Wrote t p (.verdict (verdictOf n (s.lane n) q c r)) (s.port p).advanced ∧
      t = { s with
        ports := t.ports, memory := t.memory, lanes := t.lanes
        damage := s.damage.filter fun d => decide (d.place ≠ .journal n (s.lane n).journal.length) } := by
  rw [h.dispose] at ht
  obtain ⟨e, he⟩ : ∃ e, e = (s.writeJournalPlace n (s.lane n).journal.length).setLane n
    ((s.lane n).disposed q (journalEntry q c r) (decide (r.kind = .dup))) := ⟨_, rfl⟩
  rw [← he] at ht
  have hwrote := State.wrote_ringPut_of (s := s) (e := e) h.ring (by rw [he]; rfl) (by rw [he]; rfl)
    (.verdict (verdictOf n (s.lane n) q c r))
  have hframe := State.ringPut_frame e p (.verdict (verdictOf n (s.lane n) q c r))
  rw [ht] at hwrote hframe
  have hlane (m : LaneNo) : t.lane m = e.lane m := by rw [hframe]; rfl
  refine ⟨⟨?_, fun m hm => ?_⟩, hwrote, ?_⟩
  · rw [hlane, he, State.lane_setLane_self]
  · rw [hlane, he]
    exact (State.laneBecomes_setLane (s := s.writeJournalPlace n (s.lane n).journal.length) _).2 m hm
  · rw [hframe, he]
    rfl

/-! ### NEW_UNINDEXED (R12) -/

/-- Why the chunk of a lookup can get no entry (R12). -/
def State.Unindexes (s : State) (c : Chunk) (why : UnindexedReason) : Prop :=
  s.device = .passthrough ∧ why = .passthrough ∨ s.device ≠ .passthrough ∧ bucketOf c.fingerprint ∈ s.poisonList ∧ why = .poisoned ∨
    s.device ≠ .passthrough ∧ s.readBucket (bucketOf c.fingerprint) = (false, s) ∧
      (s.bucket (bucketOf c.fingerprint)).Lacks c.fingerprint ∧
      (∀ i : Fin 16, (s.bucket (bucketOf c.fingerprint))[i].entry ≠ none) ∧ why = .bucketFull ∨
    s.device ≠ .passthrough ∧ s.readBucket (bucketOf c.fingerprint) = (false, s) ∧
      (∃ i x, (s.bucket (bucketOf c.fingerprint)).FirstWith c.fingerprint i x ∧ x.check ≠ c.check) ∧ why = .collision

/-- A lookup that finds an entry of the chunk's fingerprint goes on with it. -/
theorem State.lookup_found (hd : s.device ≠ .passthrough) (hread : s.readBucket (bucketOf c.fingerprint) = (false, s))
    (hfirst : (s.bucket (bucketOf c.fingerprint)).FirstWith c.fingerprint i x) :
    s.lookup n c = s.lookupFound n c (bucketOf c.fingerprint) i x := by
  unfold State.lookup
  rw [if_neg hd]
  dsimp only
  rw [hread]
  dsimp only
  rw [findFingerprint_first hfirst]

theorem State.Unindexes.lookup (h : s.Unindexes c why) : s.lookup n c = s.lookupUnindexed n c why := by
  rcases h with ⟨hd, rfl⟩ | ⟨hd, hpoisoned, rfl⟩ | ⟨hd, hread, hlacks, hfull, rfl⟩ | ⟨hd, hread, ⟨i, x, hfirst, hcheck⟩, rfl⟩
  · unfold State.lookup
    rw [if_pos hd]
  · unfold State.lookup
    rw [if_neg hd]
    dsimp only
    rw [State.readBucket_poisoned hpoisoned]
    dsimp only
    rw [State.passCheck_of_same rfl]
  · unfold State.lookup
    rw [if_neg hd]
    dsimp only
    rw [hread]
    dsimp only
    rw [findFingerprint_lacks hlacks]
    dsimp only
    rw [freeSlot?_full hfull]
  · rw [State.lookup_found hd hread hfirst, State.lookupFound, if_pos hcheck]

/-- A collision is counted with its chunk (R14). -/
def State.collidedFor (s : State) (why : UnindexedReason) : State := if why = .collision then s.collide else s

theorem State.collidedFor_eq (s : State) (why : UnindexedReason) :
    s.collidedFor why = { s with
      collisions := if why = .collision then (if s.collisions < 4294967295 then s.collisions + 1 else 4294967295) else s.collisions } := by
  unfold State.collidedFor
  split
  · rfl
  · rfl

theorem State.lookupUnindexed_placed {number place : Nat} (hplace : s.place n c.length = (some (number, place), v)) :
    s.lookupUnindexed n c why = (v.collidedFor why).dispose n c
      { kind := .newUnindexed, chunkId := none, container := number, place := place, resurrected := false, reason := why } := by
  unfold State.lookupUnindexed
  rw [hplace]
  rfl

/-! ### Waiting on another lane's chunk (R15, R94) -/

/-- A lookup that matches an entry PENDING for another lane waits on its container (R15). -/
theorem State.lookup_waits (hd : s.device ≠ .passthrough) (hread : s.readBucket (bucketOf c.fingerprint) = (false, s))
    (hfirst : (s.bucket (bucketOf c.fingerprint)).FirstWith c.fingerprint i x) (hcheck : x.check = c.check)
    (hpending : x.state = .pending m) (hm : m ≠ n) :
    s.lookup n c = s.waitOn n x.container
      { bucket := bucketOf c.fingerprint, slot := i, generation := (s.bucket (bucketOf c.fingerprint))[i].generation } := by
  rw [State.lookup_found hd hread hfirst, State.lookupFound, if_neg fun hne => hne hcheck, hpending]
  exact if_neg hm

/-- The lane record as its chunk waits on a container (R94). -/
def Lane.waitsOn (l : Lane) (number : Nat) : Lane :=
  { l with
    waitTarget := some number, chunk := l.chunk.map fun c => { c with waited := true }
    stalls := { l.stalls with waiting := true }, grant := none }

/-- The lane has joined the container's waiters, and the container is not yet sealed (R94). -/
def State.waiting (s : State) (n : LaneNo) (number : Nat) (r : SlotRef) : State :=
  (s.modContainer number fun d => { d with waiters := d.waiters ++ [(n, r)] }).setLane n ((s.lane n).waitsOn number)

theorem State.waitOn_eq (hr : (s.lane n).run = none) (number : Nat) (r : SlotRef) :
    s.waitOn n number r = (s.waiting n number r).sealContainer number .demand := by
  unfold State.waitOn
  dsimp only
  rw [State.stall_eq (by rw [State.lane_modLane]; exact hr)]
  rw [State.modLane, State.setLane_setLane, State.lane_setLane_self]
  rfl

/-- A container on which lanes are put or taken keeps its place in the table. -/
theorem State.container?_modContainer {number : Nat} (hk : s.container? number = some k) {f : Container → Container}
    (hf : ∀ d, (f d).number = d.number) : (s.modContainer number f).container? number = some (f k) := by
  unfold State.container? State.modContainer at *
  dsimp only
  generalize s.table = table at hk
  induction table with
  | nil => exact nomatch hk
  | cons d ds ih =>
    rw [List.find?_cons] at hk
    rw [List.map_cons, List.find?_cons]
    by_cases hd : d.number = number
    · rw [decide_eq_true hd] at hk
      obtain rfl : d = k := Option.some.inj hk
      rw [if_pos hd, hf, decide_eq_true hd]
    · rw [decide_eq_false hd] at hk
      rw [if_neg hd, decide_eq_false hd]
      exact ih hk

theorem State.sealContainer_of_sealed {number : Nat} {reason : SealReason} {deadline : Option Nat} (hk : s.container? number = some k)
    (hs : k.state = .sealed reason deadline) (why : SealReason) : s.sealContainer number why = s := by
  unfold State.sealContainer
  rw [hk]
  dsimp only
  rw [hs]

/-! ### Stalling for a container (R13, R75) -/

theorem State.placeInNew_none (hp : (s.lane n).owner = some p)
    (h : ¬(s.counter ≤ 4294967295 ∧ s.table.length < 256 ∧ (s.port p).notices.length < 256)) (len : Nat) :
    s.placeInNew n len = (none, if s.counter ≤ 4294967295 then s else s.setFlagAll .containersExhausted .none) := by
  unfold State.placeInNew
  rw [hp]
  exact if_neg fun htake => h (State.canTake_iff.mp htake)

theorem State.lookupNew_noPlace (hplace : s.place n c.length = (none, v)) : s.lookupNew n c b i = v.noPlace n := by
  unfold State.lookupNew
  rw [hplace]

/-- Settles O48: the four reasons, the wait on a container SEALED or sealed for it, and the two ways in which none can be taken. -/
theorem lookupUnindexedWaitsOrStalls : Obligations.LookupUnindexedWaitsOrStalls := by
  unfold Obligations.LookupUnindexedWaitsOrStalls
  rintro s n p c q errs b hposed rfl
  have hj := hposed.journal
  have hexec : exec (.lookup n errs) s = .next ((s.arise errs).lookup n c) := hposed.toSeeks.exec_lookup (by omega)
  have hwaits (number : Nat) : (s.lane n).waitsOn number = { s.lane n with
      waitTarget := some number, chunk := some { c with waited := true }, stalls := { Stalls.clear with waiting := true } } := by
    unfold Lane.waitsOn
    rw [hposed.chunk, hposed.stalls, ← hposed.grant]
    rfl
  have hstalled : ({ s.lane n with stalls := { (s.lane n).stalls with noContainer := true }, grant := none } : Lane) =
      { s.lane n with stalls := { Stalls.clear with noContainer := true } } := by
    rw [hposed.stalls, ← hposed.grant]
  refine ⟨fun k why hopen hk hfits hwhy => ?_, fun i x m k reason d hd hread hfirst hcheck hpending hm hk hsealed => ?_,
    fun i hd hread hlacks hfree hopen => ⟨fun hcounter hfull => ?_, fun hcounter halert => ?_⟩,
    fun i x m k o hd hread hfirst hcheck hpending hm hk ho howner hport hc hnotices hstarved => ?_⟩
  · have hunindexes : (s.arise errs).Unindexes c why := by
      rcases hwhy with h | ⟨hd, hb, rfl⟩ | ⟨hd, hread, hlacks, hfull, rfl⟩ | ⟨hd, hread, hfound, rfl⟩
      · exact .inl h
      · exact .inr (.inl ⟨hd, hb, rfl⟩)
      · exact .inr (.inr (.inl ⟨hd, State.readBucket_arise hread, hlacks, hfull, rfl⟩))
      · exact .inr (.inr (.inr ⟨hd, State.readBucket_arise hread, hfound, rfl⟩))
    rw [hunindexes.lookup, State.lookupUnindexed_placed (State.place_fits (s := s.arise errs) hopen hk hfits), State.collidedFor_eq] at hexec
    generalize hv : State.mk .. = v at hexec
    have hlane (m : LaneNo) : v.lane m = s.lane m := by rw [← hv]; rfl
    have hvposed : v.Poised n p c q Stalls.clear := hposed.of_lane (openC := (s.lane n).openC) (unsettled := (s.lane n).unsettled)
      (hlane n) (by rw [← hv]; exact hposed.ring) (by rw [← hv]; exact hposed.turns)
    have hports : v.ports = s.ports := by rw [← hv]; rfl
    have hmemory : v.memory = s.memory := by rw [← hv]; rfl
    generalize ht : v.dispose n c _ = t at hexec
    obtain ⟨⟨hself, hother⟩, hwrote, hframe⟩ := hvposed.disposes ht
    rw [hlane] at hself hwrote
    rw [State.port_of_ports hports p] at hwrote
    have hverdict : verdictOf n (s.lane n) q c
        { kind := .newUnindexed, chunkId := none, container := k.number, place := k.fill, resurrected := false, reason := why } =
        { lane := n, seq := q, kind := .newUnindexed, resurrected := false, waited := c.waited, reason := why, cut := c.cut
          offset := c.first, length := c.length, chunkId := none, container := k.number, place := k.fill
          fingerprint := c.fingerprint, check := c.check, tag := (s.lane n).tag, cls := .cold } := by
      unfold verdictOf
      rw [hposed.cls]
    rw [hverdict] at hwrote
    refine ⟨t, hexec, ⟨hself, fun m hm => (hother m hm).trans (hlane m)⟩,
      hwrote.of_same hports hmemory, ?_⟩
    rw [hframe, hlane, ← hv]
    rfl
  · rw [State.lookup_waits (s := s.arise errs) hd (State.readBucket_arise hread) hfirst hcheck hpending hm,
      State.waitOn_eq (by exact hposed.run)] at hexec
    generalize hr : SlotRef.mk .. = r at hexec
    have hkw : ((s.arise errs).waiting n x.container r).container? x.container = some { k with waiters := k.waiters ++ [(n, r)] } :=
      State.container?_modContainer (s := s.arise errs) hk fun d => rfl
    rw [State.sealContainer_of_sealed hkw (by exact hsealed)] at hexec
    refine ⟨_, hexec, ⟨?_, fun j hjn => ?_⟩, ?_⟩
    · refine (State.lane_setLane_self _).trans ?_
      exact hwaits _
    · exact (State.laneBecomes_setLane _).2 j hjn
    · rw [← hr]
      rfl
  · have hnone : ¬(s.counter ≤ 4294967295 ∧ s.table.length < 256 ∧ (s.port p).notices.length < 256) := by omega
    have hplace := (State.place_new (s := s.arise errs) hopen c.length).trans
      (State.placeInNew_none (s := s.arise errs) hposed.owner hnone c.length)
    rw [if_pos (by exact hcounter)] at hplace
    rw [State.lookup_new (s := s.arise errs) hd (State.readBucket_arise hread) hlacks hfree, State.lookupNew_noPlace hplace,
      State.noPlace, State.stall_eq (by exact hposed.run)] at hexec
    refine ⟨_, hexec, ⟨(State.lane_setLane_self _).trans ?_, fun j hjn => (State.laneBecomes_setLane _).2 j hjn⟩, rfl⟩
    exact hstalled
  · have hnone : ¬(s.counter ≤ 4294967295 ∧ s.table.length < 256 ∧ (s.port p).notices.length < 256) := by omega
    have hplace := (State.place_new (s := s.arise errs) hopen c.length).trans
      (State.placeInNew_none (s := s.arise errs) hposed.owner hnone c.length)
    rw [if_neg (by
      have hcounter' : (s.arise errs).counter = s.counter := rfl
      omega), State.setFlagAll_loud _ _ (by exact halert)] at hplace
    rw [State.lookup_new (s := s.arise errs) hd (State.readBucket_arise hread) hlacks hfree, State.lookupNew_noPlace hplace,
      State.noPlace, State.stall_eq (by exact hposed.run)] at hexec
    refine ⟨_, hexec, ⟨(State.lane_setLane_self _).trans ?_, fun j hjn => (State.laneBecomes_setLane _).2 j hjn⟩, rfl⟩
    exact hstalled
  · rw [State.lookup_waits (s := s.arise errs) hd (State.readBucket_arise hread) hfirst hcheck hpending hm,
      State.waitOn_eq (by exact hposed.run)] at hexec
    generalize hr : SlotRef.mk .. = r at hexec
    have hnumber : k.number = x.container := State.container?_number hk
    rw [← hnumber] at hexec ⊢
    obtain ⟨w, hw⟩ : ∃ w, w = (s.arise errs).waiting n k.number r := ⟨_, rfl⟩
    obtain ⟨k', hk'⟩ : ∃ k' : Container, k' = { k with waiters := k.waiters ++ [(n, r)] } := ⟨_, rfl⟩
    have hkw : w.container? k'.number = some k' := by
      rw [hw, hk']
      exact State.container?_modContainer (s := s.arise errs) (by rw [hnumber]; exact hk) fun d => rfl
    have hwlane (j : LaneNo) : w.lane j = if j = n then (s.lane n).waitsOn k.number else s.lane j := by
      rw [hw]
      by_cases hjn : j = n
      · rw [hjn, if_pos rfl]
        exact State.lane_setLane_self _
      · rw [if_neg hjn]
        exact (State.laneBecomes_setLane _).2 j hjn
    have hwstarved : w.NoneStarvedOfContainers := by
      intro j
      rw [hwlane]
      split
      · exact hstarved n
      · exact hstarved j
    have hkport : k'.ownerPort = o := by rw [hk']; exact hport
    have hklane : k'.ownerLane = m := by rw [hk']; exact howner
    have hknumber : k'.number = k.number := by rw [hk']
    rw [← hw, ← hknumber] at hexec
    obtain ⟨hwrote, hframe⟩ := State.sealContainer_written hkw (by rw [hk']; exact ho) (by rw [hkport, hw]; exact hc)
      (by rw [hkport, hw]; exact hnotices) hwstarved .demand rfl
    rw [hkport] at hwrote
    generalize w.sealContainer k'.number .demand = t at *
    have hnotice : w.sealNotice k' .demand =
        { kind := .sealed .demand s.policy.settleLimit, lane := m, container := k.number, fill := k.fill, members := k.members.length } := by
      rw [State.sealNotice, hklane, hk', hw]
      rfl
    rw [hnotice] at hwrote
    have hwports : w.ports = s.ports := by rw [hw]; rfl
    rw [State.port_of_ports hwports o] at hwrote
    refine ⟨t, hexec, fun j => ?_, hwrote.of_same hwports (by rw [hw]; rfl), ?_⟩
    · have hlane : t.lane j = (w.sealing k' .demand).lane j := by rw [hframe]; rfl
      rw [hlane, State.sealing, hklane, hknumber]
      by_cases hjm : j = m
      · rw [hjm, State.lane_modLane, if_neg hm, if_pos rfl]
        have hlanem : ∀ f, (w.modContainer k.number f).lane m = s.lane m := fun f => (hwlane m).trans (if_neg hm)
        rw [hlanem]
      · rw [if_neg hjm, State.modLane, (State.laneBecomes_setLane _).2 j hjm]
        refine (hwlane j).trans ?_
        rw [hwaits]
    · have htable : (w.sealing k' .demand).table = s.table.map fun d =>
          if d.number = k.number then
            { d with state := .sealed .demand (some (s.policy.settleLimit * 1000)), waiters := d.waiters ++ [(n, r)] }
          else d := by
        have hmapped : (w.sealing k' .demand).table = w.table.map fun d => if d.number = k'.number then
          { d with state := .sealed .demand (some (w.policy.settleLimit * 1000)) } else d := rfl
        rw [hmapped, hknumber, hw]
        exact mapNumbered_mapNumbered _ _ fun d => rfl
      have hsealing : w.sealing k' .demand = { s with
          lanes := (w.sealing k' .demand).lanes, damage := s.damage ++ errs, table := (w.sealing k' .demand).table } := by
        rw [hw]
        rfl
      rw [hframe, hsealing, htable, ← hr]
      rfl

end Sys2Proof.Machine

/-! PROOFS. The waiters of a settled container (R86, R91; O49). -/

namespace Sys2Proof.Machine

open Sys2Proof

variable {s t u v e : State} {n : LaneNo} {p : PortNo} {l : Lane} {c : Chunk} {q : Nat} {x : Entry} {g : Settling} {ref : SlotRef}
  {later : List (LaneNo × SlotRef)} {errs : List DramError} {stalls : Stalls}

/-! ### A waiter's completion begins (R86) -/

theorem exec_waiterCompletion (k : Nat) (errs : List DramError) (s : State) :
    exec (.waiterCompletion k errs) s = execWaiterCompletion k errs s := rfl

/-- A waiter that still has its turn holds the next one's completion back (R86, R91). -/
theorem exec_waiterCompletion_of_repeats {k : Nat} (h : s.repeatsFor k = true) : exec (.waiterCompletion k errs) s = .next s := by
  rw [exec_waiterCompletion, execWaiterCompletion]
  split
  · rfl
  · split
    · rfl
    · rw [h]
      rfl

theorem State.repeatsFor_nil (h : s.turns = []) (k : Nat) : s.repeatsFor k = false := by
  unfold State.repeatsFor
  rw [h]
  rfl

/-- The one settlement of the device, with its first waiter completed (R86). -/
theorem State.countWaiter_of_one (hs : s.settlings = [g]) (hw : g.waiters = (n, ref) :: later) (dup : Bool) :
    s.countWaiter g.container dup = { s with
      settlings := [{ g with waiters := later, dups := g.dups + bit dup, repeats := g.repeats + bit (!dup) }] } := by
  unfold State.countWaiter
  rw [hs, List.map_cons, List.map_nil, if_pos rfl, hw]
  rfl

section First

variable (hs : s.settlings = [g]) (hw : g.waiters = (n, ref) :: later) (ht : s.turns = []) (hc : (s.lane n).chunk = some c)
include hs hw ht hc

/-- The first waiter's member still stands: the waiter is a DUP (R86). -/
theorem exec_waiterCompletion_dup (he : (s.arise errs).waiterEntry g ref = (some x, e))
    (hcount : (e.waiterDup n c ref x).poisonCount = s.poisonCount) :
    exec (.waiterCompletion g.container errs) s = .next ((e.waiterDup n c ref x).countWaiter g.container true).finishSettlings := by
  have hfind : (s.settlings.find? fun h => decide (h.container = g.container)) = some g := by
    rw [hs, List.find?_cons, decide_eq_true rfl]
  rw [exec_waiterCompletion, execWaiterCompletion, hfind]
  dsimp only
  rw [hw]
  dsimp only
  rw [State.repeatsFor_nil ht, he, hc]
  dsimp only
  generalize e.waiterDup n c ref x = w at *
  have hsame : (w.countWaiter g.container true).poisonCount = s.poisonCount := hcount
  rw [State.passCheck_of_same hsame]
  rfl

/-- The first waiter's member is gone: the waiter is to repeat its lookup (R86, R91). -/
theorem exec_waiterCompletion_again (he : (s.arise errs).waiterEntry g ref = (none, e))
    (hcount : (e.releaseWaiters [n] (some g.container)).poisonCount = s.poisonCount) :
    exec (.waiterCompletion g.container errs) s =
      .next ((e.releaseWaiters [n] (some g.container)).countWaiter g.container false).finishSettlings := by
  have hfind : (s.settlings.find? fun h => decide (h.container = g.container)) = some g := by
    rw [hs, List.find?_cons, decide_eq_true rfl]
  rw [exec_waiterCompletion, execWaiterCompletion, hfind]
  dsimp only
  rw [hw]
  dsimp only
  rw [State.repeatsFor_nil ht, he, hc]
  dsimp only
  generalize e.releaseWaiters [n] (some g.container) = w at *
  have hsame : (w.countWaiter g.container false).poisonCount = s.poisonCount := hcount
  rw [State.passCheck_of_same hsame]
  rfl

end First

theorem State.waiterEntry_of_holds (hd : s.device ≠ .passthrough) (hm : ref ∈ g.members) (hread : s.Readable errs ref.bucket)
    (hx : s.Holds ref x) : (s.arise errs).waiterEntry g ref = (some x, s.arise errs) := by
  unfold State.waiterEntry
  rw [if_pos ⟨hd, hm⟩, State.readBucket_arise hread]
  exact congrArg (·, s.arise errs) (State.entry?_of (s := s.arise errs) hx)

theorem State.waiterEntry_of_gone (h : s.device = .passthrough ∨ ref ∉ g.members) : s.waiterEntry g ref = (none, s) := by
  unfold State.waiterEntry
  rw [if_neg]
  rintro ⟨hd, hm⟩
  rcases h with h | h
  · exact hd h
  · exact h hm

/-- One waiter that is handed its turn repeats its lookup next (R91). -/
theorem State.releaseWaiters_one (ht : s.turns = []) (hr : (s.lane n).stalls.ringFull = false) (settled : Option Nat) :
    s.releaseWaiters [n] settled = { s.setLane n (s.lane n).released with turns := [{ waiters := [n], settled := settled }] } := by
  have hlane : (s.setLane n (s.lane n).released).lane n = (s.lane n).released := State.lane_setLane_self _
  have hkept : [n].dropWhile (fun m => ((s.setLane n (s.lane n).released).lane m).stalls.ringFull) = [n] :=
    List.dropWhile_cons_of_neg (by rw [hlane]; exact fun h => Bool.false_ne_true (hr.symm.trans h))
  have hturns : (s.setLane n (s.lane n).released).turns = [] := ht
  unfold State.releaseWaiters State.settleTurns
  dsimp only [List.foldl_cons, List.foldl_nil]
  have hmod : (s.modLane n fun l => { l with waitTarget := none, stalls := { l.stalls with waiting := false } }) =
      s.setLane n (s.lane n).released := rfl
  rw [hmod, hturns]
  generalize s.setLane n (s.lane n).released = w at *
  have hfilter : ([({ waiters := [n], settled := settled } : Turns)].map fun q =>
      { q with waiters := q.waiters.dropWhile fun m => (w.lane m).stalls.ringFull }).filter (fun q => !q.waiters.isEmpty) =
        [{ waiters := [n], settled := settled }] := by
    rw [List.map_cons, List.map_nil]
    dsimp only
    rw [hkept]
    rfl
  exact congrArg (fun ts => ({ w with turns := ts } : State)) hfilter

/-! ### A waiter that is a DUP -/

/-- A waiter poised while it waits is poised once its wait has ended (R86). -/
theorem State.Poised.woken (h : s.Poised n p c q { Stalls.clear with waiting := true }) (hlane : v.lane n = (s.lane n).released)
    (hcan : v.canWrite p = true) (hturns : v.turns = []) : v.Poised n p c q Stalls.clear where
  active := by rw [hlane]; exact h.active
  chunk := by rw [hlane]; exact h.chunk
  stalls := by rw [hlane, Lane.released, h.stalls]; rfl
  owner := by rw [hlane]; exact h.owner
  held := by rw [hlane]; exact h.held
  grant := by rw [hlane]; exact h.grant
  items := by rw [hlane]; exact h.items
  seq := by rw [hlane]; exact h.seq
  turns := hturns
  ring := hcan
  run := by rw [hlane]; exact h.run
  cls := by rw [hlane]; exact h.cls
  window := by rw [hlane]; exact h.window
  journal := by rw [hlane]; exact h.journal

/-- The waiter's DUP: its entry's reference, its lane record and its VERDICT (R86). -/
structure State.WokenTo (s v : State) (n : LaneNo) (p : PortNo) (c : Chunk) (q : Nat) (errs : List DramError) (ref : SlotRef)
    (x : Entry) (vd : Verdict) : Prop where
  slot : s.SlotBecomes v ref.bucket ref.slot { generation := ref.generation, entry := some (x.increment 1 s.epoch) }
  lane : s.LaneBecomes v n ((s.lane n).released.disposed q { seq := q, what := .ref (chunkId ref), length := c.length } true)
  wrote : s.Wrote v p (.verdict vd) (s.port p).advanced
  frame : v = { s with
    ports := v.ports, memory := v.memory, lanes := v.lanes, index := v.index
    damage := (s.damage ++ errs).filter fun d => decide (d.place ≠ .journal n (s.lane n).journal.length) }

theorem State.Poised.waiterDup (h : s.Poised n p c q { Stalls.clear with waiting := true }) (hx : s.Holds ref x) {vd : Verdict}
    (hvd : verdictOf n (s.lane n).released q c (x.result .dup (chunkId ref) x.isZero) = vd) :
    s.WokenTo ((s.arise errs).waiterDup n c ref x) n p c q errs ref x vd := by
  have hslot := State.slotBecomes_updateEntry (s := s.arise errs) (b := ref.bucket) (i := ref.slot) (x.increment 1 s.epoch)
  have hgeneration : ((s.arise errs).bucket ref.bucket)[ref.slot].generation = ref.generation := congrArg Slot.generation hx
  rw [hgeneration] at hslot
  obtain ⟨u, hu⟩ : ∃ u, u = (s.arise errs).updateEntry ref.bucket ref.slot (x.increment 1 s.epoch) := ⟨_, rfl⟩
  have huframe : u = { s with index := u.index, damage := s.damage ++ errs } := by rw [hu]; rfl
  rw [← hu] at hslot
  have hunfold : (s.arise errs).waiterDup n c ref x = (u.setLane n (s.lane n).released).dispose n c
      (x.result .dup (chunkId ref) x.isZero) := by
    have hlane : u.lane n = s.lane n := by rw [huframe]; rfl
    rw [← hlane, hu]
    rfl
  obtain ⟨w, hw⟩ : ∃ w, w = u.setLane n (s.lane n).released := ⟨_, rfl⟩
  have hself : w.lane n = (s.lane n).released := by rw [hw, State.lane_setLane_self]
  have hother (m : LaneNo) (hm : m ≠ n) : w.lane m = s.lane m := by
    rw [hw, (State.laneBecomes_setLane _).2 m hm, huframe]
    rfl
  have hposed : w.Poised n p c q Stalls.clear :=
    h.woken hself (by rw [hw, huframe]; exact h.ring) (by rw [hw, huframe]; exact h.turns)
  rw [← hw] at hunfold
  have hports : w.ports = s.ports := by rw [hw, huframe]; rfl
  have hmemory : w.memory = s.memory := by rw [hw, huframe]; rfl
  obtain ⟨⟨hlane, hlanes⟩, hwrote, hframe⟩ := hposed.disposes hunfold.symm
  generalize (s.arise errs).waiterDup n c ref x = t at *
  rw [hself, hvd, State.port_of_ports hports p] at hwrote
  rw [hself] at hlane
  have hindex : t.index = u.index := by rw [hframe, hw]; rfl
  refine ⟨⟨?_, fun b' j hne => ?_⟩, ⟨hlane, fun m hm => (hlanes m hm).trans (hother m hm)⟩, hwrote.of_same hports hmemory, ?_⟩
  · rw [State.bucket, hindex]
    exact hslot.1
  · rw [State.bucket, hindex]
    exact hslot.2 b' j hne
  · rw [hframe, hself, hw, huframe]
    rfl

/-! ### O49 -/

theorem State.canWrite_of_port (h : t.port p = s.port p) : t.canWrite p = s.canWrite p := by
  unfold State.canWrite State.attached
  rw [h]

/-- A completion written is all that a state's ports and ring records gain by it (R177). -/
theorem State.complete_written {d : PortNo} (hc : s.canWrite d = true) (m : Completion) (ht : s.complete d m = t) :
    s.Wrote t d (.completion m) { (s.port d).advanced with hand := none } ∧ t = { s with ports := t.ports, memory := t.memory } := by
  have hframe := s.complete_frame d m
  rw [State.complete_discarded hc, ht] at hframe
  have hwrote := State.wrote_complete hc m
  rw [ht] at hwrote
  exact ⟨hwrote, hframe⟩

/-- A record stays readable when the next one is written, at the same port or another. -/
theorem State.Wrote.first {a a' : Response} {d : PortNo} {unit' : Port} {ring : Ring}
    (h : s.Wrote t p a (s.port p).advanced) (h' : t.Wrote u d a' unit') (hring : (s.port p).Rings ring)
    (hunit : unit'.ring = (t.port d).ring) : u.ringRecord p (s.port p).producer = a.bytes p (s.port p).pass := by
  by_cases hd : d = p
  · subst hd
    exact (h.pair h' hring hring.advanced.ring (by rw [hunit, h.port]; exact hring.advanced.ring) rfl rfl).1
  · obtain ⟨hport, hmem⟩ := h'.otherPorts p (fun he => hd he.symm)
    rw [← h.record, State.ringRecord, State.ringRecord, hport, hmem]

/-- Settles O49: the member that stands makes a DUP, one that is gone a turn, and the last waiter lets the completion follow. -/
theorem waitersComplete : Obligations.WaitersComplete := by
  unfold Obligations.WaitersComplete
  refine ⟨?_, fun s k errs h => exec_waiterCompletion_of_repeats ?repeats⟩
  case repeats =>
    obtain ⟨turn, hturn, hsettled⟩ := h
    exact List.any_eq_true.mpr ⟨turn, hturn, decide_eq_true hsettled⟩
  rintro s n p c q errs g ref later woken hposed hsettlings hwaiters rfl
  have hreleased : (s.lane n).released = { s.lane n with waitTarget := none, stalls := Stalls.clear } := by
    unfold Lane.released
    rw [hposed.stalls]
    rfl
  refine ⟨fun x id v hd hmember hread hx hid hv => ?dup, fun hlater hgone => ?again, fun hlater hgone hstray hcs => ?lastAgain⟩
  case dup =>
    have hchunkId : chunkId ref = id := hid.symm
    have hvd : verdictOf n (s.lane n).released q c (x.result .dup (chunkId ref) x.isZero) = v := by
      rw [hv, hchunkId, hreleased]
      unfold verdictOf
      dsimp only
      rw [hposed.cls]
      rfl
    have hw := hposed.waiterDup (errs := errs) hx hvd
    have hexec := exec_waiterCompletion_dup hsettlings hwaiters hposed.turns hposed.chunk
      (State.waiterEntry_of_holds hd hmember hread hx) (by rw [hw.frame])
    generalize (s.arise errs).waiterDup n c ref x = w at *
    rw [State.countWaiter_of_one (s := w) (by rw [hw.frame]; exact hsettlings) hwaiters] at hexec
    have hlane := hw.lane
    rw [hreleased, hchunkId] at hlane
    refine ⟨fun hlater => ?more, fun ring unit hlater hstray hcs hring hfree hunit => ?last⟩
    case more =>
      rw [State.finishSettlings_of_waiting rfl (by exact hlater)] at hexec
      refine ⟨_, hexec, ⟨hw.slot.1, hw.slot.2⟩, ⟨hlane.1, hlane.2⟩, hw.wrote.result_of_same rfl rfl, ?_⟩
      rw [hw.frame]
      rfl
    case last =>
      rw [State.finishSettlings_of_one rfl (by exact hlater) (by exact hstray)] at hexec
      generalize he : ({ w with settlings := [] } : State) = e at hexec
      have hfirst : s.Wrote e p (.verdict v) (s.port p).advanced := hw.wrote.result_of_same (by rw [← he]) (by rw [← he])
      have heport (k : PortNo) : e.port k = unit k := by
        rw [hunit]
        dsimp only
        by_cases hk : k = p
        · rw [hk, if_pos rfl, hfirst.port]
        · rw [if_neg hk, (hfirst.otherPorts k hk).1]
      have hce : e.canWrite g.sender = true := by
        by_cases hsender : g.sender = p
        · rw [hsender]
          exact State.canWrite_advanced hposed.ring hring (hfree hsender) hfirst.port
        · rw [State.canWrite_of_port (hfirst.otherPorts g.sender hsender).1]
          exact hcs
      obtain ⟨hsecond, hframe⟩ := State.complete_written hce _ rfl
      generalize e.complete g.sender _ = t at *
      have hadvanced : ({ (e.port g.sender).advanced with hand := none } : Port).ring = (e.port g.sender).ring := by
        obtain ⟨producer, pass, h⟩ := Port.advanced_eq (e.port g.sender)
        rw [h]
      have hrecord := hfirst.first hsecond hring hadvanced
      have hrecord' := hsecond.record
      rw [heport] at hrecord'
      have hindex : t.index = w.index := by rw [hframe, ← he]
      have hlanes : t.lanes = w.lanes := by rw [hframe, ← he]
      refine ⟨t, hexec, ⟨?_, fun b' j hne => ?_⟩, ⟨?_, fun m hm => ?_⟩, hrecord, hrecord', fun k => ?_, fun k hk hk' => ?_, ?_⟩
      · rw [State.bucket, hindex]
        exact hw.slot.1
      · rw [State.bucket, hindex]
        exact hw.slot.2 b' j hne
      · rw [State.lane, hlanes]
        exact hlane.1
      · rw [State.lane, hlanes]
        exact hlane.2 m hm
      · by_cases hk : k = g.sender
        · rw [if_pos hk, hk, hsecond.port, heport]
        · rw [if_neg hk, (hsecond.otherPorts k hk).1, heport]
      · rw [(hsecond.otherPorts k hk').2, (hfirst.otherPorts k hk).2]
      · rw [hframe, ← he, hw.frame]
  all_goals
    have hexec := exec_waiterCompletion_again hsettlings hwaiters hposed.turns hposed.chunk
      (State.waiterEntry_of_gone (s := s.arise errs) hgone)
    rw [State.releaseWaiters_one (s := s.arise errs) (by exact hposed.turns)
      (by rw [show ((s.arise errs).lane n).stalls = _ from hposed.stalls]; rfl)] at hexec
    have hexec := hexec rfl
    generalize hv : State.mk .. = v at hexec
    rw [State.countWaiter_of_one (s := v) (by rw [← hv]; exact hsettlings) hwaiters] at hexec
    have hlane : s.LaneBecomes v n { s.lane n with waitTarget := none, stalls := Stalls.clear } := by
      rw [← hreleased, ← hv]
      exact ⟨State.lane_setLane_self _, fun m hm => (State.laneBecomes_setLane _).2 m hm⟩
  case again =>
    rw [State.finishSettlings_of_waiting rfl (by exact hlater)] at hexec
    refine ⟨_, hexec, ⟨hlane.1, hlane.2⟩, ?_⟩
    rw [← hv]
    rfl
  case lastAgain =>
    rw [State.finishSettlings_of_one rfl (by exact hlater) (by exact hstray)] at hexec
    generalize he : ({ v with settlings := [] } : State) = e at hexec
    have hports : e.ports = s.ports := by rw [← he, ← hv]; rfl
    have hmemory : e.memory = s.memory := by rw [← he, ← hv]; rfl
    have hsender : e.port g.sender = s.port g.sender := State.port_of_ports hports _
    obtain ⟨hwrote, hframe⟩ := State.complete_written (s := e) ((State.canWrite_of_port hsender).trans hcs) _ rfl
    generalize e.complete g.sender _ = t at *
    rw [hsender] at hwrote
    have hlanes : t.lanes = v.lanes := by rw [hframe, ← he]
    refine ⟨t, hexec, ⟨?_, fun m hm => ?_⟩, hwrote.of_same hports hmemory, ?_⟩
    · rw [State.lane, hlanes]
      exact hlane.1
    · rw [State.lane, hlanes]
      exact hlane.2 m hm
    · rw [hframe, ← he, ← hv]
      rfl

end Sys2Proof.Machine
